-- ==== Sys2Proof/Word.lean ====
section
/-! DEFINITION. The words of the setting bank and of the copy, and their bytes (Conventions of 00; 11.1). -/

namespace Sys2Proof

/-- A bank word, a copy word, a 16-bit count that wraps. -/
abbrev Word := BitVec 16

/-- One of the two 8-bit values that share a word. -/
abbrev Byte := BitVec 8

end Sys2Proof
end

