-- ==== Sys2Proof/Syntax.lean ====
section
/-! DEFINITION. The commands of the TC-40: one constructor for each row of spec/opcode_table.json, with the values
the row's operation or event carries. -/

namespace Sys2Proof

/-- How the bank ended a host cycle. A fault on it is no concern of the part (R181), but memory may then hold
anything. -/
inductive BusResult where
  | good
  | fault
  deriving DecidableEq, Repr

/-- The commands. Copy words carry no operand: the word consumed is the one at the head of the capture run (R80). -/
inductive Instr where
  /-- POWER_ON, R134 -/
  | powerOn
  /-- HOST_RING_WRITE, R77: a host write of `data` at ring offset `offset`. -/
  | hostRingWrite (offset : Nat) (data : Word) (bus : BusResult)
  /-- HOLD_RELEASE, R170 -/
  | holdRelease
  /-- HOLD_LIMIT_EXPIRY, R170 -/
  | holdLimitExpiry
  /-- HOST_WRITE, R167: a host write of `data` at `offset`. -/
  | hostWrite (offset : Nat) (data : Word) (bus : BusResult)
  /-- FLAG_CELL_WRITE, R172 -/
  | flagCellWrite (data : Word) (bus : BusResult)
  /-- MASK_CELL_WRITE, R173 -/
  | maskCellWrite (data : Word) (bus : BusResult)
  /-- UNKNOWN_INTERVENTION, R174: the whole word written. -/
  | unknownIntervention (data : Word) (bus : BusResult)
  /-- ABORT_JOB, R191; the argument byte is not read. -/
  | abortJob (arg : Byte) (bus : BusResult)
  /-- WITHDRAW, R65: the argument is a position. -/
  | withdraw (arg : Byte) (bus : BusResult)
  /-- CLEAR_PATH, R182: the argument names a requester. -/
  | clearPath (arg : Byte) (bus : BusResult)
  /-- INBOX_TAKEN, R149 -/
  | inboxTaken (arg : Byte) (bus : BusResult)
  /-- CAPTURE_TAKEN, R192 -/
  | captureTaken (arg : Byte) (bus : BusResult)
  /-- RETURN_REQUEST, R150 -/
  | returnRequest (arg : Byte) (bus : BusResult)
  /-- RING_RESET, R83 -/
  | ringReset (arg : Byte) (bus : BusResult)
  /-- REPOST, R187 -/
  | repost (arg : Byte) (bus : BusResult)
  /-- ARBITER_GRANT, R177 -/
  | arbiterGrant
  /-- REFETCH_READ, R81 -/
  | refetchRead
  /-- LIBRARY_SEARCH_READ, R67 -/
  | librarySearchRead
  /-- LIBRARY_RECORD_READ, R68 -/
  | libraryRecordRead
  /-- DRAIN_READ, R163 -/
  | drainRead
  /-- SPOOL_WRITE, R159 -/
  | spoolWrite
  /-- STATUS_WRITE, R185 -/
  | statusWrite
  /-- BANK_FAULT, R178 -/
  | bankFault
  /-- POSTING_PASS_BEGIN, R185 -/
  | postingPassBegin
  /-- FILLER, R84 -/
  | filler
  /-- DISCRETIONARY_HYPHEN, R38 -/
  | discretionaryHyphen
  /-- TIE, R3 -/
  | tie
  /-- INTERWORD_SPACE, R2 -/
  | interwordSpace
  /-- CHARACTER, R4 -/
  | character
  /-- INVALID_CODE, R84 -/
  | invalidCode
  /-- UNKNOWN_COMMAND, R85 -/
  | unknownCommand
  /-- OPERAND_WORD, R85 -/
  | operandWord
  /-- JOB, R87 -/
  | job
  /-- ENDJOB, R89 -/
  | endjob
  /-- MEASURE, R91 -/
  | measure
  /-- LEAD, R91 -/
  | lead
  /-- FONT, R51 -/
  | font
  /-- SIZE, R73 -/
  | size
  /-- QUAD, R93 -/
  | quad
  /-- FIXSPACE, R93 -/
  | fixspace
  /-- HYPH, R43 -/
  | hyph
  /-- EXCEPT, R45 -/
  | exceptWord
  /-- UNEXCEPT, R46 -/
  | unexcept
  /-- LENSES, R72 -/
  | lenses
  /-- MOUNT, R63 -/
  | mount
  /-- RELEASE, R64 -/
  | release
  /-- ADVANCE, R97 -/
  | advance
  /-- REVERSE, R97 -/
  | reverse
  /-- CUT, R97: the copy command. -/
  | cut
  /-- PROOF, R152 -/
  | proofMode
  /-- DISPLAY, R146 -/
  | display
  /-- MARK, R106 -/
  | mark
  /-- HELD_ENTRY_ACCEPTED, R105 -/
  | heldEntryAccepted
  /-- MARK_WAIT_END, R106 -/
  | markWaitEnd
  /-- FONT_WAIT_END, R54 -/
  | fontWaitEnd
  /-- FONT_POSITION_RERUN, R53 -/
  | fontPositionRerun
  /-- CALL_TIMER_EXPIRY, R58: the timer of the entry at position `p`. -/
  | callTimerExpiry (p : Fin 8)
  /-- ENTRY_START, R116 -/
  | entryStart
  /-- MOTION_COMPLETE, R121 -/
  | motionComplete
  /-- MOTION_DEADLINE_EXPIRY, R120 -/
  | motionDeadlineExpiry
  /-- FLASH_SEEN, R122 -/
  | flashSeen
  /-- FLASH_MISSED, R122 -/
  | flashMissed
  /-- FLASH_TIMEOUT, R122 -/
  | flashTimeout
  /-- MANUAL_DEADLINE_EXPIRY, R132 -/
  | manualDeadlineExpiry
  /-- TAKE, R136 -/
  | take
  /-- RETURN, R138 -/
  | returnMachine
  /-- MOUNTED `p` `n`, R60, with the values as they arrive. -/
  | mounted (p n : Nat)
  /-- EMPTIED `p`, R61 -/
  | emptied (p : Nat)
  /-- DECLINE `p`, R62 -/
  | decline (p : Nat)
  /-- FILM LOADED `x` inches, R130 -/
  | filmLoaded (x : Nat)
  /-- The panel's ADVANCE ±`t`, R131 -/
  | panelAdvance (t : Int)
  /-- The panel's CUT, R131 -/
  | panelCut
  /-- CANCEL, R141 -/
  | cancel
  /-- MESSAGE, R148: the characters as they arrive. -/
  | message (text : List Nat)
  /-- UNKNOWN_PANEL_MESSAGE, R140 -/
  | unknownPanelMessage
  /-- PANEL_MESSAGE_SENT, R142 -/
  | panelMessageSent
  /-- PROOF_BEGIN_ENTRY, R153 -/
  | proofBeginEntry
  /-- PRINTER_ACKNOWLEDGE, R165 -/
  | printerAcknowledge
  /-- PRINTER_STATUS_CHANGE, R165: the two status lines as they now stand. -/
  | printerStatusChange (busy paperOut : Bool)
  /-- PRINTER_STALLED, R166 -/
  | printerStalled
  /-- COMMAND_WORD, R85 -/
  | commandWord
  deriving DecidableEq, Repr

end Sys2Proof
end

