-- ==== Sys2Proof/Decode.lean ====
section
/-! DEFINITION. The commands that words spell. The table of this block gives no row any bits: a command reaches the
part as a bus cycle, a report or an event, and no word spells one (log 27). -/

namespace Sys2Proof

/-- The command that the `nbits` bits of `w` spell by the table: none, for every word. -/
def decodeTableWord (_nbits _w : Nat) : Option Instr := none

end Sys2Proof
end

