-- ==== Sys2Proof/Config.lean ====
section
/-! DEFINITION. What the specification leaves open: free values, constants without a body, so that no proof can
see which value they are. Each is named in a row of the assumption log. -/

namespace Sys2Proof.Config

/-- FREE VALUE (log 4, log 5). What a bank word holds after a write cycle that the bank faulted (R178, R181, R187),
or that a power-on cut off. The argument is the model's counter, so that each such word is a fresh value. -/
opaque faultedWord : Nat → Word

/-- FREE VALUE (log 13). A count that the specification gives the range 0..65,535 and no wrap, past its range. -/
opaque countPastRange : Nat → Nat

/-- FREE VALUE (log 13). The ladder count after one more hyphen break at 255: R36 gives it the range 0..255 and states
neither a stop nor a wrap. -/
opaque ladderPastRange : Nat → Fin 256

/-- FREE VALUE (log 13). The signed 32-bit film used of a report, when the sum leaves that range. -/
opaque filmPastRange : Int → BitVec 32

/-- FREE VALUE (log 14). Whether a record that is both damaged and no longer the font's is refused as DAMAGED
(R68 names both outcomes and no order). -/
opaque damagedFirst : Bool

end Sys2Proof.Config
end

