-- ==== Sys2Proof/Machine/Layout.lean ====
section
/-! DEFINITION. The layout of the setting bank (00; 09 R167), of the font library (R66), of the status area (11.3),
and the fixed limits and durations the rules name. -/

namespace Sys2Proof.Machine

/-- The setting bank has 32,768 words (00). -/
def bankWords : Nat := 32768

/-- First offset of the font library, and the shape of its slots (03, 3.6). -/
def libraryBase : Nat := 512
def slotWords : Nat := 52
def slotCount : Nat := 147

/-- The bank offset of word `w` of library slot `k` (03, 3.6). -/
def slotOffset (k w : Nat) : Nat := libraryBase + slotWords * k + w

/-- First offset and size of the copy ring (00). -/
def ringBase : Nat := 8192
def ringWords : Nat := 16384

/-- Whether an offset lies in the copy ring. -/
def inRing (off : Nat) : Bool := ringBase ≤ off && off < ringBase + ringWords

/-- The offset `k` places after the ring offset `x` (04, opening). -/
def ringAfter (x k : Nat) : Nat := ringBase + (x - ringBase + k) % ringWords

/-- The capture run holds at most 32 words (R76). -/
def runLimit : Nat := 32

/-- First offsets of the two spool halves, and the words of one (00; R151). -/
def halfABase : Nat := 24576
def halfBBase : Nat := 28672
def halfWords : Nat := 4096

/-- The three control cells (09, 9.1) and the posting count (11.3). -/
def countCell : Nat := 1
def flagCell : Nat := 32
def maskCell : Nat := 33
def interventionCell : Nat := 34

/-- The offsets of the posted words but the posting count and the intervention cell, in rising order (R183; 11.3). -/
def postedOffsets : List Nat :=
  List.range' 2 23 ++ [flagCell, maskCell] ++ List.range' 40 6 ++ List.range' 48 34
    ++ List.range' 96 27 ++ List.range' 128 17 ++ [152] ++ List.range' 160 78

/-- The words of the posting made after power-on: the intervention cell is among them (R175, R187). -/
def powerOnOffsets : List Nat :=
  List.range' 2 23 ++ [flagCell, maskCell, interventionCell] ++ List.range' 40 6 ++ List.range' 48 34
    ++ List.range' 96 27 ++ List.range' 128 17 ++ [152] ++ List.range' 160 78

/-- The set queue never holds more than 6 entries (R103). -/
def queueLimit : Nat := 6

/-- A line holds at most 160 items (R21). -/
def itemLimit : Nat := 160

/-- Ranges of the format commands, in ticks (R91, R97). -/
def measureLimit : Nat := 10080
def leadLimit : Nat := 2880
def moveLimit : Nat := 14400

/-- Values of the format state at power-on, at a job abort and at JOB (R88). -/
def initialMeasure : Nat := 3600
def initialLead : Nat := 240
def initialSize : Nat := 20

/-- The hold limit in microseconds (R169). -/
def holdLimitMicros : Nat := 16

/-- The interval in seconds of a call step (R58). -/
def callInterval : Nat → Nat
  | 0 => 5
  | 1 => 10
  | 2 => 20
  | 3 => 40
  | _ => 80

/-- Ticks of an inch (00, Units). -/
def ticksPerInch : Nat := 1440

/-- The dictionary holds at most 512 entries (R44). -/
def dictionaryLimit : Nat := 512

end Sys2Proof.Machine
end

