-- ==== Sys2Proof/Machine/State.lean ====
section
/-! DEFINITION. The state of the TC-40, block by block, as plain data, and the state right after power-on. Each
field cites the rule that names it; a reset value the specification does not give is in the assumption log. -/

namespace Sys2Proof.Machine

/-! ### Bank Port (Chapter 9) -/

/-- One host write presented to the bank (R167, R181). -/
structure HostCycle where
  offset : Nat
  data : Word
  bus : BusResult
  deriving DecidableEq, Repr

/-- The hold timer (R169). -/
inductive HoldTimer where
  | idle
  | running
  deriving DecidableEq, Repr

/-- The five requesters, in the arbiter's order (R176, R177). -/
inductive Requester where
  | intake
  | library
  | drain
  | spool
  | status
  deriving DecidableEq, Repr

/-- One thing for each requester. -/
structure PerRequester (α : Type) where
  intake : α
  library : α
  drain : α
  spool : α
  status : α
  deriving DecidableEq, Repr

/-- What a part cycle is for (R176): the two kinds of library read are told apart. -/
inductive CycleKind where
  | refetch
  | search
  | record
  | drain
  | spool
  | status
  deriving DecidableEq, Repr

/-- A request waiting or in progress. `stale` marks one whose result the owner will discard (R176). -/
structure CycleRequest where
  kind : CycleKind
  offset : Nat
  data : Word
  stale : Bool
  deriving DecidableEq, Repr

/-- What the Bank Port holds. -/
structure BankPort where
  /-- R173 -/
  mask : Word
  /-- R169 -/
  holdTimer : HoldTimer
  /-- The held write; with the timer IDLE it has been released and has not yet completed (R170). -/
  held : Option HostCycle
  /-- Host cycles presented and not yet begun (R168). -/
  hostQueue : List HostCycle
  /-- The part cycle in progress (R168). -/
  cycle : Option Requester
  /-- R176 -/
  requests : PerRequester (Option CycleRequest)
  /-- R178 -/
  disabled : PerRequester Bool
  /-- R178 -/
  lastFault : PerRequester Nat
  deriving DecidableEq, Repr

/-! ### Copy Intake (Chapter 4) -/

/-- The kinds of copy error (R101). -/
inductive CopyError where
  | unknownCommand
  | outsideJob
  | badOperand
  | noFont
  | invalidCode
  | refusedMount
  | refusedRelease
  | lensesBusy
  | dictionaryFull
  deriving DecidableEq, Repr

/-- The twenty commands of the copy (R85). -/
inductive Cmd where
  | job
  | endjob
  | measure
  | lead
  | font
  | size
  | quad
  | fixspace
  | hyph
  | exceptWord
  | unexcept
  | lenses
  | mount
  | release
  | advance
  | reverse
  | cut
  | proofMode
  | display
  | mark
  deriving DecidableEq, Repr

/-- The command in progress (R84, R85): its command word and that word's ring offset, the operands consumed, the
number still expected, and whether a job abort came while its operands were being consumed, so that it is completed and
dropped (R100). -/
structure Command where
  cmd : Cmd
  word : Word
  offset : Nat
  operands : List Word
  remaining : Nat
  dropped : Bool
  deriving DecidableEq, Repr

/-- The report flags of a job (R194). -/
structure JobFlags where
  sumMismatch : Bool
  clamped : Bool
  fontSub : Bool
  sizeSub : Bool
  overset : Bool
  deriving DecidableEq, Repr

/-- A job tag: two tags agree when number and serial both agree (R103). -/
structure JobTag where
  number : Word
  serial : Word
  deriving DecidableEq, Repr

/-- The job state (R88). -/
structure JobState where
  inProgress : Bool
  number : Word
  serial : Word
  linesSet : Nat
  sum : Word
  flags : JobFlags
  deriving DecidableEq, Repr

/-- What Copy Intake holds. -/
structure Intake where
  intakeOffset : Nat
  consumeOffset : Nat
  fill : Nat
  run : List Word
  refetchCount : Word
  decoder : Option Command
  textRun : Bool
  job : JobState
  errKind : Option CopyError
  errOffset : Nat
  deriving DecidableEq, Repr

/-! ### Composer (Chapters 1, 2, 4) -/

/-- R99 -/
inductive ComposerState where
  | outsideJob
  | setting
  | lookahead
  | fontWait
  | queueWait
  | discarding
  deriving DecidableEq, Repr

/-- What a character or missing-character item records of its font and lens (R4, R5, R30). -/
structure Attr where
  pos : Fin 8
  lens : Fin 8
  size : Nat
  fontSub : Bool
  sizeSub : Bool
  deriving DecidableEq, Repr

/-- The five kinds of item (01, 1.2); every width is in fine. -/
inductive Item where
  | char (code : Nat) (attr : Attr) (width : Nat)
  | space (size min normal max : Nat)
  | fixed (units size width : Nat)
  | tie (size width : Nat)
  | missing (code : Nat) (attr : Attr) (width : Nat)
  deriving DecidableEq, Repr

/-- The running sums (R8). -/
structure Sums where
  c : Nat
  n : Nat
  nrm : Nat
  mn : Nat
  mx : Nat
  g : Nat
  k : Nat
  deriving DecidableEq, Repr

/-- The governing font with its copy of band and letterspace limit (R6, R49). -/
structure GovFont where
  font : Nat
  pos : Fin 8
  min : Nat
  normal : Nat
  max : Nat
  limit : Nat
  deriving DecidableEq, Repr

/-- The line under composition (R6 to R8). -/
structure Line where
  items : List Item
  sums : Sums
  gov : Option GovFont
  govSize : Nat
  measure : Nat
  lead : Nat
  deriving DecidableEq, Repr

/-- The word at the end of the line: its letters whichever line they joined, its discretionary points, and whether
it is ineligible for hyphenation (R22, R25, R33, R38). -/
structure WordRun where
  letters : Nat
  points : List Nat
  ineligible : Bool
  deriving DecidableEq, Repr

/-- Alignments (R11, R12). -/
inductive Align where
  | left
  | right
  | centre
  | justify
  deriving DecidableEq, Repr

/-- An item of a finished line: its escapement position and the width it was set at (R18). -/
structure SetItem where
  item : Item
  pos : Int
  width : Int
  deriving DecidableEq, Repr

/-- The flags of a line (R20). -/
structure LineFlags where
  hyphenated : Bool
  loose : Bool
  tight : Bool
  overset : Bool
  fontSub : Bool
  sizeSub : Bool
  missing : Bool
  deriving DecidableEq, Repr

/-- A LINE entry's own fields (R20, R104). -/
structure LineEntry where
  job : Word
  number : Nat
  align : Align
  lead : Nat
  gov : Option GovFont
  govSize : Nat
  items : List SetItem
  flags : LineFlags
  deriving DecidableEq, Repr

/-- Outcomes of a job (R194). -/
inductive JobOutcome where
  | complete
  | unterminated
  | aborted
  | overrun
  deriving DecidableEq, Repr

/-- A JOBEND entry's own fields (R104). -/
structure JobEndEntry where
  job : Word
  outcome : JobOutcome
  linesSet : Nat
  sumComputed : Word
  sumGiven : Word
  flags : JobFlags
  deriving DecidableEq, Repr

/-- The four kinds of entry with their own fields (R104). -/
inductive EntryKind where
  | line (l : LineEntry)
  | move (distance : Int)
  | cut
  | jobEnd (j : JobEndEntry)
  deriving DecidableEq, Repr

/-- A token that becomes an item (R23). A character keeps the ring offset of its word, for a copy error (R101). -/
inductive Token where
  | char (code offset : Nat)
  | tie (offset : Nat)
  | space
  | fixed (units : Nat)
  deriving DecidableEq, Repr

/-- A piece of the Composer's work in hand (R33, R99): what QUEUE WAIT keeps as it stood. -/
inductive Task where
  /-- The break choice of section 2.4; `again` when R34 makes it over carried items. -/
  | breakLine (again : Bool)
  /-- An entry to be queued. -/
  | offer (kind : EntryKind)
  /-- R10 over carried items; `previous` is the ended line's governing font. -/
  | newLine (carried : List Item) (previous : Option GovFont)
  /-- R34 -/
  | retest
  /-- R33, step 6 -/
  | token (t : Token)
  /-- R11; `always` when a line without items still makes an entry. -/
  | endLine (align : Align) (always : Bool)
  /-- The JOBEND of R87 or R89. -/
  | jobEnd (outcome : JobOutcome) (given : Word)
  /-- R88 -/
  | beginJob (number : Word)
  /-- ENDJOB accepted: OUTSIDE JOB (R89). -/
  | leaveJob
  /-- R106: the MARK becomes the single pending mark. -/
  | addMark (value : Word)
  deriving DecidableEq, Repr

/-- What QUEUE WAIT holds (R99, R106). -/
inductive Held where
  | entry (kind : EntryKind)
  | mark (value : Word)
  deriving DecidableEq, Repr

/-- What a FONT WAIT waits on (R53, R54). `ended` is how the wait on an entry ended, once it has: true for
selection. `due` says that the resolution is to be run again. -/
inductive WaitTarget where
  | entry (p : Fin 8) (ended : Option Bool)
  | position (due : Bool)
  deriving DecidableEq, Repr

/-- A FONT WAIT (R52 to R55): the font asked for, the character that waits (code and ring offset) when R55 made
the resolution, and whether the wait began in LOOKAHEAD. -/
structure FontWait where
  font : Nat
  target : WaitTarget
  char : Option (Nat × Nat)
  inLookahead : Bool
  deriving DecidableEq, Repr

/-- The current font: its number and the position selected for it (R55). -/
structure CurrentFont where
  font : Nat
  pos : Fin 8
  deriving DecidableEq, Repr

/-- What the Composer holds. -/
structure Composer where
  state : ComposerState
  measure : Nat
  lead : Nat
  sizeAsked : Nat
  lens : Fin 8
  lensSize : Nat
  sizeSub : Bool
  current : Option CurrentFont
  fontSub : Bool
  line : Line
  word : WordRun
  noFont : Bool
  ladder : Nat
  pendingMarks : List Word
  held : Option Held
  todo : List Task
  fontWait : Option FontWait
  deriving DecidableEq, Repr

/-- An exception dictionary entry (R44). The word is in small letters. -/
structure DictEntry where
  word : List Nat
  never : Bool
  positions : List Nat
  deriving DecidableEq, Repr

/-- What the Hyphenator holds (R43, R44). -/
structure Hyphenator where
  on : Bool
  leftMin : Nat
  rightMin : Nat
  ladderLimit : Nat
  dictionary : List DictEntry
  deriving DecidableEq, Repr

/-! ### Font Control (Chapter 3) -/

/-- R47 -/
inductive PosState where
  | vacant
  | requested
  | loading
  | mounted
  | fixed
  | refused
  deriving DecidableEq, Repr

/-- R47 -/
inductive Reason where
  | timeout
  | declined
  | noRecord
  | damaged
  | memoryError
  | busy
  | withdrawn
  deriving DecidableEq, Repr

/-- R47 -/
inductive Origin where
  | font (job : JobTag)
  | mount
  | panel
  deriving DecidableEq, Repr

/-- An entry of the position table (R47), with the font its call names for removal (R57) and the interval its call
timer runs under, in seconds (R58). -/
structure Position where
  font : Nat
  state : PosState
  reason : Option Reason
  age : Nat
  inUse : Nat
  callStep : Nat
  wait : Bool
  fix : Bool
  origin : Option Origin
  remove : Option Nat
  timer : Option Nat
  deriving DecidableEq, Repr

/-- A width record as the width store holds it (R70). -/
structure WidthRecord where
  min : Nat
  normal : Nat
  max : Nat
  limit : Nat
  widths : List Nat
  deriving DecidableEq, Repr

/-- The fetch in flight: its search (R67), or its record read with the words read so far, whether its first read has
been made, and its restart count (R68, R69). -/
inductive Fetch where
  | search (slot : Nat)
  | record (slot : Nat) (words : List Word) (watching : Bool) (restarts : Nat)
  deriving DecidableEq, Repr

/-- What Font Control holds. -/
structure FontControl where
  table : Vector Position 8
  widths : Vector (Option WidthRecord) 8
  lenses : Vector Nat 8
  fetchList : List (Fin 8)
  fetch : Option Fetch
  deriving DecidableEq, Repr

/-! ### Set Queue (Chapter 5) -/

/-- R152 -/
inductive ProofMode where
  | off
  | attached
  | detached
  deriving DecidableEq, Repr

/-- R103 -/
inductive PhotoState where
  | waiting
  | inExposure
  | exposed
  deriving DecidableEq, Repr

/-- R103 -/
inductive ProofState where
  | waiting
  | inProof
  | proofed
  deriving DecidableEq, Repr

/-- An entry of the set queue (R103). -/
structure Entry where
  kind : EntryKind
  tag : Option JobTag
  marks : List Word
  mode : ProofMode
  photo : PhotoState
  proof : ProofState
  deriving DecidableEq, Repr

/-- The exposure record (R110). -/
structure Exposure where
  tag : Option JobTag
  lines : Nat
  film : Int
  clamped : Bool
  deriving DecidableEq, Repr

/-- A report that waits on the entry in exposure (R113). -/
structure WaitingReport where
  tag : JobTag
  outcome : JobOutcome
  flags : JobFlags
  linesSet : Nat
  deriving DecidableEq, Repr

/-! ### Photounit Sequencer (Chapter 6) -/

/-- R115 -/
inductive SeqState where
  | idle
  | shifting
  | lens
  | stepping
  | flashing
  | moving
  | cutting
  | halted
  deriving DecidableEq, Repr

/-- R114 -/
inductive HaltKind where
  | lamp
  | shift
  | lens
  | step
  | filmDrive
  | cutter
  | filmLow
  deriving DecidableEq, Repr

/-- R114 -/
inductive Action where
  | leadMove
  | shift
  | lens
  | step
  | flash
  | filmMove
  | cut
  deriving DecidableEq, Repr

/-- An order on the photounit cable, to its target (R118). A film move says whether it was shortened at the last
cut (R128). -/
inductive Order where
  | shift (p : Fin 8)
  | lens (i : Fin 8)
  | step (t : Int)
  | flash
  | move (distance : Int) (clamped : Bool)
  | cut
  deriving DecidableEq, Repr

/-- A manual motion (R131). -/
inductive ManualMotion where
  | move (distance : Int)
  | cut
  deriving DecidableEq, Repr

/-- The manual motion in progress with its own expiry count and deadline (R132), and whether the state it left is
HALTED (else IDLE). -/
structure Manual where
  motion : ManualMotion
  expiry : Nat
  deadline : Nat
  leftHalted : Bool
  deriving DecidableEq, Repr

/-- The film account in ticks (R126). -/
structure Film where
  loaded : Int
  remaining : Int
  position : Int
  cutTotal : Int
  deriving DecidableEq, Repr

/-- What the Photounit Sequencer holds (R114); `none` for the three held values is UNKNOWN. -/
structure Sequencer where
  state : SeqState
  halt : Option HaltKind
  item : Option Nat
  action : Option Action
  failed : Option Action
  shifted : Option (Fin 8)
  lens : Option (Fin 8)
  escapement : Option Int
  expiry : Nat
  miss : Nat
  order : Option Order
  deadline : Option Nat
  manual : Option Manual
  film : Film
  deriving DecidableEq, Repr

/-! ### Panel Link (Chapter 7) -/

/-- R135 -/
inductive Ownership where
  | copy
  | taking
  | panel
  deriving DecidableEq, Repr

/-- R135 -/
inductive Alarm where
  | silent
  | sounding
  deriving DecidableEq, Repr

/-- The reason words of REFUSED (R143). -/
inductive ReasonWord where
  | unknown
  | badValue
  | notTaken
  | noJob
  | wrongFont (m : Nat)
  | loading
  | inUse
  | duplicate
  | notCalled
  | busy
  | filmLow
  | inboxFull
  | driveFault
  | cutterFault
  deriving DecidableEq, Repr

/-- What a halt holds, for line 1 (R144). -/
inductive HeldSubject where
  | line (job : Word) (number : Nat)
  | move
  | cut
  | nothing
  deriving DecidableEq, Repr

/-- The result a SHOW adds at the confirmation of a manual motion (R144). -/
inductive ManualResult where
  | moved (distance : Int)
  | cut
  deriving DecidableEq, Repr

/-- Line 1 of the display, by the four cases of R144. -/
inductive Line1 where
  | notice
  | halted (kind : Option HaltKind) (failed : Option Action) (held : HeldSubject)
  | call (p : Fin 8) (n : Nat) (remove : Option Nat)
  | status (ownership : Ownership) (seq : SeqState) (job : Option Word) (inches : Int) (result : Option ManualResult)
  deriving DecidableEq, Repr

/-- What an ALARM message carries (07, 7.4). -/
inductive AlarmOrder where
  | sound
  | silence
  | once
  deriving DecidableEq, Repr

/-- The four kinds of message to the panel (07, 7.4). -/
inductive PanelMessage where
  | display (line1 : Line1) (hostLine : List Nat)
  | mountCall (p : Fin 8) (n : Nat) (remove : Option Nat)
  | alarm (order : AlarmOrder)
  | refused (reason : ReasonWord)
  deriving DecidableEq, Repr

/-- What the Panel Link holds (R135). The outbound list is held in two parts (R142; log 10): the message now on the
serial link, and the messages that wait behind it. -/
structure PanelLink where
  ownership : Ownership
  hostLine : List Nat
  alarm : Alarm
  calls : List (Fin 8)
  inbox : Option (List Nat)
  outbound : List PanelMessage
  sending : Option PanelMessage
  deriving DecidableEq, Repr

/-- The outbound list of R135: the messages made for the panel and not yet sent, in order. -/
def PanelLink.unsent (l : PanelLink) : List PanelMessage := l.sending.toList ++ l.outbound

/-! ### Proof Unit (Chapter 8) -/

/-- R151 -/
inductive Half where
  | a
  | b
  deriving DecidableEq, Repr

/-- R158 -/
inductive HalfState where
  | empty
  | filling
  | full
  deriving DecidableEq, Repr

/-- A point of the spool: a half and an offset 0..4,096 within it (R151). -/
structure SpoolPoint where
  half : Half
  offset : Nat
  deriving DecidableEq, Repr

/-- What the writing of a record brings about (R154). -/
inductive RecordRole where
  | gap
  | header (job : Word)
  | own
  deriving DecidableEq, Repr

/-- A print record to write (R154). -/
structure PrintRecord where
  role : RecordRole
  chars : List Nat
  deriving DecidableEq, Repr

/-- The record the drain is reading (R163, R197): its character count, its character words, where the drain point
moves when they are read, and what has been read. -/
structure Reading where
  count : Nat
  words : Nat
  stop : Nat
  got : List Word
  deriving DecidableEq, Repr

/-- R151 -/
inductive PortState where
  | idle
  | held
  | awaiting
  deriving DecidableEq, Repr

/-- What the Proof Unit holds (R151), and the printer's two status lines (R165). -/
structure ProofUnit where
  mode : ProofMode
  records : List PrintRecord
  written : Nat
  writePoint : SpoolPoint
  drainPoint : SpoolPoint
  halfA : HalfState
  halfB : HalfState
  gap : Nat
  job : Option Word
  reading : Option Reading
  buffer : Option (List Nat)
  port : PortState
  portIndex : Nat
  stalled : Bool
  busy : Bool
  paperOut : Bool
  deriving DecidableEq, Repr

/-! ### Status Writer (Chapter 10) -/

/-- The fourteen event flags, in the order of R188's table, JOB REPORT at bit 0 (11.3). -/
inductive EventFlag where
  | jobReport
  | markReached
  | mountCall
  | mountRefused
  | overset
  | filmLow
  | unitFault
  | ownership
  | inbox
  | printerStalled
  | memoryError
  | ringOverrun
  | copyError
  | dictionaryFull
  deriving DecidableEq, Repr

/-- The pass under way: the words still to be written with their values, the next first; with none left, its count
cycle is to come (R185). -/
structure Pass where
  words : List (Nat × Word)
  deriving DecidableEq, Repr

/-- The overset capture (R35). -/
structure Capture where
  held : Bool
  count : Nat
  job : Word
  line : Nat
  codes : List Nat
  deriving DecidableEq, Repr

/-- A job report (R112, R194); an empty slot has no outcome. -/
structure Report where
  job : Word
  outcome : Option JobOutcome
  flags : JobFlags
  linesSet : Nat
  linesExposed : Nat
  film : Int
  sumComputed : Word
  sumGiven : Word
  deriving DecidableEq, Repr

/-- What the Status Writer holds (R183). -/
structure StatusWriter where
  flags : Word
  count : Word
  marks : List Nat
  pass : Option Pass
  capture : Capture
  markValue : Word
  markCount : Word
  reports : Vector Report 8
  nextSlot : Fin 8
  deriving DecidableEq, Repr

/-! ### The machine -/

/-- The whole state. -/
structure State where
  /-- The setting bank: the words that do not read 0, in rising order of offset. -/
  mem : List (Nat × Word)
  port : BankPort
  intake : Intake
  composer : Composer
  hyph : Hyphenator
  font : FontControl
  queue : List Entry
  exposure : Exposure
  waitingReport : Option WaitingReport
  seq : Sequencer
  panel : PanelLink
  proof : ProofUnit
  status : StatusWriter
  /-- The model's own counter: how many free values have been taken (log 4). -/
  freeCount : Nat
  /-- The model's own queue of commands, first in first out. -/
  pending : List Instr
  deriving DecidableEq, Repr

/-- Why a step can stop with a fault. -/
inductive Fault where
  /-- Raised by HOST_RING_WRITE and HOST_WRITE when the offset is above 32,767: the bank has no such word. Safe: the
  host has no cycle that could name it. -/
  | offBank (offset : Nat)
  deriving DecidableEq, Repr

/-- Why a step can be refused. -/
inductive Refusal where
  /-- Raised by a row of the table that has no meaning yet. Safe: nothing can be proved of it. No row is left so. -/
  | notModelled (mnemonic : String)
  deriving DecidableEq, Repr

/-- No report flag set (R88). -/
def JobFlags.none : JobFlags :=
  { sumMismatch := false, clamped := false, fontSub := false, sizeSub := false, overset := false }

/-- Every sum 0 (R8). -/
def Sums.zero : Sums := { c := 0, n := 0, nrm := 0, mn := 0, mx := 0, g := 0, k := 0 }

/-- A line that holds no items. Its measure, lead and sizes are set when the first item enters (R6, R7). -/
def Line.empty : Line :=
  { items := [], sums := Sums.zero, gov := none, govSize := 0, measure := 0, lead := 0 }

/-- No word at the end of the line. -/
def WordRun.none : WordRun := { letters := 0, points := [], ineligible := false }

/-- A VACANT entry (R74). -/
def Position.vacant : Position :=
  { font := 0, state := .vacant, reason := none, age := 0, inUse := 0, callStep := 0, wait := false, fix := false,
    origin := none, remove := none, timer := none }

/-- The exposure record reset to none (R110). -/
def Exposure.none : Exposure := { tag := Option.none, lines := 0, film := 0, clamped := false }

/-- An empty capture (R35). -/
def Capture.empty : Capture := { held := false, count := 0, job := 0, line := 0, codes := List.replicate 48 0 }

/-- An empty report slot (R193). -/
def Report.empty : Report :=
  { job := 0, outcome := none, flags := JobFlags.none, linesSet := 0, linesExposed := 0, film := 0,
    sumComputed := 0, sumGiven := 0 }

/-- No film account (R114). -/
def Film.zero : Film := { loaded := 0, remaining := 0, position := 0, cutTotal := 0 }

/-- The power-on lens list (R72). -/
def powerOnLenses : Vector Nat 8 := #v[12, 14, 16, 18, 20, 24, 28, 36]

/-- The power-on SHOW, as R144 composes it: the state text (R135). -/
def powerOnShow : PanelMessage := .display (.status .copy .idle none 0 none) []

def BankPort.reset : BankPort :=
  { mask := 0, holdTimer := .idle, held := none, hostQueue := [], cycle := none,
    requests := { intake := none, library := none, drain := none, spool := none, status := none },
    disabled := { intake := false, library := false, drain := false, spool := false, status := false },
    lastFault := { intake := 0, library := 0, drain := 0, spool := 0, status := 0 } }

def JobState.reset : JobState :=
  { inProgress := false, number := 0, serial := 0, linesSet := 0, sum := 0, flags := JobFlags.none }

def Intake.reset : Intake :=
  { intakeOffset := ringBase, consumeOffset := ringBase, fill := 0, run := [], refetchCount := 0, decoder := none,
    textRun := false, job := JobState.reset, errKind := none, errOffset := 0 }

/-- The size asked 20 resolves to index 4 of the power-on lens list, by rule 1 of R73. -/
def Composer.reset : Composer :=
  { state := .outsideJob, measure := initialMeasure, lead := initialLead, sizeAsked := initialSize, lens := 4,
    lensSize := 20, sizeSub := false, current := none, fontSub := false, line := Line.empty, word := WordRun.none,
    noFont := false, ladder := 0, pendingMarks := [], held := none, todo := [], fontWait := none }

def Hyphenator.reset : Hyphenator :=
  { on := true, leftMin := 2, rightMin := 3, ladderLimit := 3, dictionary := [] }

def FontControl.reset : FontControl :=
  { table := Vector.replicate 8 Position.vacant, widths := Vector.replicate 8 none, lenses := powerOnLenses,
    fetchList := [], fetch := none }

def Sequencer.reset : Sequencer :=
  { state := .idle, halt := none, item := none, action := none, failed := none, shifted := none, lens := none,
    escapement := none, expiry := 0, miss := 0, order := none, deadline := none, manual := none, film := Film.zero }

/-- The outbound list holds the power-on SHOW and ALARM SILENCE (R135); the SHOW, its first, is being sent (R142; log
10). -/
def PanelLink.reset : PanelLink :=
  { ownership := .copy, hostLine := [], alarm := .silent, calls := [], inbox := none,
    outbound := [.alarm .silence], sending := some powerOnShow }

def ProofUnit.reset : ProofUnit :=
  { mode := .off, records := [], written := 0, writePoint := { half := .a, offset := 0 },
    drainPoint := { half := .a, offset := 0 }, halfA := .empty, halfB := .empty, gap := 0, job := none,
    reading := none, buffer := none, port := .idle, portIndex := 0, stalled := false, busy := false,
    paperOut := false }

def StatusWriter.reset : StatusWriter :=
  { flags := 0, count := 0, marks := powerOnOffsets, pass := none, capture := Capture.empty, markValue := 0,
    markCount := 0, reports := Vector.replicate 8 Report.empty, nextSlot := 0 }

/-- The machine right after power-on (R74, R76, R99, R103, R114, R135, R151, R183). -/
def State.reset : State :=
  { mem := [], port := BankPort.reset, intake := Intake.reset, composer := Composer.reset, hyph := Hyphenator.reset,
    font := FontControl.reset, queue := [], exposure := Exposure.none, waitingReport := none, seq := Sequencer.reset,
    panel := PanelLink.reset, proof := ProofUnit.reset, status := StatusWriter.reset, freeCount := 0, pending := [] }

end Sys2Proof.Machine
end

