-- ==== Sys2Proof/Machine/Ops.lean ====
section
/-! DEFINITION. The shared operations under every meaning: reading and writing a word of the setting bank, the
change marks, the requesters, free values, and the counts that wrap or stop. -/

namespace Sys2Proof.Machine

/-! ### The setting bank -/

/-- What the bank holds at `off`; an unlisted word reads 0 (DESIGN CHOICE, log 3). -/
def readMem : List (Nat × Word) → Nat → Word
  | [], _ => 0
  | (a, w) :: m, off => if a = off then w else readMem m off

/-- The bank with `w` at `off`, in canonical form: a word that reads 0 is not listed. -/
def writeMem : List (Nat × Word) → Nat → Word → List (Nat × Word)
  | [], off, w => if w = 0 then [] else [(off, w)]
  | (a, v) :: m, off, w =>
    if off < a then (if w = 0 then (a, v) :: m else (off, w) :: (a, v) :: m)
    else if off = a then (if w = 0 then m else (off, w) :: m)
    else (a, v) :: writeMem m off w

/-- Every listed offset is at least `low`, offsets rise strictly, and no listed word is 0. -/
def memWfFrom : Nat → List (Nat × Word) → Bool
  | _, [] => true
  | low, (a, w) :: m => low ≤ a && w != 0 && memWfFrom (a + 1) m

/-- The canonical form of the bank. -/
def memWf (m : List (Nat × Word)) : Bool := memWfFrom 0 m

/-- The word of the bank at `off`: what a host read gets (R167) and what a part read gets. -/
def State.read (s : State) (off : Nat) : Word := readMem s.mem off

/-- A good write of `w` at `off`. -/
def State.write (s : State) (off : Nat) (w : Word) : State := { s with mem := writeMem s.mem off w }

/-- A write that the bank did not make correctly: the word may be left in any state (R178). FREE VALUE, log 4. -/
def State.writeFaulted (s : State) (off : Nat) : State :=
  { s with mem := writeMem s.mem off (Config.faultedWord s.freeCount), freeCount := s.freeCount + 1 }

/-- The data of a host write reaching memory, with what the bank made of it (R181). -/
def State.hostStore (s : State) (off : Nat) (w : Word) : BusResult → State
  | .good => s.write off w
  | .fault => s.writeFaulted off

/-! ### Change marks (R183, R185) -/

/-- A sorted list of offsets with `off` added, none repeated. -/
def insertOffset (off : Nat) : List Nat → List Nat
  | [] => [off]
  | a :: l => if off < a then off :: a :: l else if off = a then a :: l else a :: insertOffset off l

/-- The status words at `offs` are marked for the next posting pass. -/
def State.mark (s : State) (offs : List Nat) : State :=
  { s with status.marks := offs.foldl (fun l o => insertOffset o l) s.status.marks }

/-- The status word at `off` is marked when `changed`. -/
def State.markIf (s : State) (changed : Bool) (offs : List Nat) : State := if changed then s.mark offs else s

/-- A full posting: every posted word is marked (R187). The intervention cell has no change mark (R175). -/
def State.markAll (s : State) : State := s.mark postedOffsets

/-! ### Requesters -/

def PerRequester.get {α : Type} (v : PerRequester α) : Requester → α
  | .intake => v.intake
  | .library => v.library
  | .drain => v.drain
  | .spool => v.spool
  | .status => v.status

def PerRequester.set {α : Type} (v : PerRequester α) (r : Requester) (x : α) : PerRequester α :=
  match r with
  | .intake => { v with intake := x }
  | .library => { v with library := x }
  | .drain => { v with drain := x }
  | .spool => { v with spool := x }
  | .status => { v with status := x }

/-- The request of `r` is given up: its cycle will be made and its result discarded (R176). -/
def State.giveUpRequest (s : State) (r : Requester) : State :=
  match s.port.requests.get r with
  | none => s
  | some q => { s with port.requests := s.port.requests.set r (some { q with stale := true }) }

/-! ### Counts -/

/-- The next value of a count of the range 0..65,535 for which the rules give no wrap. FREE VALUE past it, log 13. -/
def nextCount (n : Nat) : Nat := if n < 65535 then n + 1 else Config.countPastRange n

/-- The ladder count after one more hyphen break (R36). FREE VALUE past 255, log 13. -/
def nextLadder (n : Nat) : Nat := if n < 255 then n + 1 else (Config.ladderPastRange n).val

/-- A count that stops at `top`. -/
def stepUpTo (top n : Nat) : Nat := if n < top then n + 1 else top

/-- A position number 0..7, when `p` is one. -/
def asPosition (p : Nat) : Option (Fin 8) := if h : p < 8 then some ⟨p, h⟩ else none

/-- The lowest position for which `f` holds. -/
def findPosition (f : Fin 8 → Bool) : Option (Fin 8) := (List.finRange 8).find? f

end Sys2Proof.Machine
end

