-- ==== Sys2Proof/Machine/Operands.lean ====
section
/-! DEFINITION. Fields of copy words, operands, library words and spool words (11.1, 11.2, 11.4), and the digits of
printed numbers. -/

namespace Sys2Proof.Machine

/-- The high byte of a word: the first of two 8-bit values (11, opening). -/
def hiByte (w : Word) : Nat := w.toNat / 256

/-- The low byte of a word. -/
def loByte (w : Word) : Nat := w.toNat % 256

/-- Two 8-bit values in a word, the first in the high byte. -/
def pairWord (hi lo : Nat) : Word := BitVec.ofNat 16 ((hi % 256) * 256 + lo % 256)

/-- Whether bit `i` of a word is set. -/
def wordBit (w : Word) (i : Nat) : Bool := w.getLsbD i

/-- Bits `lo + len - 1 .. lo` of a word, as a number. -/
def wordField (w : Word) (lo len : Nat) : Nat := w.toNat / 2 ^ lo % 2 ^ len

/-- The number of words that carry `c` values, two to a word. -/
def wordsFor (c : Nat) : Nat := (c + 1) / 2

/-- The 8-bit values of a list of words, the earlier of each word in the high byte. -/
def bytesOf : List Word → List Nat
  | [] => []
  | w :: ws => hiByte w :: loByte w :: bytesOf ws

/-- The first `c` of the values that a list of words carries: with an odd count the low byte of the last word is not
looked at (R85, R196). -/
def valuesOf (ws : List Word) (c : Nat) : List Nat := (bytesOf ws).take c

/-- The words that carry a list of 8-bit values. With an odd count the low byte of the last word, of which the rules
say nothing where the part writes it, is 0 (DESIGN CHOICE, log 45). -/
def packBytes : List Nat → List Word
  | [] => []
  | [a] => [pairWord a 0]
  | a :: b :: l => pairWord a b :: packBytes l

/-- The inline byte of a command word (11.1). -/
def inlineByte (w : Word) : Nat := loByte w

/-- The command number of a command word: bits 14..8 (11.1). -/
def commandNumber (w : Word) : Nat := wordField w 8 7

/-- High and low word of a 32-bit value (11, opening). -/
def highWord (v : BitVec 32) : Word := v.extractLsb' 16 16
def lowWord (v : BitVec 32) : Word := v.extractLsb' 0 16

/-- Decimal digits of a number below 10 ^ fuel, without leading zeros, as character codes. -/
def decimalFuel : Nat → Nat → List Nat
  | 0, _ => []
  | fuel + 1, n => if n < 10 then [48 + n] else decimalFuel fuel (n / 10) ++ [48 + n % 10]

/-- A number as printed: decimal, without leading zeros. -/
def decimal (n : Nat) : List Nat := decimalFuel (n + 1) n

/-- The codes of a piece of printed text. -/
def codesOf (l : List Char) : List Nat := l.map Char.toNat

/-- Whether a code is a letter (R22). -/
def isLetter (c : Nat) : Bool := (0x41 ≤ c && c ≤ 0x5A) || (0x61 ≤ c && c ≤ 0x7A)

/-- A letter folded to small letters (R37). -/
def foldLetter (c : Nat) : Nat := if 0x41 ≤ c && c ≤ 0x5A then c + 0x20 else c

/-- A character code a text may hold (R135, R146). -/
def isTextCode (c : Nat) : Bool := 0x20 ≤ c && c ≤ 0x7E

/-- The galley sum after the word `w`: rotated left by one place, and `w` added (R90). -/
def galleyStep (sum w : Word) : Word := sum.rotateLeft 1 + w

end Sys2Proof.Machine
end

