-- ==== Sys2Proof/Machine/Flags.lean ====
section
/-! DEFINITION. The event flags and the interrupt line (R188, R189), the copy error record (R101), and the report
flags of the job in progress (R102, R194). -/

namespace Sys2Proof.Machine

/-- The bit of a flag in the flag cell and the mask cell (11.3). -/
def EventFlag.bit : EventFlag → Nat
  | .jobReport => 0
  | .markReached => 1
  | .mountCall => 2
  | .mountRefused => 3
  | .overset => 4
  | .filmLow => 5
  | .unitFault => 6
  | .ownership => 7
  | .inbox => 8
  | .printerStalled => 9
  | .memoryError => 10
  | .ringOverrun => 11
  | .copyError => 12
  | .dictionaryFull => 13

/-- The word with the flag's bit alone. -/
def EventFlag.word (f : EventFlag) : Word := 1#16 <<< f.bit

/-- Whether flag `f` stands in the internal flag set. -/
def State.flagSet (s : State) (f : EventFlag) : Bool := s.status.flags.getLsbD f.bit

/-- Raising a flag adds it to the internal set and marks the flag cell; a flag that is already set is not changed and
the raise has no further effect (R188). -/
def State.raise (s : State) (f : EventFlag) : State :=
  if s.flagSet f then s
  else ({ s with status.flags := s.status.flags ||| f.word } : State).mark [flagCell]

/-- The bits of the mask and flag cells that name a flag. -/
def flagBits : Word := 0x3FFF

/-- The interrupt line: asserted exactly when some event flag is set whose mask bit is set (R189). -/
def State.interruptLine (s : State) : Bool := s.status.flags &&& s.port.mask &&& flagBits != 0

/-- The flag set after a host write of `v` to the flag cell (R172). -/
def clearFlags (flags v : Word) : Word := flags &&& ~~~v

/-- A copy error of kind `k` at ring offset `off` is recorded, marked for posting and raised (R101). -/
def State.copyError (s : State) (k : CopyError) (off : Nat) : State :=
  (({ s with intake.errKind := some k, intake.errOffset := off } : State).mark [21, 22]).raise .copyError

/-- CLAMPED in the report of the job in progress; with no job in progress no flag is set (R102). -/
def State.flagClamped (s : State) : State :=
  if s.intake.job.inProgress then { s with intake.job.flags.clamped := true } else s

/-- The report flags after an item is made: FONT SUBSTITUTED when it carries that mark, SIZE SUBSTITUTED when it is made
through a substituted lens (R56, R194). -/
def JobFlags.withItem (f : JobFlags) (fontSub sizeSub : Bool) : JobFlags :=
  { f with fontSub := f.fontSub || fontSub, sizeSub := f.sizeSub || sizeSub }

/-- The current job as it is posted: 0 with no job in progress (R184). -/
def State.currentJob (s : State) : Word := if s.intake.job.inProgress then s.intake.job.number else 0

end Sys2Proof.Machine
end

