-- ==== Sys2Proof/Machine/PanelLink.lean ====
section
/-! DEFINITION. The Panel Link (Chapter 7): the outbound list, the display, the alarm, the call list, and the
ownership of the machine. -/

namespace Sys2Proof.Machine

/-! ### The outbound list (R142) -/

def PanelMessage.isDisplay : PanelMessage → Bool
  | .display _ _ => true
  | _ => false

def PanelMessage.isAlarm : PanelMessage → Bool
  | .alarm _ => true
  | _ => false

def PanelMessage.isCallFor (p : Fin 8) : PanelMessage → Bool
  | .mountCall q _ _ => q == p
  | _ => false

def PanelMessage.isRefused : PanelMessage → Bool
  | .refused _ => true
  | _ => false

/-- A list without its first element of the kind `f`. -/
def dropFirst (f : PanelMessage → Bool) : List PanelMessage → List PanelMessage
  | [] => []
  | m :: l => if f m then l else m :: dropFirst f l

/-- The waiting messages that a new message leaves: a SHOW, an ALARM, and a MOUNT CALL for the same position replace
a waiting one of their own sort, and a ninth REFUSED removes the oldest (R142). -/
def keptBy (m : PanelMessage) (l : List PanelMessage) : List PanelMessage :=
  match m with
  | .display _ _ => l.filter (fun x => !x.isDisplay)
  | .alarm _ => l.filter (fun x => !x.isAlarm)
  | .mountCall p _ _ => l.filter (fun x => !x.isCallFor p)
  | .refused _ => if 8 ≤ (l.filter PanelMessage.isRefused).length then dropFirst PanelMessage.isRefused l else l

/-- A free link takes up the first message of the list at once (R142; log 10). -/
def PanelLink.startLink (l : PanelLink) : PanelLink :=
  { l with sending := l.sending.orElse (fun _ => l.outbound.head?),
           outbound := if l.sending.isSome then l.outbound else l.outbound.tail }

/-- A message joins the end of the list, and is on the link at once when nothing is being sent (R142). -/
def PanelLink.make (l : PanelLink) (m : PanelMessage) : PanelLink :=
  ({ l with outbound := keptBy m l.outbound ++ [m] } : PanelLink).startLink

/-- The message on the link has been sent, and the next of the list begins (R142). -/
def PanelLink.sent (l : PanelLink) : PanelLink := ({ l with sending := none } : PanelLink).startLink

/-- A message to the panel is made (R142). -/
def State.toPanel (s : State) (m : PanelMessage) : State := { s with panel := s.panel.make m }

/-- A message from the panel is refused with a reason word (R143). -/
def State.refuse (s : State) (r : ReasonWord) : State := s.toPanel (.refused r)

/-! ### The display (R144) -/

/-- The entry in exposure (R107, R114). -/
def State.inExposure (s : State) : Option Entry := s.queue.find? (fun e => e.photo == .inExposure)

/-- The entry a halt holds, as line 1 names it (R144). -/
def State.heldSubject (s : State) : HeldSubject :=
  match s.inExposure with
  | some { kind := .line l, .. } => .line l.job l.number
  | some { kind := .move _, .. } => .move
  | some { kind := .cut, .. } => .cut
  | _ => .nothing

/-- The text of line 1, from the first case that applies (R144). The result of a manual motion stands in the last case
alone; R131 has a clamped manual reverse shown with the distance moved, without exception, and where the motion left HALTED
or a call is out the model follows the order of R144's cases (DEDUCED, log 53). -/
def State.line1 (s : State) (notice : Bool) (result : Option ManualResult) : Line1 :=
  if notice then .notice
  else if s.seq.state = .halted then .halted s.seq.halt s.seq.failed s.heldSubject
  else match s.panel.calls with
    | p :: _ => .call p s.font.table[p].font s.font.table[p].remove
    | [] => .status s.panel.ownership s.seq.state (s.exposure.tag.map (·.number))
        (s.seq.film.remaining / ticksPerInch) result

/-- A SHOW is made, with the text composed at this moment and the host line as it stands (R144, R145). -/
def State.showWith (s : State) (notice : Bool) (result : Option ManualResult) : State :=
  s.toPanel (.display (s.line1 notice result) s.panel.hostLine)

/-- A SHOW without a notice and without a result. -/
def State.display (s : State) : State := s.showWith false none

/-! ### The alarm (R147) -/

/-- ALARM ONCE is made when the alarm is SILENT. -/
def State.alarmOnce (s : State) : State :=
  if s.panel.alarm = .silent then s.toPanel (.alarm .once) else s

/-- MOUNT CALL and ALARM sent for the entry at `p`, at the call and at each repeat (R57, R58, R147). -/
def State.sendCall (s : State) (p : Fin 8) : State :=
  (s.toPanel (.mountCall p s.font.table[p].font s.font.table[p].remove)).toPanel (.alarm .sound)

/-- A call is made for the entry at `p`, which has become REQUESTED: it joins the call list, the alarm sounds, the
messages are sent, and MOUNT CALL is raised (R57, R135, R147). -/
def State.makeCall (s : State) (p : Fin 8) : State :=
  let s := { s with panel.calls := s.panel.calls.filter (· ≠ p) ++ [p], panel.alarm := .sounding }
  (s.sendCall p).raise .mountCall

/-- The call for position `p` ends: it leaves the call list, a waiting MOUNT CALL for it is removed, a SHOW is made,
and the alarm is silenced when no other call is out (R59, R142, R147). -/
def State.endCall (s : State) (p : Fin 8) : State :=
  if s.panel.calls.contains p then
    let s := { s with panel.calls := s.panel.calls.filter (· ≠ p),
                      panel.outbound := s.panel.outbound.filter (fun x => !x.isCallFor p) }
    let s := s.display
    if s.panel.calls.isEmpty then ({ s with panel.alarm := .silent } : State).toPanel (.alarm .silence) else s
  else s

/-! ### Ownership (R139) -/

/-- The ownership becomes `o`: OWNERSHIP is raised and the posted ownership marked (R139). -/
def State.ownBy (s : State) (o : Ownership) : State :=
  (({ s with panel.ownership := o } : State).raise .ownership).mark [2]

/-- A change of ownership raises OWNERSHIP, marks the posted ownership and makes a SHOW; no change does nothing. -/
def State.setOwnership (s : State) (o : Ownership) : State :=
  if s.panel.ownership = o then s else (s.ownBy o).display

end Sys2Proof.Machine
end

