-- ==== Sys2Proof/Machine/FontControl.lean ====
section
/-! DEFINITION. Font Control (Chapter 3): the position table and its in-use counts and ages, mount calls, the fetch
list, the resolution of a font and of a size. -/

namespace Sys2Proof.Machine

/-! ### In-use counts (R49) -/

/-- The position an item records; spaces and ties record none (R49). -/
def Item.pos? : Item → Option (Fin 8)
  | .char _ a _ => some a.pos
  | .missing _ a _ => some a.pos
  | _ => none

/-- The lens size an item records. -/
def Item.size : Item → Nat
  | .char _ a _ => a.size
  | .space s _ _ _ => s
  | .fixed _ s _ => s
  | .tie s _ => s
  | .missing _ a _ => a.size

/-- The substitution marks and position an item records, when it records any (R4, R5). -/
def Item.attr? : Item → Option Attr
  | .char _ a _ => some a
  | .missing _ a _ => some a
  | _ => none

def itemsHold (p : Fin 8) (l : List Item) : Bool := l.any (fun i => i.pos? == some p)

def LineEntry.holds (p : Fin 8) (l : LineEntry) : Bool := l.items.any (fun i => i.item.pos? == some p)

def EntryKind.holds (p : Fin 8) : EntryKind → Bool
  | .line l => l.holds p
  | _ => false

def Task.holds (p : Fin 8) : Task → Bool
  | .offer k => k.holds p
  | .newLine l _ => itemsHold p l
  | _ => false

def Held.holds (p : Fin 8) : Held → Bool
  | .entry k => k.holds p
  | .mark _ => false

/-- Whether the line under composition holds an item of position `p`. A finished line that waits in QUEUE WAIT, and
the items carried from it, are the Composer's still (R20, R99). -/
def Composer.holds (c : Composer) (p : Fin 8) : Bool :=
  itemsHold p c.line.items || c.held.any (Held.holds p) || c.todo.any (Task.holds p)

/-- The in-use count of position `p` as R49 defines it. -/
def State.inUseOf (s : State) (p : Fin 8) : Nat :=
  (s.queue.filter (fun e => e.kind.holds p)).length + if s.composer.holds p then 1 else 0

/-- First offset of the position mirror of `p` (11.3). -/
def mirrorOffset (p : Fin 8) : Nat := 48 + 4 * p.val

/-- The in-use count of `p` is brought up to date (R49). -/
def State.refreshInUseAt (s : State) (p : Fin 8) : State :=
  let n := s.inUseOf p
  if s.font.table[p].inUse = n then s
  else ({ s with font.table := s.font.table.set p { s.font.table[p] with inUse := n } } : State).mark
    [mirrorOffset p + 3]

/-- Every in-use count is brought up to date (R49). -/
def State.refreshInUse (s : State) : State := (List.finRange 8).foldl State.refreshInUseAt s

/-! ### The position table (R47, R48) -/

/-- Whether an entry can set type (R47). -/
def Position.ready (e : Position) : Bool := e.state == .mounted || e.state == .fixed

/-- Whether an entry holds font `n` in one of the four states of R48. -/
def Position.claims (e : Position) (n : Nat) : Bool :=
  e.font == n && (e.state == .requested || e.state == .loading || e.ready)

/-- The mirror words that differ between two entries (R47). -/
def mirrorChanges (p : Fin 8) (old new : Position) : List Nat :=
  (if old.font = new.font then [] else [mirrorOffset p])
    ++ (if old.state = new.state ∧ old.reason = new.reason then [] else [mirrorOffset p + 1])
    ++ (if old.age = new.age then [] else [mirrorOffset p + 2])
    ++ (if old.inUse = new.inUse then [] else [mirrorOffset p + 3])

/-- What a change of the entry at `p` to `e` does to a FONT WAIT: a wait on that entry ends when it leaves REQUESTED
and LOADING for the font (R54), a wait for a position is to be resolved again (R53). -/
def FontWait.afterChange (w : FontWait) (p : Fin 8) (e : Position) : FontWait :=
  match w.target with
  | .entry q none =>
    if q = p ∧ ¬ (e.font = w.font ∧ (e.state = .requested ∨ e.state = .loading)) then
      { w with target := .entry q (some (e.font == w.font && e.ready)) }
    else w
  | .entry _ (some _) => w
  | .position _ => { w with target := .position true }

/-- The entry at `p` becomes `e`; every change is marked for posting (R47), and a change of state is told to a FONT
WAIT. -/
def State.setPosition (s : State) (p : Fin 8) (e : Position) : State :=
  let old := s.font.table[p]
  let s := ({ s with font.table := s.font.table.set p e } : State).mark (mirrorChanges p old e)
  if old.state = e.state ∧ old.font = e.font then s
  else { s with composer.fontWait := s.composer.fontWait.map (fun w => w.afterChange p e) }

/-- The width record of `p` is dropped. -/
def State.dropWidths (s : State) (p : Fin 8) : State := { s with font.widths := s.font.widths.set p none }

/-- The entry after it has become REFUSED for `r` (R47). -/
def Position.refusedFor (e : Position) (r : Reason) : Position :=
  { e with state := .refused, reason := some r, age := 0, callStep := 0, wait := false, fix := false, origin := none,
           remove := none, timer := none }

/-- The entry at `p` becomes REFUSED and MOUNT REFUSED is raised (R58, R62, R67 to R69, R71). -/
def State.refusePosition (s : State) (p : Fin 8) (r : Reason) : State :=
  (s.setPosition p (s.font.table[p].refusedFor r)).raise .mountRefused

/-! ### The fetch list (R66) -/

/-- Fetches begin: the head of the list becomes the fetch in flight. While LIBRARY is disabled each fetch that comes
to the head ends at once in REFUSED (MEMORY ERROR) (R71). -/
def State.beginFetches : Nat → State → State
  | 0, s => s
  | fuel + 1, s =>
    match s.font.fetchList, s.font.fetch with
    | p :: rest, none =>
      if s.port.disabled.library then
        State.beginFetches fuel (({ s with font.fetchList := rest } : State).refusePosition p .memoryError)
      else { s with font.fetch := some (.search 0) }
    | _, _ => s

/-- At most eight positions are LOADING, so eight fetches may begin and end at one event. -/
def State.startFetches (s : State) : State := s.beginFetches 9

/-- A position that has become LOADING joins the end of the fetch list (R60, R66). -/
def State.joinFetchList (s : State) (p : Fin 8) : State :=
  ({ s with font.fetchList := s.font.fetchList.filter (· ≠ p) ++ [p] } : State).startFetches

/-- A position leaves the fetch list; a fetch in flight for it is abandoned, its outstanding read discarded (R61). -/
def State.leaveFetchList (s : State) (p : Fin 8) : State :=
  let head := s.font.fetchList.head? == some p
  let s := { s with font.fetchList := s.font.fetchList.filter (· ≠ p) }
  if head then (({ s with font.fetch := none } : State).giveUpRequest .library).startFetches else s

/-- The fetch in flight ends: its position leaves the list and the next fetch begins (R66). -/
def State.endFetch (s : State) : State :=
  ({ s with font.fetchList := s.font.fetchList.tail, font.fetch := none } : State).startFetches

/-- The fetch in flight ends in REFUSED (R67 to R69). -/
def State.refuseFetch (s : State) (p : Fin 8) (r : Reason) : State := (s.refusePosition p r).endFetch

/-! ### Changes of an entry -/

/-- What ends with the state the entry at `p` had: its call (R59), or its place in the fetch list (R66). -/
def State.leaveOldState (s : State) (p : Fin 8) (old : PosState) : State :=
  match old with
  | .requested => s.endCall p
  | .loading => s.leaveFetchList p
  | _ => s

/-- The entry at `p` becomes VACANT with reason `r`: font 0, age 0, no width record; its call ends or its fetch is
abandoned (R61, R64, R65, R75). -/
def State.vacate (s : State) (p : Fin 8) (r : Option Reason) : State :=
  let old := s.font.table[p]
  ((s.setPosition p { Position.vacant with reason := r, inUse := old.inUse }).dropWidths p).leaveOldState p old.state

/-- Any other entry that holds `n` in the state REFUSED becomes VACANT, with reason none (R48). -/
def State.clearRefused (s : State) (p : Fin 8) (n : Nat) : State :=
  (List.finRange 8).foldl
    (fun s q => if q ≠ p ∧ s.font.table[q].state = .refused ∧ s.font.table[q].font = n then s.vacate q none else s) s

/-- The font a call for an entry names for removal (R57). -/
def Position.removal (e : Position) : Option Nat :=
  match e.state, e.reason with
  | .mounted, _ | .fixed, _ => some e.font
  | .refused, some .noRecord | .refused, some .damaged | .refused, some .busy | .refused, some .memoryError =>
    some e.font
  | _, _ => none

/-- The entry at `p` becomes REQUESTED for `n` at call step 0, and a call is made (R52, R57, R63). -/
def State.requestFont (s : State) (p : Fin 8) (n : Nat) (fix wait : Bool) (origin : Origin) : State :=
  let old := s.font.table[p]
  let s := (s.setPosition p
    { font := n, state := .requested, reason := none, age := 0, inUse := old.inUse, callStep := 0, wait := wait,
      fix := fix, origin := some origin, remove := old.removal, timer := some (callInterval 0) }).dropWidths p
  ((s.leaveOldState p old.state).clearRefused p n).makeCall p

/-- The entry at `p` becomes LOADING for `n` and joins the fetch list (R60). -/
def State.loadFont (s : State) (p : Fin 8) (n : Nat) (fix : Bool) (origin : Option Origin) : State :=
  let old := s.font.table[p]
  let s := (s.setPosition p
    { font := n, state := .loading, reason := none, age := 0, inUse := old.inUse, callStep := old.callStep,
      wait := old.wait, fix := fix, origin := origin, remove := none, timer := none }).dropWidths p
  ((s.leaveOldState p old.state).clearRefused p n).joinFetchList p

/-! ### Resolving FONT (R51 to R53) -/

/-- The home position of font `n` (R47). -/
def homePosition (n : Nat) : Fin 8 := ⟨n % 8, Nat.mod_lt n (by decide)⟩

/-- The home position of `n` when `f` holds of it, otherwise the lowest-numbered position for which it does. -/
def findFromHome (n : Nat) (f : Fin 8 → Bool) : Option (Fin 8) :=
  if f (homePosition n) then some (homePosition n) else findPosition f

/-- The entry that holds `n` in any state but VACANT (R51). -/
def State.findFont (s : State) (n : Nat) : Option (Fin 8) :=
  findFromHome n (fun p => s.font.table[p].state != .vacant && s.font.table[p].font == n)

/-- The position R52 chooses for `n`: a VACANT or REFUSED one, else the MOUNTED one of highest age that is not in
use. -/
def State.choosePosition (s : State) (n : Nat) : Option (Fin 8) :=
  match findFromHome n (fun p => s.font.table[p].state == .vacant || s.font.table[p].state == .refused) with
  | some p => some p
  | none =>
    let free (p : Fin 8) : Bool := s.font.table[p].state == .mounted && s.font.table[p].inUse == 0
    let oldest := (((List.finRange 8).filter free).map (fun p => s.font.table[p].age)).foldl max 0
    findFromHome n (fun p => free p && s.font.table[p].age == oldest)

/-- Whether a position can be freed by the set queue draining: MOUNTED, with no item of the line under composition
(R53). -/
def State.canDrainFree (s : State) : Bool :=
  (List.finRange 8).any (fun p => s.font.table[p].state == .mounted && !s.composer.holds p)

/-- How a font resolves. -/
inductive Resolution where
  | select (p : Fin 8)
  | waitOn (p : Fin 8)
  | call (p : Fin 8)
  | waitPosition
  | substitute
  deriving DecidableEq, Repr

/-- The resolution of font `n` (R51 to R53). -/
def State.resolve (s : State) (n : Nat) : Resolution :=
  match s.findFont n with
  | some p =>
    match s.font.table[p].state with
    | .mounted | .fixed => .select p
    | .requested | .loading => .waitOn p
    | _ => .substitute
  | none =>
    match s.choosePosition n with
    | some p => .call p
    | none => if s.canDrainFree then .waitPosition else .substitute

/-! ### Lenses (R72, R73) -/

/-- The lens for the size asked: its index, and whether the size is substituted (R73). -/
def chooseLens (lenses : Vector Nat 8) (asked : Nat) : Fin 8 × Bool :=
  match findPosition (fun i => lenses[i] == asked) with
  | some i => (i, false)
  | none =>
    let below := lenses.toList.filter (· < asked)
    let size := if below.isEmpty then lenses.toList.foldl min (lenses[0]) else below.foldl max 0
    ((findPosition (fun i => lenses[i] == size)).getD 0, true)

/-- The size asked is resolved against the lens list (R73). -/
def State.resolveSize (s : State) (asked : Nat) : State :=
  let (i, sub) := chooseLens s.font.lenses asked
  { s with composer.sizeAsked := asked, composer.lens := i, composer.lensSize := s.font.lenses[i],
           composer.sizeSub := sub }

/-! ### Fonts that set characters (R6, R55) -/

/-- The lowest-numbered MOUNTED or FIXED position (R55). -/
def State.defaultPosition (s : State) : Option (Fin 8) := findPosition (fun p => s.font.table[p].ready)

/-- Whether the current font's position still holds it as MOUNTED or FIXED (R55). -/
def State.currentReady (s : State) (c : CurrentFont) : Bool :=
  s.font.table[c.pos].font == c.font && s.font.table[c.pos].ready

/-- The position of the font that sets characters at this moment (R6): the current font's, and the default font's
when there is none. A current font that has left its position sets nothing until it is resolved again (R55), and the
default font stands in for it here (log 16). -/
def State.settingPosition (s : State) : Option (Fin 8) :=
  match s.composer.current with
  | some c => if s.currentReady c then some c.pos else s.defaultPosition
  | none => s.defaultPosition

/-- The governing font made from position `p`, with its copy of the band and the limit (R6, R49). -/
def State.govOf (s : State) (p : Fin 8) : Option GovFont :=
  s.font.widths[p].map (fun w =>
    { font := s.font.table[p].font, pos := p, min := w.min, normal := w.normal, max := w.max, limit := w.limit })

/-- The governing font a line would take now (R6). -/
def State.settingGov (s : State) : Option GovFont := s.settingPosition.bind s.govOf

/-- The width entry of code `c` in the record of position `p`, in units (R1); 0 when there is none. -/
def State.unitsOf (s : State) (p : Fin 8) (c : Nat) : Nat :=
  match s.font.widths[p] with
  | some w => w.widths.getD (c - 0x20) 0
  | none => 0

/-- Units at a size, in fine (R1). -/
def fine (units size : Nat) : Nat := units * size * 5

/-- Ages at the queuing of a LINE entry: 0 for the MOUNTED and FIXED entries it holds an item of, one more for the
others, stopping at 255 (R50). -/
def State.agePositions (s : State) (l : LineEntry) : State :=
  (List.finRange 8).foldl
    (fun s p =>
      let e := s.font.table[p]
      if e.ready then s.setPosition p { e with age := if l.holds p then 0 else stepUpTo 255 e.age } else s) s

end Sys2Proof.Machine
end

