-- ==== Sys2Proof/Machine/SetQueue.lean ====
section
/-! DEFINITION. The Set Queue (Chapter 5) with the mark cell and the job report ring it writes through the Status
Writer (10.6, 10.7). -/

namespace Sys2Proof.Machine

/-! ### Marks and reports -/

/-- A mark is posted: the mark cell takes its value, the mark count goes up by one, from 65,535 to 0, both are marked
for posting, and MARK REACHED is raised (R109). -/
def State.postMark (s : State) (v : Word) : State :=
  (({ s with status.markValue := v, status.markCount := s.status.markCount + 1 } : State).mark [80, 81]).raise
    .markReached

/-- The marks of a list, one after another (R109). -/
def State.postMarks (s : State) (l : List Word) : State := l.foldl State.postMark s

/-- A job report is written into the slot named by the next slot, the next slot goes up by one, from 7 to 0, the
words are marked together, and JOB REPORT is raised (R193). -/
def State.writeReport (s : State) (r : Report) : State :=
  let slot := s.status.nextSlot
  (({ s with status.reports := s.status.reports.set slot r, status.nextSlot := slot + 1 } : State).mark
    (152 :: List.range' (160 + 8 * slot.val) 8)).raise .jobReport

/-! ### The exposure record (R110) -/

/-- The exposure record becomes `x`: its lines exposed are marked when they change (R114), and a change of its job
makes a SHOW (R145). -/
def State.setExposure (s : State) (x : Exposure) : State :=
  let old := s.exposure
  let s := ({ s with exposure := x } : State).markIf (old.lines != x.lines) [8]
  if old.tag = x.tag then s else s.display

/-- The record is brought up to date at the start of an entry with tag `t` (R110). -/
def State.startExposure (s : State) (t : Option JobTag) : State :=
  match t with
  | none => s
  | some tag => if s.exposure.tag = some tag then s else s.setExposure { Exposure.none with tag := some tag }

/-- Whether work for an entry with tag `t` reaches the exposure record: an entry with no job tag reaches none. -/
def State.reachesRecord (s : State) (t : Option JobTag) : Bool := t.isSome && t == s.exposure.tag

/-- A film move of `d` ticks made for an entry with tag `t` is added to film used (R133). -/
def State.addFilmUsed (s : State) (t : Option JobTag) (d : Int) : State :=
  if s.reachesRecord t then { s with exposure.film := s.exposure.film + d } else s

/-- A clamp of an entry with tag `t` is marked in the record (R110, R128). -/
def State.clampExposure (s : State) (t : Option JobTag) : State :=
  if s.reachesRecord t then { s with exposure.clamped := true } else s

/-- Lines exposed go up by one when the record's job is the entry's (R109). -/
def State.countLineExposed (s : State) (t : Option JobTag) : State :=
  if s.reachesRecord t then s.setExposure { s.exposure with lines := nextCount s.exposure.lines } else s

/-- The report of a completed JOBEND (R112), after which the record is reset to none. -/
def State.reportJobEnd (s : State) (t : Option JobTag) (j : JobEndEntry) : State :=
  let mine := s.reachesRecord t
  (s.writeReport
    { job := j.job, outcome := some j.outcome,
      flags := { j.flags with clamped := j.flags.clamped || (mine && s.exposure.clamped) },
      linesSet := j.linesSet, linesExposed := if mine then s.exposure.lines else 0,
      film := if mine then s.exposure.film else 0, sumComputed := j.sumComputed, sumGiven := j.sumGiven }).setExposure
    Exposure.none

/-- The ABORTED or OVERRUN report, with what the exposure record holds of its job; a record it is written from is
reset to none (R110, R113). -/
def State.reportAbort (s : State) (r : WaitingReport) : State :=
  let mine := s.reachesRecord (some r.tag)
  let s' := s.writeReport
    { job := r.tag.number, outcome := some r.outcome,
      flags := { r.flags with clamped := r.flags.clamped || (mine && s.exposure.clamped) },
      linesSet := r.linesSet, linesExposed := if mine then s.exposure.lines else 0,
      film := if mine then s.exposure.film else 0, sumComputed := 0, sumGiven := 0 }
  if mine then s'.setExposure Exposure.none else s'

/-! ### Entries -/

/-- The photounit index: the entries that are EXPOSED (R107). -/
def State.photoIndex (s : State) : Nat := (s.queue.filter (fun e => e.photo == .exposed)).length

/-- The proof index: the entries that are PROOFED (R107). -/
def State.proofIndex (s : State) : Nat := (s.queue.filter (fun e => e.proof == .proofed)).length

/-- Whether both consumers are done with an entry (R108). -/
def Entry.done (e : Entry) : Bool := e.photo == .exposed && e.proof == .proofed

/-- A FONT WAIT for a position is to be resolved again (R53, R108, R111). -/
def State.wakePositionWait (s : State) : State :=
  { s with composer.fontWait := s.composer.fontWait.map (fun w =>
      match w.target with
      | .position _ => { w with target := .position true }
      | _ => w) }

/-- Entries that are both EXPOSED and PROOFED leave the queue: in-use counts fall, and a FONT WAIT for a position is
to be resolved again (R108). An entry held in QUEUE WAIT is accepted by its own step (HELD_ENTRY_ACCEPTED). -/
def State.releaseDone (s : State) : State :=
  if s.queue.any Entry.done then
    ({ s with queue := s.queue.filter (fun e => !e.done) } : State).refreshInUse.wakePositionWait
  else s

/-- The first entry for which `f` holds is changed by `g`. -/
def modifyFirst (f : Entry → Bool) (g : Entry → Entry) : List Entry → List Entry
  | [] => []
  | e :: l => if f e then g e :: l else e :: modifyFirst f g l

/-- The first WAITING entry is in exposure (R107, R116). -/
def State.markInExposure (s : State) : State :=
  { s with queue := modifyFirst (fun e => e.photo == .waiting) (fun e => { e with photo := .inExposure }) s.queue }

/-- The entry in exposure is EXPOSED (R107). -/
def State.markExposed (s : State) : State :=
  { s with queue := modifyFirst (fun e => e.photo == .inExposure) (fun e => { e with photo := .exposed }) s.queue }

/-- The first entry whose proof state is WAITING is IN PROOF (R107, R153). -/
def State.markInProof (s : State) : State :=
  { s with queue := modifyFirst (fun e => e.proof == .waiting) (fun e => { e with proof := .inProof }) s.queue }

/-- The entry in proof is PROOFED (R107, R153). -/
def State.markProofed (s : State) : State :=
  { s with queue := modifyFirst (fun e => e.proof == .inProof) (fun e => { e with proof := .proofed }) s.queue }

/-- The entry in proof (R151). -/
def State.inProof (s : State) : Option Entry := s.queue.find? (fun e => e.proof == .inProof)

/-- The tag of the job in progress, or none outside a job (R103, R105). -/
def State.jobTag (s : State) : Option JobTag :=
  if s.intake.job.inProgress then some { number := s.intake.job.number, serial := s.intake.job.serial } else none

/-- Whether an entry holds a LINE made by choice 2 (R30, R36). -/
def LineEntry.byHyphen (l : LineEntry) : Bool := l.flags.hyphenated

/-- What the acceptance of a LINE entry brings beside its place in the queue: in-use counts, ages, lines set and the
ladder count (R36, R49, R50, R105). -/
def State.lineAccepted (s : State) (l : LineEntry) : State :=
  let s := (s.refreshInUse.agePositions l)
  ({ s with intake.job.linesSet := nextCount s.intake.job.linesSet,
            composer.ladder := if l.byHyphen then nextLadder s.composer.ladder else 0 } : State).mark [7]

/-- An entry offered to a queue with room is accepted: appended at the tail with the mode in effect, the tag of the
job in progress and the pending marks (R105, R106). -/
def State.acceptEntry (s : State) (k : EntryKind) : State :=
  let e : Entry :=
    { kind := k, tag := s.jobTag, marks := s.composer.pendingMarks, mode := s.proof.mode, photo := .waiting,
      proof := if s.proof.mode = .off then .proofed else .waiting }
  let s := { s with queue := s.queue ++ [e], composer.pendingMarks := [] }
  match k with
  | .line l => s.lineAccepted l
  | _ => s

/-- Whether the queue has room (R105). -/
def State.queueRoom (s : State) : Bool := s.queue.length < queueLimit

/-! ### Completion by the photounit (R109) -/

/-- What the Set Queue does, in order, when the photounit completes the entry `e` in exposure (R109), and the entry's
leaving when the Proof Unit is done with it too (R108). -/
def State.queueComplete (s : State) (e : Entry) : State :=
  let s := (s.markExposed).postMarks e.marks
  let s := match e.kind with
    | .line _ => s.countLineExposed e.tag
    | .jobEnd j => s.reportJobEnd e.tag j
    | _ => s
  let s := match s.waitingReport with
    | some r => if some r.tag = e.tag then ({ s with waitingReport := none } : State).reportAbort r else s
    | none => s
  s.releaseDone

end Sys2Proof.Machine
end

