-- ==== Sys2Proof/Machine/Photounit.lean ====
section
/-! DEFINITION. The Photounit Sequencer (Chapter 6): starting and completing entries, motions and their deadlines,
flashes, halts and resumption, the film account, manual motions. -/

namespace Sys2Proof.Machine

/-! ### Orders and deadlines (R115, R120, R122) -/

/-- The sequencer state while an order is outstanding (R115). -/
def Order.seqState : Order → SeqState
  | .shift _ => .shifting
  | .lens _ => .lens
  | .step _ => .stepping
  | .flash => .flashing
  | .move _ _ => .moving
  | .cut => .cutting

/-- The deadline of an order in seconds (R120); the 2 s of a flash is its report's limit (R122). -/
def Order.deadline : Order → Nat
  | .shift _ | .lens _ | .step _ | .flash => 2
  | .move _ _ => 10
  | .cut => 5

/-- The halt kind on a second failure in a row (R120, R122). -/
def Order.haltKind : Order → HaltKind
  | .shift _ => .shift
  | .lens _ => .lens
  | .step _ => .step
  | .flash => .lamp
  | .move _ _ => .filmDrive
  | .cut => .cutter

/-- Whether an order is a motion: every one but the flash (R120). -/
def Order.isMotion : Order → Bool
  | .flash => false
  | _ => true

/-- The sequencer state becomes `x`, marked for posting when it changes (R114). -/
def State.setSeq (s : State) (x : SeqState) : State :=
  ({ s with seq.state := x } : State).markIf (s.seq.state != x) [3]

/-- The halt kind becomes `k`, marked for posting when it changes (R114). -/
def State.setHalt (s : State) (k : Option HaltKind) : State :=
  ({ s with seq.halt := k } : State).markIf (s.seq.halt != k) [4]

/-- An order is sent for action `a`: the Sequencer enters its state and its deadline starts (R120). -/
def State.sendOrder (s : State) (a : Action) (o : Order) : State :=
  ({ s with seq.order := some o, seq.action := some a, seq.deadline := some o.deadline, seq.expiry := 0 } :
    State).setSeq o.seqState

/-! ### The film account (R126 to R129) -/

/-- The account after a confirmed move of `d` ticks, forward positive: film goes from remaining to position. -/
def Film.moved (f : Film) (d : Int) : Film :=
  { f with remaining := f.remaining - d, position := f.position + d }

/-- The account after a confirmed cut (R129). -/
def Film.afterCut (f : Film) : Film := { f with cutTotal := f.cutTotal + f.position, position := 0 }

/-- The account after FILM LOADED of `x` inches (R130). -/
def Film.load (x : Nat) : Film :=
  { loaded := (ticksPerInch * x : Nat), remaining := (ticksPerInch * x : Nat), position := 0, cutTotal := 0 }

/-- The account's status words that differ (11.3). -/
def filmChanges (f g : Film) : List Nat :=
  (if f.loaded = g.loaded then [] else [9, 10]) ++ (if f.remaining = g.remaining then [] else [11, 12])
    ++ (if f.position = g.position then [] else [13, 14]) ++ (if f.cutTotal = g.cutTotal then [] else [15, 16])

/-- The film account becomes `f`, each change marked for posting (R126). -/
def State.setFilm (s : State) (f : Film) : State :=
  ({ s with seq.film := f } : State).mark (filmChanges s.seq.film f)

/-- Film is conserved (R126). -/
def Film.conserved (f : Film) : Prop := f.loaded = f.remaining + f.position + f.cutTotal

/-- The distance a reverse move of `t` ticks makes: never further than the last cut (R128). -/
def Film.reverseDistance (f : Film) (t : Int) : Int := min t f.position

/-! ### Halts (R123) -/

/-- The held values after a halt of kind `k`: the one of the failed motion becomes UNKNOWN. -/
def Sequencer.forget (q : Sequencer) (k : HaltKind) : Sequencer :=
  match k with
  | .shift => { q with shifted := none }
  | .lens => { q with lens := none }
  | .step => { q with escapement := none }
  | _ => q

/-- The flag a halt raises (R123). -/
def HaltKind.flag : HaltKind → EventFlag
  | .filmLow => .filmLow
  | _ => .unitFault

/-- The Sequencer halts with kind `k` at action `a`: the entry stays in exposure, ownership is forced to PANEL, the
flag is raised, and the panel is shown the halt and sounded once (R123, R137, R145, R147). One SHOW serves the change of
ownership and the entry into HALTED, as the tables of 7.8 have it (DEDUCED, log 51). -/
def State.haltAt (s : State) (k : HaltKind) (a : Action) : State :=
  let s := { s with seq := { s.seq.forget k with failed := some a, action := none, order := none, deadline := none } }
  let s := (s.setSeq .halted).setHalt (some k)
  let s := s.raise k.flag
  (if s.panel.ownership = .panel then s.display else s.setOwnership .panel).alarmOnce

/-! ### The work of an entry (R116 to R119) -/

/-- The items of a LINE entry, with their escapement positions. -/
def EntryKind.items : EntryKind → List SetItem
  | .line l => l.items
  | _ => []

/-- The first character item at index `i` or after (R117): spaces, ties and missing characters are passed over. -/
def nextCharFrom (i : Nat) : List SetItem → Option Nat
  | [] => none
  | x :: l =>
    match x.item with
    | .char _ _ _ => some i
    | _ => nextCharFrom (i + 1) l

/-- The character item at index `i` of the entry in exposure: its position, lens index and escapement position. -/
def State.charAt (s : State) (i : Nat) : Option (Fin 8 × Fin 8 × Int) :=
  match s.inExposure with
  | some e =>
    match e.kind.items[i]? with
    | some { item := .char _ a _, pos := t, .. } => some (a.pos, a.lens, t)
    | _ => none
  | none => none

/-- The entry in exposure is completed: the Set Queue is told, the Sequencer becomes IDLE with no entry, and TAKING
ends in PANEL (R109, R116, R125, R137). The SHOW that a waiting abort report makes as it resets the exposure record
is composed before the Sequencer is IDLE, in the order of R116's text, and reads the last action's state (DEDUCED,
log 55). -/
def State.completeEntry (s : State) : State :=
  match s.inExposure with
  | none => s
  | some e =>
    let s := s.queueComplete e
    let s := ({ s with seq.item := none, seq.action := none, seq.order := none, seq.deadline := none } :
      State).setSeq .idle
    if s.panel.ownership = .taking then s.setOwnership .panel else s

/-- The next action for the character item being set: a shift, a lens change and a step where they are needed, then
the flash (R117, R118). A value that is UNKNOWN differs from every value. -/
def State.charAction (s : State) (p i : Fin 8) (t : Int) : State :=
  if s.seq.shifted ≠ some p then s.sendOrder .shift (.shift p)
  else if s.seq.lens ≠ some i then s.sendOrder .lens (.lens i)
  else if s.seq.escapement ≠ some t then s.sendOrder .step (.step t)
  else s.sendOrder .flash .flash

/-- The Sequencer goes on with the item it holds (R117, R124). -/
def State.workItem (s : State) : State :=
  match s.seq.item.bind s.charAt with
  | some (p, i, t) => s.charAction p i t
  | none => s

/-- The Sequencer takes up the first character item at index `i` or after, or completes the entry when there is none
(R117, R122). -/
def State.takeUpFrom (s : State) (i : Nat) : State :=
  match s.inExposure with
  | none => s
  | some e =>
    match nextCharFrom i (e.kind.items.drop i) with
    | some j => ({ s with seq.item := some j, seq.miss := 0 } : State).workItem
    | none => s.completeEntry

/-- A forward move of `t` ticks for action `a`: sent when the film is long enough, else a FILM LOW halt (R127). -/
def State.forwardMove (s : State) (a : Action) (t : Int) : State :=
  if s.seq.film.remaining < t then s.haltAt .filmLow a else s.sendOrder a (.move t false)

/-- A reverse move of `t` ticks for a MOVE entry with tag `tag`: shortened at the last cut, and confirmed at once when
nothing is left of it (R128). -/
def State.reverseMove (s : State) (tag : Option JobTag) (t : Int) : State :=
  let d := s.seq.film.reverseDistance t
  if 0 < d then s.sendOrder .filmMove (.move (-d) (decide (d < t)))
  else (if d < t then s.clampExposure tag else s).completeEntry

/-- The film work of the entry in exposure, figured against the account as it stands: a lead move, a MOVE or a CUT; a
JOBEND is completed as it is started (R116, R117, R119, R124). -/
def State.filmWork (s : State) (e : Entry) : State :=
  match e.kind with
  | .line l => if l.lead = 0 then s.takeUpFrom 0 else s.forwardMove .leadMove l.lead
  | .move d => if 0 < d then s.forwardMove .filmMove d else s.reverseMove e.tag (-d)
  | .cut => s.sendOrder .cut .cut
  | .jobEnd _ => s.completeEntry

/-- Whether the Sequencer may start an entry (R116). -/
def State.canStart (s : State) : Bool :=
  s.seq.state == .idle && s.panel.ownership == .copy && s.queue.any (fun e => e.photo == .waiting)

/-- The next WAITING entry is started (R110, R116). -/
def State.startEntry (s : State) : State :=
  match s.queue.find? (fun e => e.photo == .waiting) with
  | none => s
  | some e => (s.markInExposure.startExposure e.tag).filmWork e

/-- Entries are started one after another for as long as the conditions of R116 hold: an entry that is completed as it
is started is followed by the next at once. -/
def State.startsFuel : Nat → State → State
  | 0, s => s
  | fuel + 1, s => if s.canStart then State.startsFuel fuel s.startEntry else s

/-- The queue holds at most six entries, so at most six can be started at one event. -/
def State.starts (s : State) : State := s.startsFuel 6

/-! ### Confirmations, misses and expiries -/

/-- A film move of `d` is confirmed: the account changes, film used and the clamp reach the exposure record (R127,
R128, R133). -/
def State.filmMoved (s : State) (tag : Option JobTag) (d : Int) (clamped : Bool) : State :=
  let s := (s.setFilm (s.seq.film.moved d)).addFilmUsed tag d
  if clamped then s.clampExposure tag else s

/-- The outstanding motion `o` of an entry is confirmed, and the Sequencer goes on to the next action (R118, R120). -/
def State.confirm (s : State) (o : Order) : State :=
  let a := s.seq.action
  let tag := s.inExposure.bind (·.tag)
  let s := { s with seq.order := none, seq.deadline := none, seq.expiry := 0 }
  match o with
  | .shift p => ({ s with seq.shifted := some p } : State).workItem
  | .lens i => ({ s with seq.lens := some i } : State).workItem
  | .step t => ({ s with seq.escapement := some t } : State).workItem
  | .move d c =>
    let s := s.filmMoved tag d c
    if a = some .leadMove then s.takeUpFrom 0 else s.completeEntry
  | .cut => (s.setFilm s.seq.film.afterCut).completeEntry
  | .flash => s

/-- A flash is missed: it is sent again once, and the second miss in a row halts LAMP (R122). -/
def State.flashMiss (s : State) : State :=
  if s.seq.miss = 0 then { s with seq.miss := 1, seq.deadline := some Order.flash.deadline }
  else s.haltAt .lamp .flash

/-- The sequencer state in which an action is made (R114, R115). -/
def Action.seqState : Action → SeqState
  | .leadMove | .filmMove => .moving
  | .shift => .shifting
  | .lens => .lens
  | .step => .stepping
  | .flash => .flashing
  | .cut => .cutting

/-- A halted Sequencer leaves HALTED for the state of the failed action, with the halt, the expiries and the misses
cleared (R124), and a SHOW is made (R145). That the SHOW is composed as the action is taken up, before its order is sent or
it halts again, is DEDUCED (log 29). -/
def State.leaveHalt (s : State) : State :=
  let x := if s.inExposure.isSome then (s.seq.failed.map Action.seqState).getD .idle else .idle
  ((({ s with seq.expiry := 0, seq.miss := 0, seq.failed := none } : State).setHalt none).setSeq x).display

/-- A halted Sequencer takes up the failed action afresh (R124). A new halt makes its own SHOW. -/
def State.resume (s : State) : State :=
  match s.inExposure, s.seq.failed with
  | some e, some a =>
    match a with
    | .shift | .lens | .step | .flash => s.leaveHalt.workItem
    | .leadMove | .filmMove | .cut => s.leaveHalt.filmWork e
  | _, _ => s.leaveHalt

/-- What follows when ownership is the copy's again and no manual motion is left: a start or a resumption (R124,
R138). -/
def State.goOn (s : State) : State :=
  match s.seq.state with
  | .idle => s.starts
  | .halted => if s.panel.ownership = .panel then s else s.resume.starts
  | _ => s

/-! ### Manual motions (R131, R132) -/

def ManualMotion.deadline : ManualMotion → Nat
  | .move _ => 10
  | .cut => 5

def ManualMotion.seqState : ManualMotion → SeqState
  | .move _ => .moving
  | .cut => .cutting

/-- The reason word of an abandoned manual motion (R132). -/
def ManualMotion.faultWord : ManualMotion → ReasonWord
  | .move _ => .driveFault
  | .cut => .cutterFault

/-- The result a confirmed manual motion adds to its SHOW (R144). -/
def ManualMotion.result : ManualMotion → ManualResult
  | .move d => .moved d
  | .cut => .cut

/-- The account after a confirmed manual motion (R131). -/
def ManualMotion.apply (m : ManualMotion) (f : Film) : Film :=
  match m with
  | .move d => f.moved d
  | .cut => f.afterCut

/-- A manual motion is sent; the state it leaves is kept (R131). -/
def State.sendManual (s : State) (m : ManualMotion) : State :=
  ({ s with seq.manual := some { motion := m, expiry := 0, deadline := m.deadline,
                                 leftHalted := s.seq.state == .halted } } : State).setSeq m.seqState

/-- The Sequencer returns to the state a manual motion left (R131, R132). -/
def State.leaveManual (s : State) (m : Manual) : State :=
  ({ s with seq.manual := none } : State).setSeq (if m.leftHalted then .halted else .idle)

/-- A manual motion is confirmed: the account changes, the Sequencer returns to the state it left, a SHOW with the
result, which only the last case of R144 displays (log 53), is made, and a start or a resumption that RETURN asked for
follows (R124, R131, R145). -/
def State.confirmManual (s : State) (m : Manual) : State :=
  (((s.setFilm (m.motion.apply s.seq.film)).leaveManual m).showWith false (some m.motion.result)).goOn

/-- A manual motion is abandoned at a second expiry in a row (R132). -/
def State.abandonManual (s : State) (m : Manual) : State :=
  (((s.leaveManual m).refuse m.motion.faultWord).raise .unitFault).goOn

end Sys2Proof.Machine
end

