-- ==== Sys2Proof/Machine/Compose.lean ====
section
/-! DEFINITION. Width arithmetic and justification (Chapter 1): running sums, the spacing of a finished line, the
escapement positions, and the LINE entry. -/

namespace Sys2Proof.Machine

/-! ### Items and running sums (R8, R9) -/

/-- Whether an item is a character or a missing character: the items that make letter pairs (R9). -/
def Item.isChar : Item → Bool
  | .char _ _ _ => true
  | .missing _ _ _ => true
  | _ => false

def Item.isSpace : Item → Bool
  | .space _ _ _ _ => true
  | _ => false

/-- Whether an item is a letter (R22): a character or missing character with a letter's code. -/
def Item.isLetterItem : Item → Bool
  | .char c _ _ => isLetter c
  | .missing c _ _ => isLetter c
  | _ => false

/-- Whether an item is an explicit hyphen: a character with code 0x2D (R28). -/
def Item.isHyphen : Item → Bool
  | .char c _ _ => c == 0x2D
  | _ => false

/-- The code of an item in the overset capture (R35). -/
def Item.captureCode : Item → Nat
  | .char c _ _ => c
  | .missing c _ _ => c
  | _ => 0x20

/-- The width an item adds to C; an interword space adds to Nrm, Mn and Mx instead (R8). -/
def Item.fixedWidth : Item → Nat
  | .char _ _ w => w
  | .space _ _ _ _ => 0
  | .fixed _ _ w => w
  | .tie _ w => w
  | .missing _ _ w => w

/-- The sums after an item joins a line whose last item is `last` (R8, R9). -/
def Sums.add (s : Sums) (last : Option Item) (i : Item) : Sums :=
  let pair := i.isChar && last.any Item.isChar
  match i with
  | .space _ mn nrm mx =>
    { s with n := s.n + 1, nrm := s.nrm + nrm, mn := s.mn + mn, mx := s.mx + mx, k := s.k + 1 }
  | _ => { s with c := s.c + i.fixedWidth, g := if pair then s.g + 1 else s.g, k := s.k + 1 }

/-- The sums formed over items that follow `last`. -/
def sumsFrom : Sums → Option Item → List Item → Sums
  | s, _, [] => s
  | s, last, i :: l => sumsFrom (s.add last i) (some i) l

/-- The sums formed afresh over a line's items (R8). -/
def sumsOf (l : List Item) : Sums := sumsFrom Sums.zero none l

/-- W_natural and W_min (R8). -/
def Sums.natural (s : Sums) : Nat := s.c + s.nrm
def Sums.minWidth (s : Sums) : Nat := s.c + s.mn

/-- stretch and shrink (R8). -/
def Sums.stretch (s : Sums) : Int := s.mx - s.nrm
def Sums.shrink (s : Sums) : Int := s.nrm - s.mn

/-- M, the measure in fine (01, 1.1). -/
def measureFine (ticks : Nat) : Nat := ticks * 32

/-- extra = M - W_natural (R12). -/
def extraOf (measure : Nat) (s : Sums) : Int := (measureFine measure : Int) - s.natural

/-- The line with an item joined at its end (R8). -/
def Line.join (l : Line) (i : Item) : Line :=
  { l with items := l.items ++ [i], sums := l.sums.add l.items.getLast? i }

/-- The line over other items, its sums re-formed (R8). -/
def Line.over (l : Line) (items : List Item) : Line := { l with items := items, sums := sumsOf items }

/-- L_fine (R6): the letterspace limit at the governing size; 0 when no governing font was fixed. -/
def Line.limitFine (l : Line) : Nat :=
  match l.gov with
  | some g => fine g.limit l.govSize
  | none => 0

/-! ### Ending a line (R11, R12) -/

/-- Items with the interword spaces at their end removed (R11). -/
def stripSpaces (l : List Item) : List Item := (l.reverse.dropWhile Item.isSpace).reverse

/-- The alignment actually set (R12). -/
def alignSet (a : Align) (overset : Bool) (extra : Int) : Align :=
  if overset then .left else if extra < 0 then .justify else a

/-- The letterspace of a JUSTIFY line (R13 with interword spaces, R16 without). -/
def letterspace (s : Sums) (limit : Nat) (extra : Int) : Int :=
  if 0 < s.n then
    if s.stretch < extra ∧ 0 < limit ∧ 0 < s.g then min (limit : Int) ((extra - s.stretch) / s.g) else 0
  else if 0 < s.g then min (limit : Int) (extra / s.g) else 0

/-- The extra width of the `j`-th interword space, counted from 0, when `extra` is shared among `n` by floor division
(R14). -/
def spaceShare (extra : Int) (n j : Nat) : Int :=
  let q := extra / n
  let r := extra - q * n
  if (j : Int) < r then q + 1 else q

/-- The start offset of an alignment set (R17). -/
def startOffset (a : Align) (extra : Int) : Int :=
  match a with
  | .left | .justify => 0
  | .right => extra
  | .centre => extra / 2

/-- The width an item is set at: an interword space takes its share, every other item keeps its width (R14, R18). -/
def setWidth (share : Nat → Int) (spacesBefore : Nat) : Item → Int
  | .space _ _ nrm _ => nrm + share spacesBefore
  | i => i.fixedWidth

/-- The escapement position of a fine position: the nearest tick, halves rounded up (R18). -/
def tickOf (f : Int) : Int := (f + 16) / 32

/-- The walk of R18 from the fine position `f`: the items with their positions and widths, and the right edge in
fine. -/
def walk (share : Nat → Int) (ls : Int) : Int → Nat → List Item → List SetItem × Int
  | f, _, [] => ([], f)
  | f, n, i :: l =>
    let w := setWidth share n i
    let gap := if i.isChar && l.head?.any Item.isChar then ls else 0
    let (rest, edge) := walk share ls (f + w + gap) (if i.isSpace then n + 1 else n) l
    ({ item := i, pos := tickOf f, width := w } :: rest, edge)

/-- A line as it is set: the alignment, the items with their positions, the right edge in fine, and the LOOSE and
TIGHT that the justification finds. -/
structure Setting where
  align : Align
  items : List SetItem
  edge : Int
  loose : Bool
  tight : Bool
  deriving DecidableEq, Repr

/-- A line is set (R12 to R18). `overset` is the break choice's flag. -/
def setLine (l : Line) (a : Align) (overset : Bool) : Setting :=
  let s := l.sums
  let extra := extraOf l.measure s
  let al := alignSet a overset extra
  let ls := if al = .justify then letterspace s l.limitFine extra else 0
  let share := if al = .justify ∧ 0 < s.n then spaceShare (extra - ls * s.g) s.n else fun _ => 0
  let (items, edge) := walk share ls (startOffset al extra) 0 l.items
  { align := al, items := items, edge := edge,
    loose := al = .justify ∧ (if 0 < s.n then s.stretch < extra else 0 < extra - ls * s.g),
    tight := al = .justify ∧ 0 < s.n ∧ extra < 0 }

/-- Whether an item carries a mark chosen by `f`. -/
def Item.hasMark (f : Attr → Bool) : Item → Bool
  | .char _ a _ => f a
  | .missing _ a _ => f a
  | _ => false

def Item.isMissing : Item → Bool
  | .missing _ _ _ => true
  | _ => false

/-- The LINE entry of a line with items (R20). `hyphenated` and `loose` are the break choice's flags; LOOSE stands
whatever the justification finds (R15). -/
def lineEntry (job : Word) (number : Nat) (l : Line) (a : Align) (overset hyphenated loose : Bool) : LineEntry :=
  let t := setLine l a overset
  { job := job, number := number, align := t.align, lead := l.lead, gov := l.gov, govSize := l.govSize,
    items := t.items,
    flags := { hyphenated := hyphenated, loose := loose || t.loose, tight := t.tight, overset := overset,
               fontSub := l.items.any (Item.hasMark (·.fontSub)), sizeSub := l.items.any (Item.hasMark (·.sizeSub)),
               missing := l.items.any Item.isMissing } }

/-- A LINE entry with no items (R11, R32). -/
def emptyLineEntry (job : Word) (number : Nat) (a : Align) (lead size : Nat) (overset : Bool) : LineEntry :=
  { job := job, number := number, align := a, lead := lead, gov := none, govSize := size, items := [],
    flags := { hyphenated := false, loose := false, tight := false, overset := overset, fontSub := false,
               sizeSub := false, missing := false } }

/-- The width of a carried item figured again from the new governing band at the lens size it recorded (R10). -/
def Item.refigure (g : GovFont) : Item → Item
  | .space h _ _ _ => .space h (fine g.min h) (fine g.normal h) (fine g.max h)
  | .tie h _ => .tie h (fine g.normal h)
  | .missing c a _ => .missing c a (fine g.normal a.size)
  | i => i

end Sys2Proof.Machine
end

