-- ==== Sys2Proof/Machine/Hyphenation.lean ====
section
/-! DEFINITION. The Hyphenator (Chapter 2, 2.7 to 2.10): the rule engine, the exception dictionary, the minimums. A
word is a list of small letters; positions count letters from its start. -/

namespace Sys2Proof.Machine

/-- Whether the letter `c` is a vowel; `first` says that it is the first letter of the word (R40). -/
def isVowel (first : Bool) (c : Nat) : Bool :=
  c == 0x61 || c == 0x65 || c == 0x69 || c == 0x6F || c == 0x75 || (c == 0x79 && !first)

/-- The tail pairs: ck and ng (R41). -/
def isTailPair (a b : Nat) : Bool := (a == 0x63 && b == 0x6B) || (a == 0x6E && b == 0x67)

/-- The lead pairs: ch, gh, ph, sh, th, wh, wr, gn and kn (R41). -/
def isLeadPair (a b : Nat) : Bool :=
  (b == 0x68 && (a == 0x63 || a == 0x67 || a == 0x70 || a == 0x73 || a == 0x74 || a == 0x77))
    || (a == 0x77 && b == 0x72) || (a == 0x67 && b == 0x6E) || (a == 0x6B && b == 0x6E)

/-- Whether a run of consonants begins with a tail pair. -/
def beginsWithTail : List Nat → Bool
  | a :: b :: _ => isTailPair a b
  | _ => false

/-- Whether a run of consonants ends with a lead pair. -/
def endsWithLead (run : List Nat) : Bool :=
  match run.reverse with
  | b :: a :: _ => isLeadPair a b
  | _ => false

/-- The point of a bounded run whose first letter is letter `a` of the word (R41). -/
def runPoint (a : Nat) (run : List Nat) : Nat :=
  let last := a + run.length - 1
  if run.length = 1 then a - 1
  else if beginsWithTail run then a + 1
  else if endsWithLead run then last - 2
  else last - 1

/-- The points of the bounded runs in what remains of a word from letter `j` on. `run` is the consonant run that ends
before letter `j`, and `bounded` says that a vowel stands immediately before its first letter (R40). -/
def pointsFrom : Nat → Bool → List Nat → List Nat → List Nat
  | _, _, _, [] => []
  | j, bounded, run, c :: l =>
    if isVowel (j = 1) c then
      (if bounded && !run.isEmpty then [runPoint (j - run.length) run] else []) ++ pointsFrom (j + 1) true [] l
    else pointsFrom (j + 1) bounded (run ++ [c]) l

/-- The rule engine's points of a word (R40, R41). -/
def rulePoints (word : List Nat) : List Nat := pointsFrom 1 false [] word

/-- The points that leave at least the left minimum of letters before them and the right minimum after (R42). -/
def keepMinimums (left right length : Nat) (points : List Nat) : List Nat :=
  points.filter (fun i => left ≤ i && right ≤ length - i)

/-- The dictionary's entry for a word (R39). -/
def lookupWord (d : List DictEntry) (word : List Nat) : Option DictEntry := d.find? (fun e => e.word == word)

/-- A set of positions in increasing order. -/
def sortPoints (l : List Nat) : List Nat := l.foldl (fun acc p => insertOffset p acc) []

/-- The discretionary points of a word of `length` letters: a point with no letter after it is none (R38). -/
def discretionaryPoints (points : List Nat) (length : Nat) : List Nat :=
  points.filter (fun i => 1 ≤ i && i < length)

/-- The hyphen points of a folded word with the discretionary points recorded for it, in increasing order (R37). -/
def Hyphenator.points (h : Hyphenator) (word : List Nat) (recorded : List Nat) : List Nat :=
  let own := discretionaryPoints recorded word.length
  let candidates :=
    if own.isEmpty then
      match lookupWord h.dictionary word with
      | some e => if e.never then [] else e.positions
      | none => rulePoints word
    else own
  keepMinimums h.leftMin h.rightMin word.length (sortPoints candidates)

/-- A value clamped to a range. -/
def clampTo (low high n : Nat) : Nat := max low (min high n)

/-- Whether a list of positions is increasing with none repeated. -/
def increasing : List Nat → Bool
  | a :: b :: l => a < b && increasing (b :: l)
  | _ => true

/-- The checks that EXCEPT and UNEXCEPT share: letter count and letters (R45, R46). -/
def wordAccepted (count : Nat) (letters : List Nat) : Bool := 2 ≤ count && count ≤ 24 && letters.all isLetter

/-- The checks of EXCEPT (R45). -/
def exceptAccepted (count : Nat) (letters : List Nat) (never : Bool) (posCount : Nat) (positions : List Nat) : Bool :=
  wordAccepted count letters
    && (if never then posCount == 0
        else 1 ≤ posCount && posCount ≤ 23 && positions.all (fun i => 1 ≤ i && i < count) && increasing positions)

/-- The dictionary with the entry for `e.word` replaced in its place (R45). -/
def replaceEntry (d : List DictEntry) (e : DictEntry) : List DictEntry :=
  d.map (fun x => if x.word = e.word then e else x)

end Sys2Proof.Machine
end

