-- ==== Sys2Proof/Machine/ProofUnit.lean ====
section
/-! DEFINITION. The Proof Unit (Chapter 8): the text of print records, the spool and its halves, the drain, and the
printer port. -/

namespace Sys2Proof.Machine

/-! ### Print records (R154 to R157) -/

/-- A text to the left of which spaces are put until it is `n` columns wide. -/
def padLeft (n : Nat) (l : List Nat) : List Nat := List.replicate (n - l.length) 0x20 ++ l

/-- A text to the right of which spaces are put until it is `n` columns wide. -/
def padRight (n : Nat) (l : List Nat) : List Nat := l ++ List.replicate (n - l.length) 0x20

/-- The letter of an alignment (R155). -/
def Align.letter : Align → Nat
  | .left => 0x4C
  | .right => 0x52
  | .centre => 0x43
  | .justify => 0x4A

/-- The flag letters, packed in the order H, L, T, O, S, M (R155). -/
def LineFlags.letters (f : LineFlags) : List Nat :=
  (if f.hyphenated then [0x48] else []) ++ (if f.loose then [0x4C] else []) ++ (if f.tight then [0x54] else [])
    ++ (if f.overset then [0x4F] else []) ++ (if f.fontSub || f.sizeSub then [0x53] else [])
    ++ (if f.missing then [0x4D] else [])

/-- The margin of the first record of a LINE: 13 columns (R155). -/
def marginOf (l : LineEntry) : List Nat :=
  padLeft 5 (decimal l.number) ++ [l.align.letter] ++ padRight 6 l.flags.letters ++ [0x20]

/-- The margin of a continuation record, and of a MOVE, a CUT and a JOBEND (R155, R157). -/
def blankMargin : List Nat := List.replicate 13 0x20

/-- The text of an item (R156). -/
def Item.text : Item → List Nat
  | .char c _ _ => [c]
  | .space _ _ _ _ => [0x20]
  | .fixed _ _ _ => [0x5F]
  | .tie _ _ => [0x7E]
  | .missing _ _ _ => [0x3F]

/-- A size in points, `.5` added for an odd number of half-points (R156). -/
def pointsText (h : Nat) : List Nat := decimal (h / 2) ++ if h % 2 = 1 then codesOf ['.', '5'] else []

/-- `[F n]` (R156). -/
def fontMarker (n : Nat) : List Nat := codesOf ['[', 'F', ' '] ++ decimal n ++ codesOf [']']

/-- `[S p]` (R156). -/
def sizeMarker (h : Nat) : List Nat := codesOf ['[', 'S', ' '] ++ pointsText h ++ codesOf [']']

/-- The text of a list of items after one whose font was `font` and whose size was `size`; `fontAt` gives the font
number a position holds (R156). -/
def itemsText (fontAt : List Nat) : Option Nat → Nat → List Item → List Nat
  | _, _, [] => []
  | font, size, i :: l =>
    let mine := i.pos?.map (fun p => fontAt.getD p.val 0)
    (match mine with
      | some n => if font = some n then [] else fontMarker n
      | none => [])
      ++ (if i.size = size then [] else sizeMarker i.size) ++ i.text
      ++ itemsText fontAt (mine.orElse (fun _ => font)) i.size l

/-- The text of a LINE (R156). -/
def lineText (fontAt : List Nat) (l : LineEntry) : List Nat :=
  itemsText fontAt (l.gov.map (·.font)) l.govSize (l.items.map (·.item))

/-- The parts of a text for one to three records of 119 columns (R157). -/
def textParts (t : List Nat) : List (List Nat) :=
  if t.length ≤ 119 then [t]
  else if t.length ≤ 238 then [t.take 119, t.drop 119]
  else if t.length ≤ 357 then [t.take 119, (t.drop 119).take 119, t.drop 238]
  else [t.take 119, (t.drop 119).take 119, (t.drop 238).take 116 ++ codesOf ['.', '.', '.']]

/-- The records of a LINE (R155, R157). -/
def lineRecords (fontAt : List Nat) (l : LineEntry) : List (List Nat) :=
  match textParts (lineText fontAt l) with
  | [] => []
  | t :: more => (marginOf l ++ t) :: more.map (fun x => blankMargin ++ x)

/-- The text of a JOBEND (R157). -/
def jobEndText (j : JobEndEntry) : List Nat :=
  codesOf ['E', 'N', 'D', ' ', 'J', 'O', 'B', ' '] ++ decimal j.job.toNat
    ++ codesOf [' ', 'L', 'I', 'N', 'E', 'S', ' '] ++ decimal j.linesSet
    ++ match j.outcome with
      | .unterminated => codesOf [' ', 'U', 'N', 'T', 'E', 'R', 'M', 'I', 'N', 'A', 'T', 'E', 'D']
      | _ =>
        if j.flags.sumMismatch then
          codesOf [' ', 'S', 'U', 'M', ' ', 'M', 'I', 'S', 'M', 'A', 'T', 'C', 'H']
        else codesOf [' ', 'S', 'U', 'M', ' ', 'O', 'K']

/-- The text of a MOVE: the distance the entry asks for (R157). -/
def moveText (d : Int) : List Nat :=
  codesOf ['F', 'I', 'L', 'M', ' '] ++ [if d < 0 then 0x2D else 0x2B] ++ decimal d.natAbs

/-- The entry's own records (R154, R155 to R157). -/
def entryRecords (fontAt : List Nat) (k : EntryKind) : List (List Nat) :=
  match k with
  | .line l => lineRecords fontAt l
  | .move d => [blankMargin ++ moveText d]
  | .cut => [blankMargin ++ codesOf ['C', 'U', 'T']]
  | .jobEnd j => [blankMargin ++ jobEndText j]

/-- `*** n ENTRIES NOT PROOFED ***` (R154). -/
def gapText (n : Nat) : List Nat :=
  codesOf ['*', '*', '*', ' '] ++ decimal n ++ codesOf [' ', 'E', 'N', 'T', 'R', 'I', 'E', 'S', ' ', 'N', 'O', 'T', ' ',
    'P', 'R', 'O', 'O', 'F', 'E', 'D', ' ', '*', '*', '*']

/-- `JOB n` (R154). -/
def headerText (n : Word) : List Nat := codesOf ['J', 'O', 'B', ' '] ++ decimal n.toNat

/-- The print records of an entry: the gap record, the job header, the entry's own (R154). -/
def State.formRecords (s : State) (k : EntryKind) : List PrintRecord :=
  let gapRecord := if 0 < s.proof.gap then [{ role := .gap, chars := gapText s.proof.gap }] else []
  let header := match k with
    | .line l => if s.proof.job = some l.job then [] else [{ role := .header l.job, chars := headerText l.job }]
    | _ => []
  gapRecord ++ header
    ++ (entryRecords (s.font.table.toList.map (·.font)) k).map (fun c => { role := .own, chars := c })

/-- The words a PRINT record takes in the spool: its header and its characters, two to a word (08, 8.5). -/
def PrintRecord.words (r : PrintRecord) : Nat := 1 + wordsFor r.chars.length

/-- Word `j` of a PRINT record: the header word, then the characters (11.4). Bits 14..8 of the header, which 11.4
does not give, are 0 (DESIGN CHOICE, log 45). -/
def PrintRecord.word (r : PrintRecord) (j : Nat) : Word :=
  match j with
  | 0 => BitVec.ofNat 16 r.chars.length
  | j + 1 => (packBytes r.chars).getD j 0

/-- The header word of a PAD (11.4), with bits 14..8 0 (DESIGN CHOICE, log 45). -/
def padWord : Word := 0x8000

/-! ### The spool (R158 to R160) -/

/-- First bank offset of a half (R151). -/
def Half.base : Half → Nat
  | .a => halfABase
  | .b => halfBBase

def Half.other : Half → Half
  | .a => .b
  | .b => .a

def ProofUnit.half (u : ProofUnit) : Half → HalfState
  | .a => u.halfA
  | .b => u.halfB

/-- The state of half `h` becomes `x`, marked for posting when it changes (R151). -/
def State.setHalf (s : State) (h : Half) (x : HalfState) : State :=
  match h with
  | .a => ({ s with proof.halfA := x } : State).markIf (s.proof.halfA != x) [226]
  | .b => ({ s with proof.halfB := x } : State).markIf (s.proof.halfB != x) [227]

/-- The write point moves to `p` (R151). -/
def State.setWritePoint (s : State) (p : SpoolPoint) : State :=
  ({ s with proof.writePoint := p } : State).markIf (s.proof.writePoint != p) [224]

/-- The drain point moves to `p` (R151). -/
def State.setDrainPoint (s : State) (p : SpoolPoint) : State :=
  ({ s with proof.drainPoint := p } : State).markIf (s.proof.drainPoint != p) [225]

/-- The gap count becomes `n` (R151). -/
def State.setGap (s : State) (n : Nat) : State :=
  ({ s with proof.gap := n } : State).markIf (s.proof.gap != n) [228]

/-- Whether the half at the write point is FULL: the write point waits (R158). -/
def ProofUnit.writeWaits (u : ProofUnit) : Bool := u.half u.writePoint.half == .full

/-- A write point that waits at the end of a FULL half moves to the other half when that one is EMPTY (R158). -/
def State.moveWritePoint (s : State) : State :=
  if s.proof.writeWaits && s.proof.half s.proof.writePoint.half.other == .empty then
    s.setWritePoint { half := s.proof.writePoint.half.other, offset := 0 }
  else s

/-- Whether a record of `n` words fits at the write point (R159). -/
def ProofUnit.fits (u : ProofUnit) (n : Nat) : Bool := n ≤ halfWords - u.writePoint.offset && !u.writeWaits

/-- Whether a DETACHED entry's whole list can be placed now, without waiting for the drain (R160). -/
def State.canPlace (s : State) (l : List PrintRecord) : Bool :=
  !s.port.disabled.spool
    && (s.proof.fits (l.map PrintRecord.words).sum || s.proof.half s.proof.writePoint.half.other == .empty)

/-- The next word SPOOL writes for the entry in proof: its bank offset and its data. A record that does not fit is
preceded by a PAD; nothing is written while the write point waits (R159, R160). -/
def ProofUnit.nextSpoolWord (u : ProofUnit) : Option (Nat × Word) :=
  match u.records with
  | [] => none
  | r :: _ =>
    let at' := u.writePoint.half.base + u.writePoint.offset + u.written
    if u.writeWaits then none
    else if u.written = 0 && !u.fits r.words then some (at', padWord)
    else some (at', r.word u.written)

/-- The entry in proof is done with: PROOFED, with no record left to write, and it leaves the queue if the photounit
is done with it too (R108, R153). -/
def State.proofDone (s : State) : State :=
  ({ s with proof.records := [], proof.written := 0 } : State).markProofed.releaseDone

/-- The entry in proof is counted as a gap (R160, R161). -/
def State.countGap (s : State) : State := (s.setGap (stepUpTo 65535 s.proof.gap)).proofDone

/-- What the writing of a whole record brings about (R154). -/
def State.recordWritten (s : State) (role : RecordRole) : State :=
  match role with
  | .gap => s.setGap 0
  | .header j => { s with proof.job := some j }
  | .own => s

/-- The proof job number becomes none when a JOBEND has been written (R154). -/
def State.clearProofJob (s : State) : State :=
  match s.inProof with
  | some { kind := .jobEnd _, .. } => { s with proof.job := none }
  | _ => s

/-- The half at the write point is FULL with the write point at its end, which then moves on if it can (R158). -/
def State.fillHalf (s : State) : State :=
  let h := s.proof.writePoint.half
  ((s.setHalf h .full).setWritePoint { half := h, offset := halfWords }).moveWritePoint

/-- A SPOOL write of the entry in proof has been made (R158, R159): a PAD closes the half; a record's word makes the
half FILLING, and the record's last word moves the write point past it. -/
def State.spoolWritten (s : State) : State :=
  match s.proof.records with
  | [] => s
  | r :: rest =>
    let wp := s.proof.writePoint
    if s.proof.written = 0 && !s.proof.fits r.words then s.fillHalf
    else
      let s := s.setHalf wp.half .filling
      if s.proof.written + 1 < r.words then { s with proof.written := s.proof.written + 1 }
      else
        let s := { s with proof.written := 0, proof.records := rest }
        let s := (s.setWritePoint { wp with offset := wp.offset + r.words }).recordWritten r.role
        let s := if wp.offset + r.words = halfWords then s.fillHalf else s
        if rest.isEmpty then s.clearProofJob.proofDone else s

/-- The entry in proof is given up: its record in writing is abandoned, its outstanding SPOOL write discarded (R162). -/
def State.giveUpProof (s : State) : State :=
  ({ s with proof.records := [], proof.written := 0 } : State).giveUpRequest .spool

/-! ### The printer port (R165) -/

/-- The characters the port sends for a record: its own, then carriage return and line feed. -/
def portChars (buffer : List Nat) : List Nat := buffer ++ [0x0D, 0x0A]

/-- The character on the port's data lines, while one awaits its acknowledge. -/
def State.portChar (s : State) : Option Nat :=
  match s.proof.port, s.proof.buffer with
  | .awaiting, some b => (portChars b)[s.proof.portIndex]?
  | _, _ => none

/-- The port is ready with its character: HELD while BUSY or PAPER OUT is asserted, else presented. -/
def State.portReady (s : State) : State :=
  { s with proof.port := if s.proof.busy || s.proof.paperOut then .held else .awaiting }

/-- The print buffer holds a record and the port takes up its first character. -/
def State.printRecord (s : State) (chars : List Nat) : State :=
  ({ s with proof.buffer := some chars, proof.portIndex := 0, proof.stalled := false } : State).portReady

/-- The character is sent and the port takes up the next one at once; after the line feed the buffer is empty. -/
def State.charSent (s : State) : State :=
  match s.proof.buffer with
  | none => { s with proof.port := .idle }
  | some b =>
    let s := { s with proof.port := .idle, proof.portIndex := s.proof.portIndex + 1, proof.stalled := false }
    if s.proof.portIndex < (portChars b).length then s.portReady
    else { s with proof.buffer := none, proof.portIndex := 0 }

/-! ### The drain (R163, R197) -/

/-- Whether the drain begins to read a record (R163; DRAIN's enabling is tested where the request is made). -/
def ProofUnit.drainBegins (u : ProofUnit) : Bool :=
  u.buffer.isNone && (u.drainPoint != u.writePoint || u.half u.drainPoint.half == .full)

/-- The bank offset of the next word the drain reads: the header, or the next character word (R163). -/
def ProofUnit.nextDrainWord (u : ProofUnit) : Option Nat :=
  let header := u.drainPoint.half.base + u.drainPoint.offset
  match u.reading with
  | some r => some (header + 1 + r.got.length)
  | none => if u.drainBegins then some header else none

/-- The drain leaves its half: the half becomes EMPTY, the drain point moves to offset 0 of the other, and a write
point that waits moves into the half just left (R158, R163). -/
def State.leaveHalf (s : State) : State :=
  let h := s.proof.drainPoint.half
  ((s.setHalf h .empty).setDrainPoint { half := h.other, offset := 0 }).moveWritePoint

/-- A record has been read: the drain point moves to `stop`, the half is left when that is the end of a FULL half, and
the port prints the characters (R163). -/
def State.recordRead (s : State) (stop : Nat) (chars : List Nat) : State :=
  let h := s.proof.drainPoint.half
  let s := ({ s with proof.reading := none } : State).setDrainPoint { half := h, offset := stop }
  let s := if stop = halfWords && s.proof.half h == .full then s.leaveHalf else s
  s.printRecord chars

/-- The limit no record may be read beyond: the write point when it stands in the drain's half, else the half's end
(R197). -/
def ProofUnit.drainLimit (u : ProofUnit) : Nat :=
  if u.writePoint.half = u.drainPoint.half then u.writePoint.offset else halfWords

/-- The drain has read a header word `w` (R163, R197). -/
def State.headerRead (s : State) (w : Word) : State :=
  let dp := s.proof.drainPoint
  let inWriteHalf := s.proof.writePoint.half == dp.half && s.proof.half dp.half != .full
  if wordBit w 15 then
    if inWriteHalf then s.recordRead (dp.offset + 1) [] else s.leaveHalf
  else
    let c := min 132 (loByte w)
    let room := s.proof.drainLimit - (dp.offset + 1)
    let short := room < wordsFor c
    let words := if short then room else wordsFor c
    let count := if short then 2 * room else c
    if words = 0 then s.recordRead (dp.offset + 1) []
    else { s with proof.reading := some { count := count, words := words, stop := dp.offset + 1 + words, got := [] } }

/-- The drain has read a word of the spool (R163). -/
def State.drainWord (s : State) (w : Word) : State :=
  match s.proof.reading with
  | none => s.headerRead w
  | some r =>
    let got := r.got ++ [w]
    if got.length < r.words then { s with proof.reading := some { r with got := got } }
    else s.recordRead r.stop (valuesOf got r.count)

end Sys2Proof.Machine
end

