-- ==== Sys2Proof/Machine/Breaking.lean ====
section
/-! DEFINITION. The Composer at work (Chapters 1, 2 and 4): items joining the line, overflow, lookahead, the break
choice, line ends, the entries a job queues, the beginning and the abort of a job. What is still to do stands in
`composer.todo`, so that QUEUE WAIT and FONT WAIT keep it as it stood. -/

namespace Sys2Proof.Machine

/-! ### The Composer's state and its work -/

/-- The Composer state becomes `x`, marked for posting when it changes (R99). -/
def State.setComposer (s : State) (x : ComposerState) : State :=
  ({ s with composer.state := x } : State).markIf (s.composer.state != x) [5]

/-- The state in which the Composer goes on when a wait has ended (R99). -/
def State.baseState (s : State) : ComposerState := if s.intake.job.inProgress then .setting else .outsideJob

/-- Work put before what is already to do. -/
def State.push (s : State) (l : List Task) : State := { s with composer.todo := l ++ s.composer.todo }

/-- The line number a LINE entry made now takes (R20). -/
def State.lineNumber (s : State) : Nat := nextCount s.intake.job.linesSet

/-- The job flags and the word at the end of the line after an item joins (R22, R56). -/
def WordRun.after (w : WordRun) (i : Item) : WordRun :=
  if i.isLetterItem then { w with letters := w.letters + 1 } else WordRun.none

/-- The Composer with an item joined to its line (R8). -/
def Composer.join (c : Composer) (i : Item) : Composer :=
  { c with line := c.line.join i, word := c.word.after i }

/-- An item made now joins the line under composition: sums, in-use count, report flags (R8, R49, R56). An interword
space, a tie and a fixed space carry no mark, but are made through the lens too (R73). -/
def State.joinItem (s : State) (i : Item) : State :=
  ({ s with
      composer := s.composer.join i
      intake.job.flags := s.intake.job.flags.withItem (i.attr?.any (·.fontSub)) s.composer.sizeSub } :
    State).refreshInUse

/-! ### The governing font (R6, R7) -/

/-- The line before an item that needs a band or is the first: a line without items takes measure, lead, governing
size and governing font; a line of fixed spaces takes its governing font when one is available (R6, R7). -/
def State.prepareLine (s : State) : State :=
  let l := s.composer.line
  if l.items.isEmpty then
    { s with composer.line := { Line.empty with gov := s.settingGov, govSize := s.composer.lensSize,
                                                measure := s.composer.measure, lead := s.composer.lead } }
  else if l.gov.isNone then { s with composer.line := { l with gov := s.settingGov } }
  else s

/-- The normal width of the governing band at the lens size in effect (R3, R5). -/
def State.bandNormal (s : State) : Nat :=
  match s.composer.line.gov with
  | some g => fine g.normal s.composer.lensSize
  | none => 0

/-- What an item made now from position `p` records (R4, R56). -/
def State.attrFor (s : State) (p : Fin 8) : Attr :=
  { pos := p, lens := s.composer.lens, size := s.composer.lensSize,
    fontSub := s.composer.fontSub || s.composer.current.isNone, sizeSub := s.composer.sizeSub }

/-- The character or missing-character item of code `c` in the font of position `p` (R1, R4, R5). -/
def State.charItem (s : State) (p : Fin 8) (c : Nat) : Item :=
  let u := s.unitsOf p c
  if u = 0 then .missing c (s.attrFor p) s.bandNormal else .char c (s.attrFor p) (fine u s.composer.lensSize)

/-! ### Overflow (R23 to R27) -/

/-- Whether a line overflows with `w` added to its W_min (R23). -/
def Line.overflows (l : Line) (w : Nat) : Bool :=
  measureFine l.measure < l.sums.minWidth + w || itemLimit ≤ l.sums.k

/-- What an item adds to W_min (R23). -/
def Item.minAdded : Item → Nat
  | .space _ mn _ _ => mn
  | i => i.fixedWidth

/-- The word at the end of the line is ineligible for hyphenation (R25, R27). -/
def State.ineligible (s : State) : State := { s with composer.word.ineligible := true }

/-- A line is full at 160 items: the word that ends at its last item is ineligible for hyphenation, if that item is a
letter; there is no such word if it is not (R27). It stays ineligible to the word's end, also when a break carries the word
whole to a line on which that end is seen (DEDUCED, log 56). -/
def State.capWord (s : State) : State :=
  if s.composer.line.items.getLast?.any Item.isLetterItem then s.ineligible else s

/-- The break choice is made, with `t` as the pending token (R25, R27, R33). -/
def State.breakWith (s : State) (t : Token) : State := s.push [.breakLine false, .token t]

/-- A letter that has passed the measure joins the line in LOOKAHEAD; when the word reaches its 25th letter the
lookahead ends. A word already past its 25th letter goes on to its end (R25). -/
def State.lookaheadLetter (s : State) (i : Item) : State :=
  let s := s.joinItem i
  if s.composer.word.letters = 25 then s.ineligible.push [.breakLine false] else s.setComposer .lookahead

/-- A letter item is added (R23, R25). -/
def State.addLetter (s : State) (t : Token) (i : Item) : State :=
  let l := s.composer.line
  if itemLimit ≤ l.sums.k then s.capWord.breakWith t
  else if s.composer.state = .lookahead || l.overflows i.minAdded then s.lookaheadLetter i
  else s.joinItem i

/-- An item that is no letter and no interword space is added in SETTING (R23, R27). -/
def State.addOther (s : State) (t : Token) (i : Item) : State :=
  let l := s.composer.line
  if l.overflows i.minAdded then
    if l.items.isEmpty then (s.joinItem i).push [.breakLine false]
    else (if itemLimit ≤ l.sums.k then s.capWord else s).breakWith t
  else s.joinItem i

/-! ### Tokens (R2 to R5, R23, R94) -/

/-- A word that no font can set is discarded; the first one on a line is a copy error (R94). It adds no item, so the
word at the end of the line stands as it was, even when what is discarded is no letter (DEDUCED, log 54). -/
def State.discardNoFont (s : State) (offset : Nat) : State :=
  if s.composer.noFont then s
  else ({ s with composer.noFont := true } : State).copyError .noFont offset

/-- The character `c` is set in the font of position `p` (R4, R5, R23). -/
def State.setCharIn (s : State) (p : Fin 8) (c offset : Nat) : State :=
  let s := s.prepareLine
  let i := s.charItem p c
  if isLetter c then s.addLetter (.char c offset) i else s.addOther (.char c offset) i

/-- The character is set in the default font, when there is one (R55, R94). The default font is that of the table as it
stands now, for a character that has waited in a FONT WAIT the moment at which the wait ends (DEDUCED, log 49). -/
def State.setCharDefault (s : State) (c offset : Nat) : State :=
  match s.defaultPosition with
  | some p => s.setCharIn p c offset
  | none => s.discardNoFont offset

/-- The Composer enters FONT WAIT (R52, R53, R99). -/
def State.enterFontWait (s : State) (n : Nat) (target : WaitTarget) (char : Option (Nat × Nat)) : State :=
  ({ s with composer.fontWait := some { font := n, target := target, char := char,
                                        inLookahead := s.composer.state == .lookahead } } : State).setComposer
    .fontWait

/-- The tag of the job in progress, for the origin of a call (R47). -/
def State.currentTag (s : State) : JobTag := { number := s.intake.job.number, serial := s.intake.job.serial }

/-- A call for font `n` at position `p`, made by a FONT resolution (R52). -/
def State.callFont (s : State) (n : Nat) (p : Fin 8) : State :=
  s.requestFont p n false false (.font s.currentTag)

/-- A substitution made by R55 leaves no current font and begins the FONT SUBSTITUTED marking (R55, R56). -/
def State.dropCurrent (s : State) : State := { s with composer.current := none, composer.fontSub := true }

/-- A current font that has left its position is resolved again, and the character is set or waits (R55). -/
def State.reresolve (s : State) (n c offset : Nat) : State :=
  match s.resolve n with
  | .select p => ({ s with composer.current := some { font := n, pos := p } } : State).setCharIn p c offset
  | .waitOn p => s.enterFontWait n (.entry p none) (some (c, offset))
  | .call p => (s.callFont n p).enterFontWait n (.entry p none) (some (c, offset))
  | .waitPosition => s.enterFontWait n (.position false) (some (c, offset))
  | .substitute => s.dropCurrent.setCharDefault c offset

/-- A character token that is to be set now (R4, R55). -/
def State.setChar (s : State) (c offset : Nat) : State :=
  match s.composer.current with
  | none => s.setCharDefault c offset
  | some f => if s.currentReady f then s.setCharIn f.pos c offset else s.reresolve f.font c offset

/-- The interword space item made now, when the line has a band (R2). -/
def State.spaceItem (s : State) : Option Item :=
  let h := s.composer.lensSize
  s.composer.line.gov.map (fun g => .space h (fine g.min h) (fine g.normal h) (fine g.max h))

/-- An interword space token in SETTING: dropped at the head of a line (R2) and on a line without a band (R94); a
line it overflows is broken at it (R24). It ends the word (R22), also when it is dropped (DEDUCED, log 54). -/
def State.setSpace (s : State) : State :=
  if s.composer.line.items.isEmpty then { s with composer.word := WordRun.none }
  else
    let s := s.prepareLine
    match s.spaceItem with
    | none => { s with composer.word := WordRun.none }
    | some i => if s.composer.line.overflows i.minAdded then s.push [.endLine .justify false] else s.joinItem i

/-- A tie token in SETTING (R3, R94). -/
def State.setTie (s : State) (offset : Nat) : State :=
  if s.settingPosition.isNone && s.composer.line.gov.isNone then s.discardNoFont offset
  else
    let s := s.prepareLine
    s.addOther (.tie offset) (.tie s.composer.lensSize s.bandNormal)

/-- A fixed space in SETTING (R3, R93). -/
def State.setFixed (s : State) (units : Nat) : State :=
  let s := if s.composer.line.items.isEmpty then s.prepareLine else s
  s.addOther (.fixed units) (.fixed units s.composer.lensSize (fine units s.composer.lensSize))

/-- Whether a token is a letter (R22). -/
def Token.isLetter : Token → Bool
  | .char c _ => Machine.isLetter c
  | _ => false

/-- A token that becomes an item is consumed (R23, R25): in LOOKAHEAD a token that is no letter is held as the
pending token, and so is a letter that meets 160 items. -/
def State.takeToken (s : State) (t : Token) : State :=
  if s.composer.state = .lookahead && !t.isLetter then s.breakWith t
  else if s.composer.state = .lookahead && itemLimit ≤ s.composer.line.sums.k then s.ineligible.breakWith t
  else
    match t with
    | .char c offset => s.setChar c offset
    | .tie offset => s.setTie offset
    | .space => s.setSpace
    | .fixed units => s.setFixed units

/-! ### The break choice (R28 to R35) -/

/-- The number of items in the letter run at the end of a line (R22). -/
def letterRun (l : List Item) : Nat := (l.reverse.takeWhile Item.isLetterItem).length

/-- The index of the last break-space candidate before index `limit`: an interword space, or an explicit hyphen that
is not the first item (R28). -/
def lastCandidate (limit : Nat) (l : List Item) : Option Nat :=
  ((List.range limit).filter (fun i => (l[i]?).any (fun x => x.isSpace || (x.isHyphen && i != 0)))).getLast?

/-- How a break divides a line: the items it ends with, and the items carried (R28). -/
structure Division where
  ended : List Item
  carried : List Item
  deriving DecidableEq, Repr

/-- The break at S, which stands at index `i`: before an interword space, which is dropped, or after an explicit
hyphen (R28). -/
def divideAt (l : List Item) (i : Nat) : Division :=
  if (l[i]?).any Item.isSpace then { ended := l.take i, carried := l.drop (i + 1) }
  else { ended := l.take (i + 1), carried := l.drop (i + 1) }

/-- Whether the extra of a line's items lies within -shrink..stretch (R29). -/
def fitsSpaces (measure : Nat) (items : List Item) : Bool :=
  let s := sumsOf items
  extraOf measure s ≤ s.stretch && -s.shrink ≤ extraOf measure s

/-- The folded letter of an item. -/
def Item.letter : Item → Nat
  | .char c _ _ => foldLetter c
  | .missing c _ _ => foldLetter c
  | _ => 0

/-- What the hyphen glyph after an item with `a` records: that item's position, lens, size and substitution marks
(R30), and the marks of the substitutions that stand when the glyph is made (R56, R73; DEDUCED, log 43). -/
def State.glyphAttr (s : State) (a : Attr) : Attr :=
  { a with fontSub := a.fontSub || s.composer.fontSub, sizeSub := a.sizeSub || s.composer.sizeSub }

/-- The hyphen glyph after an item, in that item's font and size (R30); none when the glyph is absent. -/
def State.hyphenAfter (s : State) (i : Item) : Option Item :=
  match i.attr? with
  | some a =>
    let u := s.unitsOf a.pos 0x2D
    if u = 0 then none else some (.char 0x2D (s.glyphAttr a) (fine u a.size))
  | none => none

/-- The division at hyphen point `p` of the word that starts at index `start`, when the three conditions of R30
hold. -/
def State.hyphenAt (s : State) (l : Line) (start p : Nat) : Option Division :=
  let ended := l.items.take (start + p)
  match ended.getLast?.bind s.hyphenAfter with
  | some h =>
    if start + p + 1 ≤ itemLimit && (sumsOf (ended ++ [h])).minWidth ≤ measureFine l.measure then
      some { ended := ended ++ [h], carried := l.items.drop (start + p) }
    else none
  | none => none

/-- Whether the ladder bars a hyphen break (R36). -/
def State.ladderBars (s : State) : Bool := s.hyph.ladderLimit != 0 && s.hyph.ladderLimit ≤ s.composer.ladder

/-- Choice 2: the latest usable hyphen point of the word of `r` letters at the end of the line (R30, R37). -/
def State.hyphenBreak (s : State) (l : Line) (r : Nat) : Option Division :=
  if s.hyph.on && !s.ladderBars && 2 ≤ r && r < 25 && !s.composer.word.ineligible then
    let start := l.items.length - r
    let word := (l.items.drop start).map Item.letter
    ((s.hyph.points word s.composer.word.points).reverse.map (s.hyphenAt l start)).findSome? id
  else none

/-- What an item adds to W_natural (R8). -/
def Item.naturalWidth : Item → Nat
  | .space _ _ nrm _ => nrm
  | i => i.fixedWidth

/-- The length of the longest leading run whose natural width stays within `m` (R32). -/
def fitCount (m : Nat) : Nat → List Item → Nat
  | _, [] => 0
  | w, i :: l => if w + i.naturalWidth ≤ m then fitCount m (w + i.naturalWidth) l + 1 else 0

/-- The posted words of the overset capture (11.3). -/
def captureOffsets : List Nat := List.range' 96 27

/-- The capture after a line is made OVERSET (R35). -/
def Capture.take (c : Capture) (job : Word) (number : Nat) (items : List Item) : Capture :=
  if c.held then { c with count := stepUpTo 255 c.count }
  else
    let codes := (items.take 48).map Item.captureCode
    { held := true, count := 1, job := job, line := number,
      codes := codes ++ List.replicate (48 - codes.length) 0 }

/-- A line is made OVERSET: captured or counted, flagged in the report, and raised (R32, R35). The capture's words are
marked when it takes the line or its count goes up; a count that stands at 255 marks nothing (R192). -/
def State.makeOverset (s : State) (items : List Item) : State :=
  let c := s.status.capture.take s.intake.job.number s.lineNumber items
  (({ s with status.capture := c, intake.job.flags.overset := true } : State).markIf (c != s.status.capture)
    captureOffsets).raise .overset

/-- The line under composition is empty, and what belonged to it is cleared (R8, R94). -/
def Composer.lineEnded (c : Composer) : Composer := { c with line := Line.empty, noFont := false }

/-- The end of a break: the entry is to be queued, then the carried items form a new line, which is tested again
(R33, R34). -/
def State.finishBreak (s : State) (e : LineEntry) (carried : List Item) (gov : Option GovFont) (w : WordRun) :
    State :=
  (({ s with composer := { s.composer.lineEnded with word := w } } : State).setComposer .setting).push
    [.offer (.line e), .newLine carried gov, .retest]

/-- The remainder of a broken word (R33). -/
def WordRun.remainder (w : WordRun) : WordRun := { w with points := [], ineligible := true }

/-- Choice 4: the line is OVERSET and cut (R32). -/
def State.oversetBreak (s : State) (l : Line) (r : Nat) : State :=
  let n := fitCount (measureFine l.measure) 0 l.items
  let cut := if n = 0 then 1 else n
  let w := if 0 < r && l.items.length - r < cut then s.composer.word.remainder else s.composer.word
  let e :=
    if n = 0 then
      emptyLineEntry s.intake.job.number s.lineNumber .left l.lead s.composer.lensSize true
    else lineEntry s.intake.job.number s.lineNumber (l.over (l.items.take n)) .left true false false
  (s.makeOverset l.items).finishBreak e (l.items.drop cut) l.gov w

/-- The report takes the substitution marks of the hyphen glyph that a line broken by choice 2 ends with: the glyph may be
the first item of the job to carry them (R56). -/
def State.noteGlyph (s : State) (ended : List Item) : State :=
  let glyph (f : Attr → Bool) : Bool := ended.getLast?.any (Item.hasMark f)
  { s with intake.job.flags := s.intake.job.flags.withItem (glyph (·.fontSub)) (glyph (·.sizeSub)) }

/-- A break that leaves the line JUSTIFY: choices 1, 2 and 3 (R29 to R31). A word that choice 1 or 3 carries whole keeps
its ineligibility, one by the item cap too (DEDUCED, log 56). -/
def State.divideLine (s : State) (l : Line) (d : Division) (hyphenated loose : Bool) : State :=
  s.finishBreak
    (lineEntry s.intake.job.number s.lineNumber (l.over (stripSpaces d.ended)) .justify false hyphenated loose)
    d.carried l.gov (if hyphenated then s.composer.word.remainder else s.composer.word)

/-- The break choice over the line as it stands (R28 to R32). `again` says that R34 makes it over carried items. -/
def State.breakLine (s : State) (again : Bool) : State :=
  let l := s.composer.line
  let k := l.items.length
  let r := letterRun l.items
  let limit := if 0 < r then k - r else if again then k - 1 else k
  let atS := (lastCandidate limit l.items).map (divideAt l.items)
  match atS.filter (fun d => fitsSpaces l.measure d.ended) with
  | some d => s.divideLine l d false false
  | none =>
    match s.hyphenBreak l r with
    | some d => (s.noteGlyph d.ended).divideLine l d true false
    | none =>
      match atS with
      | some d => s.divideLine l d false true
      | none => s.oversetBreak l r

/-- The line that carried items begin (R10). -/
def State.carriedLine (s : State) (carried : List Item) (previous : Option GovFont) : Line :=
  match carried with
  | [] => Line.empty
  | first :: _ =>
    let gov := match carried.findSome? Item.pos? with
      | some p => s.govOf p
      | none => s.settingGov.orElse (fun _ => previous)
    let items := carried.dropWhile Item.isSpace
    let items := match gov with
      | some g => items.map (Item.refigure g)
      | none => items
    if items.isEmpty then Line.empty
    else { items := items, sums := sumsOf items, gov := gov, govSize := first.size, measure := s.composer.measure,
           lead := s.composer.lead }

/-- The new line is tested for a further overflow (R34). -/
def State.retestLine (s : State) : State :=
  if measureFine s.composer.line.measure < s.composer.line.sums.minWidth then s.push [.breakLine true] else s

/-! ### Line ends (R11) -/

/-- A line is ended with alignment `a`; `always` makes an entry even of a line without items (R11). -/
def State.endLine (s : State) (a : Align) (always : Bool) : State :=
  let l := s.composer.line
  let items := stripSpaces l.items
  let e :=
    if items.isEmpty then
      if always then
        [Task.offer (.line (emptyLineEntry s.intake.job.number s.lineNumber a s.composer.lead s.composer.lensSize
          false))]
      else []
    else [.offer (.line (lineEntry s.intake.job.number s.lineNumber (l.over items) a false false false))]
  ({ s with composer := { s.composer.lineEnded with word := WordRun.none } } : State).push e

/-! ### Entries and jobs (R87 to R89, R105) -/

/-- An entry is offered to the queue: accepted, or held in QUEUE WAIT (R105). -/
def State.offer (s : State) (k : EntryKind) : State :=
  if s.queueRoom then s.acceptEntry k
  else ({ s with composer.held := some (.entry k) } : State).setComposer .queueWait

/-- A JOBEND is made, and offered: a COMPLETE one sets SUM MISMATCH when the sums differ (R87, R89). The comparison is
made once the line that ENDJOB ended has been accepted, so an abort while that line waits in QUEUE WAIT reports without
the flag (DEDUCED, log 44). -/
def State.makeJobEnd (s : State) (o : JobOutcome) (given : Word) : State :=
  let j := s.intake.job
  let flags := { j.flags with sumMismatch := decide (o = .complete ∧ given ≠ j.sum) }
  ({ s with intake.job.flags := flags } : State).push
    [.offer (.jobEnd { job := j.number, outcome := o, linesSet := j.linesSet, sumComputed := j.sum,
                       sumGiven := given, flags := flags })]

/-- A job begins (R88); its number and its lines set are marked when the posted word changes (10.2, R184). -/
def State.beginJob (old : State) (number : Word) : State :=
  let s := { old with
    intake.job := { inProgress := true, number := number, serial := old.intake.job.serial + 1, linesSet := 0, sum := 0,
                    flags := JobFlags.none }
    composer := { old.composer.lineEnded with
      measure := initialMeasure, lead := initialLead, current := none, fontSub := false, word := WordRun.none,
      ladder := 0, pendingMarks := [] } }
  (((s.resolveSize initialSize).markIf (old.currentJob != number) [6]).markIf (old.intake.job.linesSet != 0)
    [7]).setComposer .setting

/-- The job is over: its JOBEND has been accepted (R89, R99). -/
def State.leaveJob (s : State) : State :=
  (({ s with intake.job.inProgress := false } : State).mark [6]).setComposer .outsideJob

/-- A piece of the Composer's work is done. -/
def State.doTask (s : State) : Task → State
  | .breakLine again => s.breakLine again
  | .offer k => s.offer k
  | .newLine carried previous => { s with composer.line := s.carriedLine carried previous }
  | .retest => s.retestLine
  | .token t => s.takeToken t
  | .endLine a always => s.endLine a always
  | .jobEnd o given => s.makeJobEnd o given
  | .beginJob n => s.beginJob n
  | .leaveJob => s.leaveJob
  | .addMark v => { s with composer.pendingMarks := s.composer.pendingMarks ++ [v] }

/-- Whether the Composer waits: nothing more of its work is done (R99). -/
def State.composerWaits (s : State) : Bool :=
  s.composer.state == .queueWait || s.composer.state == .fontWait

/-- The Composer's work is done, piece after piece, until none is left or a wait begins. -/
def State.runTasksFuel : Nat → State → State
  | 0, s => s
  | fuel + 1, s =>
    if s.composerWaits then s
    else match s.composer.todo with
      | [] => s
      | t :: rest => State.runTasksFuel fuel (({ s with composer.todo := rest } : State).doTask t)

/-- At most six entries can be accepted before QUEUE WAIT, and each takes at most five pieces of work, so the bound is
not met (log 39). In-use counts are then brought up to date (R49). -/
def State.runTasks (s : State) : State := (s.runTasksFuel 64).refreshInUse

/-- Work is given to the Composer and done as far as it goes. -/
def State.work (s : State) (l : List Task) : State := (s.push l).runTasks

/-! ### Waits (R53, R54, R99, R105) -/

/-- A FONT WAIT ends: the Composer returns to the state it began in and sets the character that waited (R54, R55). -/
def State.endFontWait (s : State) (w : FontWait) : State :=
  let s := ({ s with composer.fontWait := none } : State).setComposer (if w.inLookahead then .lookahead else .setting)
  match w.char with
  | some (c, offset) => s.work [.token (.char c offset)]
  | none => s.runTasks

/-- A FONT WAIT ends in selection of position `p`; a selection for a FONT command ends the FONT SUBSTITUTED marking,
one made by R55 does not (R51, R55, R56). -/
def State.waitSelects (s : State) (w : FontWait) (p : Fin 8) : State :=
  ({ s with composer.current := some { font := w.font, pos := p },
            composer.fontSub := s.composer.fontSub && w.char.isSome } : State).endFontWait w

/-- A FONT WAIT ends in substitution: for a FONT command the current font stays, for R55 there is none (R55, R56). -/
def State.waitSubstitutes (s : State) (w : FontWait) : State :=
  ({ s with composer.current := if w.char.isSome then none else s.composer.current,
            composer.fontSub := true } : State).endFontWait w

/-- The entry held in QUEUE WAIT is accepted, and the Composer goes on with the work in hand (R99, R105). -/
def State.acceptHeld (s : State) (k : EntryKind) : State :=
  ((({ s with composer.held := none } : State).acceptEntry k).setComposer s.baseState).runTasks

/-! ### Job abort (R75, R100, R111, R113) -/

/-- The Composer after a job abort, but for its state and its size (R100). -/
def Composer.aborted (c : Composer) : Composer :=
  { c.lineEnded with
    measure := initialMeasure, lead := initialLead, current := none, word := WordRun.none, ladder := 0,
    pendingMarks := [], held := none, todo := [], fontWait := none }

/-- Whether the abort of the job with tag `t` removes an entry (R111). -/
def Entry.removedBy (t : JobTag) (e : Entry) : Bool := e.tag == some t && e.photo == .waiting

/-- The aborted job's WAITING entries leave the queue; one that is IN PROOF is given up (R111, R162). -/
def State.removeEntries (s : State) (t : JobTag) : State :=
  let s := if s.queue.any (fun e => e.removedBy t && e.proof == .inProof) then s.giveUpProof else s
  ({ s with queue := s.queue.filter (fun e => !e.removedBy t) } : State).refreshInUse

/-- Calls made by the aborted job's FONT commands are withdrawn (R75). -/
def State.withdrawCalls (s : State) (t : JobTag) : State :=
  (List.finRange 8).foldl
    (fun s p =>
      if s.font.table[p].state = .requested ∧ s.font.table[p].origin = some (.font t) then
        s.vacate p (some .withdrawn)
      else s) s

/-- The aborted job's report is written, or waits on its entry in exposure (R113). -/
def State.abortReport (s : State) (r : WaitingReport) : State :=
  if s.inExposure.any (fun e => e.tag == some r.tag) then { s with waitingReport := some r } else s.reportAbort r

/-- A command whose operands are being consumed at a job abort is completed and dropped (R100). -/
def Command.drop (d : Command) : Command := { d with dropped := true }

/-- A job abort with outcome `o`; with no job in progress there is none (R100, R141). Its effects come in the order in
which R191 names their rules: the Composer, the set queue, the report, the position table (DEDUCED, log 52). -/
def State.jobAbort (s : State) (o : JobOutcome) : State :=
  if s.intake.job.inProgress then
    let j := s.intake.job
    let t := s.currentTag
    let s := { s with composer := s.composer.aborted, intake.job.inProgress := false, intake.job.sum := 0,
                      intake.decoder := s.intake.decoder.map Command.drop }
    let s := ((s.resolveSize initialSize).mark [6]).setComposer .discarding
    let s := s.removeEntries t
    (s.abortReport { tag := t, outcome := o, flags := j.flags, linesSet := j.linesSet }).withdrawCalls t
  else s

end Sys2Proof.Machine
end

