-- ==== Sys2Proof/Machine/CopyStream.lean ====
section
/-! DEFINITION. Copy Intake's decoder (Chapter 4): the word at the head of the capture run, what it is, its
consumption with the galley sum, and the effect of each copy word and of each of the twenty commands. -/

namespace Sys2Proof.Machine

/-! ### Command words (R85, R196; 11.1) -/

/-- The command a number names; number 0 and numbers 21..127 name none (11.1). -/
def Cmd.ofNumber : Nat → Option Cmd
  | 1 => some .job
  | 2 => some .endjob
  | 3 => some .measure
  | 4 => some .lead
  | 5 => some .font
  | 6 => some .size
  | 7 => some .quad
  | 8 => some .fixspace
  | 9 => some .hyph
  | 10 => some .exceptWord
  | 11 => some .unexcept
  | 12 => some .lenses
  | 13 => some .mount
  | 14 => some .release
  | 15 => some .advance
  | 16 => some .reverse
  | 17 => some .cut
  | 18 => some .proofMode
  | 19 => some .display
  | 20 => some .mark
  | _ => none

/-- The operand words a command expects when its command word is consumed, with inline byte `c` (R85). The count
word of EXCEPT adds its position words. -/
def Cmd.operandCount (cmd : Cmd) (c : Nat) : Nat :=
  match cmd with
  | .job | .endjob | .measure | .lead | .font | .hyph | .mount | .advance | .reverse | .mark => 1
  | .lenses => 4
  | .exceptWord => wordsFor c + 1
  | .unexcept | .display => wordsFor c
  | .size | .quad | .fixspace | .release | .cut | .proofMode => 0

/-- The position count of an EXCEPT count word (11.1). -/
def positionCount (w : Word) : Nat := wordField w 0 5

/-- The command in progress after the operand `w` (R85, R196). -/
def Command.take (d : Command) (w : Word) : Command :=
  let isCountWord := d.cmd == .exceptWord && d.operands.length == wordsFor (inlineByte d.word)
  { d with operands := d.operands ++ [w],
           remaining := d.remaining - 1 + if isCountWord then wordsFor (positionCount w) else 0 }

/-- The first operand of a command. -/
def Command.operand (d : Command) : Word := d.operands.headD 0

/-- The inline byte of a command. -/
def Command.inline (d : Command) : Nat := inlineByte d.word

/-- The letters of an EXCEPT or UNEXCEPT, the text of a DISPLAY (R85). -/
def Command.values (d : Command) : List Nat := valuesOf (d.operands.take (wordsFor d.inline)) d.inline

/-! ### What the head of the run is (R84, R85) -/

/-- What the consumption of the word at the head of the run is. -/
inductive CopyRow where
  | filler
  | discretionaryHyphen
  | tie
  | space
  | character
  | invalidCode
  | unknownCommand
  | commandWord (c : Cmd)
  | operand
  | effect (c : Cmd)
  deriving DecidableEq, Repr

/-- The kind of a word in command position (R84, R85). -/
def classify (w : Word) : CopyRow :=
  let n := w.toNat
  if n = 0 then .filler
  else if n = 0x1E then .discretionaryHyphen
  else if n = 0x1F then .tie
  else if n = 0x20 then .space
  else if 0x21 ≤ n && n ≤ 0x7E then .character
  else if n < 0x8000 then .invalidCode
  else match Cmd.ofNumber (commandNumber w) with
    | none => .unknownCommand
    | some c => if c.operandCount (inlineByte w) = 0 then .effect c else .commandWord c

/-- Whether the Composer's state consumes copy (R99). -/
def ComposerState.consumes : ComposerState → Bool
  | .outsideJob | .setting | .lookahead | .discarding => true
  | .fontWait | .queueWait => false

/-- What the next word is, when one can be consumed: the run holds it and the Composer consumes copy (R80). -/
def State.nextRow (s : State) : Option CopyRow :=
  if s.composer.state.consumes then
    match s.intake.run, s.intake.decoder with
    | [], _ => none
    | w :: _, none => some (classify w)
    | w :: _, some d => some (if (d.take w).remaining = 0 then .effect d.cmd else .operand)
  else none

/-- Whether the word consumed belongs to a JOB or an ENDJOB, whose words end the span of the galley sum (R90). -/
def State.endsSum (s : State) (w : Word) : Bool :=
  match s.intake.decoder with
  | some d => d.cmd == .job || d.cmd == .endjob
  | none => classify w == .commandWord .job || classify w == .commandWord .endjob

/-! ### Consuming a word (R80, R90, R170) -/

/-- The galley sum takes in a word of the job (R90). -/
def State.rollSum (s : State) (w : Word) : State :=
  if s.intake.job.inProgress then { s with intake.job.sum := galleyStep s.intake.job.sum w } else s

/-- The word `w` at the head of the run is consumed: the ring bookkeeping, the galley sum, and the release of a held
write. The words of a JOB or ENDJOB are kept out of the sum (R90; log 20). -/
def State.consume (s : State) (w : Word) : State :=
  let s := if s.endsSum w then s else s.rollSum w
  ({ s with intake.run := s.intake.run.tail, intake.fill := s.intake.fill - 1,
            intake.consumeOffset := ringAfter s.intake.consumeOffset 1, port.holdTimer := .idle } : State).mark
    [18, 19, 20]

/-- The head of the run, when it is the row `r`: the word. -/
def State.headAs (s : State) (r : CopyRow) : Option Word := if s.nextRow = some r then s.intake.run.head? else none

/-- A word of the kind `r` in command position is consumed, and `f` does what it brings, given the word and the ring
offset it stood at; none when the head of the run is no such word (log 2, log 32). -/
def State.onWord (s : State) (r : CopyRow) (f : State → Word → Nat → State) : Option State :=
  (s.headAs r).map (fun w => f (s.consume w) w s.intake.consumeOffset)

/-- A run of text words outside a job ends at a command word (R86). -/
def State.endTextRun (s : State) : State := { s with intake.textRun := false }

/-- A text word (R86): given to `f` inside a job; dropped outside one, the first of a run with a copy error; dropped
in DISCARDING. -/
def State.textWord (s : State) (offset : Nat) (f : State → State) : State :=
  match s.composer.state with
  | .outsideJob =>
    if s.intake.textRun then s else ({ s with intake.textRun := true } : State).copyError .outsideJob offset
  | .discarding => s
  | _ => f s

/-- The command that the word `w` at the head of the run completes. -/
def State.completedBy (s : State) (w : Word) : Command :=
  match s.intake.decoder with
  | some d => d.take w
  | none =>
    { cmd := (Cmd.ofNumber (commandNumber w)).getD .job, word := w, offset := s.intake.consumeOffset, operands := [],
      remaining := 0, dropped := false }

/-- The command `c` takes effect with the word at the head of the run, which is consumed, and `f` carries it out; none
when the head of the run completes no such command (log 2, log 32). -/
def State.onCommand (s : State) (c : Cmd) (f : State → Command → State) : Option State :=
  (s.headAs (.effect c)).map (fun w =>
    f ({ s.consume w with intake.decoder := none } : State).endTextRun (s.completedBy w))

/-- A job command (R86): refused outside a job, dropped in DISCARDING. -/
def State.jobCommand (s : State) (d : Command) (f : State → State) : State :=
  match s.composer.state with
  | .outsideJob => s.copyError .outsideJob d.offset
  | .discarding => s
  | _ => f s

/-- A standing command (R86): dropped in DISCARDING. -/
def State.standingCommand (s : State) (f : State → State) : State :=
  if s.composer.state = .discarding then s else f s

/-- COPY ERROR (BAD OPERAND) at a command (R101). -/
def State.badOperand (s : State) (d : Command) : State := s.copyError .badOperand d.offset

/-- The work of a command that ends the word: a word in LOOKAHEAD is broken first (R26). -/
def State.endingWord (s : State) (l : List Task) : List Task :=
  if s.composer.state = .lookahead then .breakLine false :: l else l

/-! ### Words without operands (R38, R84 to R86) -/

/-- A discretionary hyphen between two letters records a point; one with no letter before it records none (R38). -/
def State.recordPoint (s : State) : State :=
  if 0 < s.composer.word.letters then
    { s with composer.word.points := s.composer.word.points ++ [s.composer.word.letters] }
  else s

/-- A copy error that DISCARDING does not raise (R86). -/
def State.copyErrorUnlessDiscarding (s : State) (k : CopyError) (offset : Nat) : State :=
  if s.composer.state = .discarding then s else s.copyError k offset

/-- A known command word that expects operands becomes the command in progress (R85). -/
def State.beginCommand (s : State) (c : Cmd) (w : Word) (offset : Nat) : State :=
  let d : Command :=
    { cmd := c, word := w, offset := offset, operands := [], remaining := c.operandCount (inlineByte w),
      dropped := false }
  { s.endTextRun with intake.decoder := some d }

/-- An operand that is not the last goes into the command in progress (R85). -/
def State.takeOperand (s : State) (w : Word) : State :=
  { s with intake.decoder := s.intake.decoder.map (fun d => d.take w) }

/-! ### Jobs (R87, R89) -/

/-- JOB (R87). A JOB whose operand was still expected at a job abort is dropped: DISCARDING is left at the first JOB
in command position (R86, R100). A JOB of operand 0 inside a job does not end it, so its two words enter the sum (R90;
log 20). -/
def State.jobEffect (s : State) (d : Command) : State :=
  if d.dropped then s
  else if d.operand = 0 then ((s.rollSum d.word).rollSum d.operand).badOperand d
  else match s.composer.state with
    | .outsideJob | .discarding => s.work [.beginJob d.operand]
    | _ => s.work (s.endingWord [.endLine .left false, .jobEnd .unterminated 0, .beginJob d.operand])

/-- ENDJOB inside a job (R89). -/
def State.endjobEffect (s : State) (d : Command) : State :=
  s.work (s.endingWord [.endLine .left false, .jobEnd .complete d.operand, .leaveJob])

/-! ### Format commands (R91 to R93) -/

/-- MEASURE (R91). -/
def State.measureEffect (s : State) (d : Command) : State :=
  let v := d.operand.toNat
  if v = 0 then s.badOperand d
  else if measureLimit < v then ({ s with composer.measure := measureLimit } : State).flagClamped
  else { s with composer.measure := v }

/-- LEAD (R91). -/
def State.leadEffect (s : State) (d : Command) : State :=
  let v := d.operand.toNat
  if leadLimit < v then ({ s with composer.lead := leadLimit } : State).flagClamped
  else { s with composer.lead := v }

/-- Whether a number is a font number (R92, R96). -/
def isFontNumber (n : Nat) : Bool := 1 ≤ n && n ≤ 999

/-- FONT (R51 to R53, R92). -/
def State.fontEffect (s : State) (d : Command) : State :=
  let n := d.operand.toNat
  if isFontNumber n then
    match s.resolve n with
    | .select p => { s with composer.current := some { font := n, pos := p }, composer.fontSub := false }
    | .waitOn p => s.enterFontWait n (.entry p none) none
    | .call p => (s.callFont n p).enterFontWait n (.entry p none) none
    | .waitPosition => s.enterFontWait n (.position false) none
    | .substitute => { s with composer.fontSub := true }
  else s.badOperand d

/-- SIZE (R73, R92). -/
def State.sizeEffect (s : State) (d : Command) : State :=
  if d.inline = 0 then s.badOperand d else s.resolveSize d.inline

/-- The alignment a QUAD names (R93). -/
def quadAlign : Nat → Option Align
  | 0 => some .left
  | 1 => some .right
  | 2 => some .centre
  | 3 => some .justify
  | _ => none

/-- QUAD (R93). -/
def State.quadEffect (s : State) (d : Command) : State :=
  match quadAlign d.inline with
  | some a => s.work (s.endingWord [.endLine a true])
  | none => s.badOperand d

/-- FIXSPACE (R3, R93). -/
def State.fixspaceEffect (s : State) (d : Command) : State :=
  if 1 ≤ d.inline && d.inline ≤ 127 then s.work [.token (.fixed d.inline)] else s.badOperand d

/-! ### Hyphenation (R43, R45, R46, R95) -/

/-- HYPH, with its clamps (R43). -/
def State.hyphEffect (s : State) (d : Command) : State :=
  let w := d.operand
  let left := clampTo 1 7 (wordField w 8 4)
  let right := clampTo 1 7 (wordField w 4 4)
  let ladder := min 9 (wordField w 0 4)
  let s := { s with hyph := { s.hyph with on := wordBit w 15, leftMin := left, rightMin := right,
                                          ladderLimit := ladder } }
  if left = wordField w 8 4 ∧ right = wordField w 4 4 ∧ ladder = wordField w 0 4 then s else s.flagClamped

/-- An accepted EXCEPT: the entry is replaced in its place, added after the last, or finds no room (R45). -/
def State.addException (s : State) (d : Command) (e : DictEntry) : State :=
  if (lookupWord s.hyph.dictionary e.word).isSome then
    { s with hyph.dictionary := replaceEntry s.hyph.dictionary e }
  else if s.hyph.dictionary.length < dictionaryLimit then
    ({ s with hyph.dictionary := s.hyph.dictionary ++ [e] } : State).mark [24]
  else (s.copyError .dictionaryFull d.offset).raise .dictionaryFull

/-- EXCEPT (R45). -/
def State.exceptEffect (s : State) (d : Command) : State :=
  let letters := d.values
  let after := d.operands.drop (wordsFor d.inline)
  let never := wordBit (after.headD 0) 15
  let count := positionCount (after.headD 0)
  let positions := valuesOf after.tail count
  if exceptAccepted d.inline letters never count positions then
    s.addException d { word := letters.map foldLetter, never := never, positions := positions }
  else s.badOperand d

/-- UNEXCEPT (R46). -/
def State.unexceptEffect (s : State) (d : Command) : State :=
  if wordAccepted d.inline d.values then
    let word := d.values.map foldLetter
    ({ s with hyph.dictionary := s.hyph.dictionary.filter (fun e => e.word != word) } : State).markIf
      (lookupWord s.hyph.dictionary word).isSome [24]
  else s.badOperand d

/-! ### Lenses and the position table (R63, R64, R72, R96) -/

/-- The status words of the lens list (11.3). -/
def lensOffset (i : Fin 8) : Nat := 230 + i.val

/-- LENSES (R72). BUSY is tried before the sizes (log 31). -/
def State.lensesEffect (s : State) (d : Command) : State :=
  let sizes := valuesOf d.operands 8
  if !s.queue.isEmpty || !s.composer.line.items.isEmpty then s.copyError .lensesBusy d.offset
  else if sizes.all (fun h => 10 ≤ h && h ≤ 144) then
    let lenses := Vector.ofFn (fun i : Fin 8 => sizes.getD i.val 0)
    (({ s with font.lenses := lenses } : State).mark
      (((List.finRange 8).filter (fun i => lenses[i] != s.font.lenses[i])).map lensOffset)).resolveSize
      s.composer.sizeAsked
  else s.badOperand d

/-- Whether a position other than `p` holds font `n` in one of the four states of R48. -/
def State.heldElsewhere (s : State) (p : Fin 8) (n : Nat) : Bool :=
  (List.finRange 8).any (fun q => q != p && s.font.table[q].claims n)

/-- A MOUNT that is not refused acts by the state of the entry (R63). -/
def State.mountAt (s : State) (p : Fin 8) (n : Nat) (fix wait : Bool) : State :=
  let e := s.font.table[p]
  if e.font = n ∧ e.ready then s.setPosition p { e with state := if fix then .fixed else .mounted }
  else if e.font = n ∧ e.state = .requested then
    s.setPosition p { e with fix := fix, wait := wait, origin := some .mount }
  else if e.font = n ∧ e.state = .loading then s.setPosition p { e with fix := fix, origin := some .mount }
  else s.requestFont p n fix wait .mount

/-- MOUNT (R63, R96). The range of the font number is tried before the entry's in-use count and the font's other position
(DEDUCED, log 50). -/
def State.mountEffect (s : State) (d : Command) : State :=
  let n := wordField d.operand 0 10
  match asPosition d.inline with
  | some p =>
    if isFontNumber n then
      if 0 < s.font.table[p].inUse || s.heldElsewhere p n then s.copyError .refusedMount d.offset
      else s.mountAt p n (wordBit d.operand 15) (wordBit d.operand 14)
    else s.badOperand d
  | none => s.badOperand d

/-- The entry at `p`, not in use, is emptied; a VACANT entry is left as it is (R61, R64). -/
def State.emptyPosition (s : State) (p : Fin 8) : State :=
  if s.font.table[p].state = .vacant then s else s.vacate p none

/-- RELEASE (R64, R96). -/
def State.releaseEffect (s : State) (d : Command) : State :=
  match asPosition d.inline with
  | some p => if 0 < s.font.table[p].inUse then s.copyError .refusedRelease d.offset else s.emptyPosition p
  | none => s.badOperand d

/-! ### Film, proof, display, marks (R97, R98, R106, R146) -/

/-- ADVANCE and REVERSE: the line is ended and a MOVE of `sign` times the operand is queued (R97). -/
def State.moveEffect (s : State) (d : Command) (sign : Int) : State :=
  let v := d.operand.toNat
  if v = 0 then s.badOperand d
  else
    let s := if moveLimit < v then s.flagClamped else s
    s.work (s.endingWord [.endLine .left false, .offer (.move (sign * (min moveLimit v : Nat)))])

/-- CUT (R97). -/
def State.cutEffect (s : State) : State := s.work (s.endingWord [.endLine .left false, .offer .cut])

/-- The proof mode an inline byte names (R98). -/
def proofModeOf : Nat → Option ProofMode
  | 0 => some .off
  | 1 => some .attached
  | 2 => some .detached
  | _ => none

/-- PROOF (R98, R152). -/
def State.proofEffect (s : State) (d : Command) : State :=
  match proofModeOf d.inline with
  | some m => ({ s with proof.mode := m } : State).markIf (s.proof.mode != m) [229]
  | none => s.badOperand d

/-- DISPLAY: the host line is replaced, characters outside 0x20..0x7E as question marks, and a SHOW is made (R98,
R146). -/
def State.displayEffect (s : State) (d : Command) : State :=
  if 32 < d.inline then s.badOperand d
  else ({ s with panel.hostLine := d.values.map (fun c => if isTextCode c then c else 0x3F) } : State).display

/-- The last entry of the queue takes a mark at the end of its list (R106). -/
def addMarkToLast (v : Word) : List Entry → List Entry
  | [] => []
  | [e] => [{ e with marks := e.marks ++ [v] }]
  | e :: l => e :: addMarkToLast v l

/-- A MARK outside a job: on the last entry queued, in QUEUE WAIT when that one holds 4 marks, or posted at once
(R106). -/
def State.markOutside (s : State) (v : Word) : State :=
  match s.queue.getLast? with
  | some e =>
    if e.photo = .exposed then s.postMark v
    else if e.marks.length < 4 then { s with queue := addMarkToLast v s.queue }
    else ({ s with composer.held := some (.mark v) } : State).setComposer .queueWait
  | none => s.postMark v

/-- MARK (R98, R106). The fifth pending mark ends the line under composition LEFT, with an entry even when the line is
empty (R11). In LOOKAHEAD it ends the word first; that it then also ends the line the carried items begin, as R106 says
and R26 does not, is DEDUCED (log 17). -/
def State.markEffect (s : State) (d : Command) : State :=
  if s.composer.state = .outsideJob then s.markOutside d.operand
  else if s.composer.pendingMarks.length < 4 then
    { s with composer.pendingMarks := s.composer.pendingMarks ++ [d.operand] }
  else s.work (s.endingWord [.endLine .left true, .addMark d.operand])

end Sys2Proof.Machine
end

