-- ==== Sys2Proof/Machine/Posting.lean ====
section
/-! DEFINITION. The Status Writer's posting (Chapter 10; 11.3): the value each posted word shows, and the posting
pass. -/

namespace Sys2Proof.Machine

/-! ### Encodings of 11.3 -/

def Ownership.code : Ownership → Nat
  | .copy => 0
  | .taking => 1
  | .panel => 2

def SeqState.code : SeqState → Nat
  | .idle => 0
  | .shifting => 1
  | .lens => 2
  | .stepping => 3
  | .flashing => 4
  | .moving => 5
  | .cutting => 6
  | .halted => 7

def HaltKind.code : HaltKind → Nat
  | .lamp => 1
  | .shift => 2
  | .lens => 3
  | .step => 4
  | .filmDrive => 5
  | .cutter => 6
  | .filmLow => 7

def ComposerState.code : ComposerState → Nat
  | .outsideJob => 0
  | .setting => 1
  | .lookahead => 2
  | .fontWait => 3
  | .queueWait => 4
  | .discarding => 5

def CopyError.code : CopyError → Nat
  | .unknownCommand => 1
  | .outsideJob => 2
  | .badOperand => 3
  | .noFont => 4
  | .invalidCode => 5
  | .refusedMount => 6
  | .refusedRelease => 7
  | .lensesBusy => 8
  | .dictionaryFull => 9

def PosState.code : PosState → Nat
  | .vacant => 0
  | .requested => 1
  | .loading => 2
  | .mounted => 3
  | .fixed => 4
  | .refused => 5

def Reason.code : Reason → Nat
  | .timeout => 1
  | .declined => 2
  | .noRecord => 3
  | .damaged => 4
  | .memoryError => 5
  | .busy => 6
  | .withdrawn => 7

def JobOutcome.code : JobOutcome → Nat
  | .complete => 1
  | .unterminated => 2
  | .aborted => 3
  | .overrun => 4

def HalfState.code : HalfState → Nat
  | .empty => 0
  | .filling => 1
  | .full => 2

def ProofMode.code : ProofMode → Nat
  | .off => 0
  | .attached => 1
  | .detached => 2

/-- The code of a value that may be absent; 0 stands for none. -/
def codeOr {α : Type} (f : α → Nat) (v : Option α) : Nat := (v.map f).getD 0

/-- A count as a status word. -/
def natWord (n : Nat) : Word := BitVec.ofNat 16 n

/-- Bit `i` of a status word. -/
def bitIf (b : Bool) (i : Nat) : Nat := if b then 2 ^ i else 0

/-- The flags byte of a report (11.3). -/
def JobFlags.code (f : JobFlags) : Nat :=
  bitIf f.sumMismatch 0 + bitIf f.clamped 1 + bitIf f.fontSub 2 + bitIf f.sizeSub 3 + bitIf f.overset 4

/-- A spool point (11.3). -/
def SpoolPoint.word (p : SpoolPoint) : Word := natWord (bitIf (p.half == .b) 15 + p.offset)

/-- Film used as a signed 32-bit count; past that range it is free (log 13). -/
def filmWord (f : Int) : BitVec 32 :=
  if -2147483648 ≤ f ∧ f < 2147483648 then BitVec.ofInt 32 f else Config.filmPastRange f

/-- Word `j` of a report (11.3). -/
def Report.word (r : Report) : Nat → Word
  | 0 => r.job
  | 1 => pairWord (codeOr JobOutcome.code r.outcome) r.flags.code
  | 2 => natWord r.linesSet
  | 3 => natWord r.linesExposed
  | 4 => highWord (filmWord r.film)
  | 5 => lowWord (filmWord r.film)
  | 6 => r.sumComputed
  | _ => r.sumGiven

/-- Word `j` of a position's mirror (11.3). -/
def Position.word (e : Position) : Nat → Word
  | 0 => natWord e.font
  | 1 => pairWord e.state.code (codeOr Reason.code e.reason)
  | 2 => natWord e.age
  | _ => natWord e.inUse

/-- Word `j` of the overset capture (11.3). -/
def Capture.word (c : Capture) : Nat → Word
  | 0 => natWord (bitIf c.held 15 + c.count)
  | 1 => c.job
  | 2 => natWord c.line
  | j + 3 => (packBytes c.codes).getD j 0

/-- The high and low words of a length of film (11.3). -/
def filmPair (v : Int) (high : Bool) : Word :=
  if high then highWord (BitVec.ofInt 32 v) else lowWord (BitVec.ofInt 32 v)

/-! ### What each posted word shows -/

/-- The disabled requesters (11.3). -/
def State.disabledWord (s : State) : Word :=
  let d := s.port.disabled
  natWord (bitIf d.intake 0 + bitIf d.library 1 + bitIf d.drain 2 + bitIf d.spool 3)

/-- The words below offset 48 (11.3). The intervention cell is posted as 0, after power-on only (R187). -/
def State.lowStatusWord (s : State) : Nat → Word
  | 2 => natWord s.panel.ownership.code
  | 3 => natWord s.seq.state.code
  | 4 => natWord (codeOr HaltKind.code s.seq.halt)
  | 5 => natWord s.composer.state.code
  | 6 => s.currentJob
  | 7 => natWord s.intake.job.linesSet
  | 8 => natWord s.exposure.lines
  | 9 => filmPair s.seq.film.loaded true
  | 10 => filmPair s.seq.film.loaded false
  | 11 => filmPair s.seq.film.remaining true
  | 12 => filmPair s.seq.film.remaining false
  | 13 => filmPair s.seq.film.position true
  | 14 => filmPair s.seq.film.position false
  | 15 => filmPair s.seq.film.cutTotal true
  | 16 => filmPair s.seq.film.cutTotal false
  | 17 => natWord s.intake.intakeOffset
  | 18 => natWord s.intake.consumeOffset
  | 19 => natWord s.intake.fill
  | 20 => natWord s.intake.run.length
  | 21 => natWord (codeOr CopyError.code s.intake.errKind)
  | 22 => natWord s.intake.errOffset
  | 23 => s.intake.refetchCount
  | 24 => natWord s.hyph.dictionary.length
  | 32 => s.status.flags
  | 33 => s.port.mask
  | 40 => s.disabledWord
  | 41 => natWord s.port.lastFault.intake
  | 42 => natWord s.port.lastFault.library
  | 43 => natWord s.port.lastFault.drain
  | 44 => natWord s.port.lastFault.spool
  | 45 => natWord s.port.lastFault.status
  | _ => 0

/-- The spool words (11.3). -/
def State.spoolStatusWord (s : State) : Nat → Word
  | 224 => s.proof.writePoint.word
  | 225 => s.proof.drainPoint.word
  | 226 => natWord s.proof.halfA.code
  | 227 => natWord s.proof.halfB.code
  | 228 => natWord s.proof.gap
  | _ => natWord s.proof.mode.code

/-- An index below 8. -/
def index8 (n : Nat) : Fin 8 := ⟨n % 8, Nat.mod_lt n (by decide)⟩

/-- The value the status word at `off` shows (R184; 11.3). -/
def State.postedValue (s : State) (off : Nat) : Word :=
  if off < 48 then s.lowStatusWord off
  else if off < 80 then s.font.table[index8 ((off - 48) / 4)].word (off % 4)
  else if off = 80 then s.status.markValue
  else if off = 81 then s.status.markCount
  else if off < 128 then s.status.capture.word (off - 96)
  else if off = 128 then natWord (s.panel.inbox.getD []).length
  else if off < 152 then (packBytes (s.panel.inbox.getD [])).getD (off - 129) 0
  else if off = 152 then natWord s.status.nextSlot.val
  else if off < 224 then s.status.reports[index8 ((off - 160) / 8)].word (off % 8)
  else if off < 230 then s.spoolStatusWord off
  else natWord s.font.lenses[index8 (off - 230)]

/-! ### The posting pass (R185) -/

/-- A pass can begin: words are marked and none is under way. -/
def State.passCanBegin (s : State) : Bool := s.status.pass.isNone && !s.status.marks.isEmpty

/-- A pass begins: the count goes up by one, the words are fixed with their values, and their marks are cleared. A mask
latched after this moment is not the one this pass writes at the mask cell (R185 against R175; DEDUCED, log 47). -/
def State.beginPass (s : State) : State :=
  let count := s.status.count + 1
  { s with status.count := count, status.marks := [],
           status.pass := some { words := (countCell, count) :: s.status.marks.map (fun o => (o, s.postedValue o)) } }

/-- The next word of the pass under way: its offset and its value (R185). -/
def State.nextStatusWord (s : State) : Option (Nat × Word) :=
  match s.status.pass with
  | none => none
  | some { words := [] } => some (countCell, s.status.count + 1)
  | some { words := w :: _ } => some w

/-- The pass after a STATUS cycle, whatever the bank made of it: the word is done; after the last word comes the
count cycle, with which the pass ends (R185, R187). -/
def State.advancePass (s : State) : State :=
  match s.status.pass with
  | none => s
  | some { words := [] } => { s with status.count := s.status.count + 1, status.pass := none }
  | some { words := _ :: rest } => { s with status.pass := some { words := rest } }

/-- What a STATUS cycle writes: the flag cell takes the internal flag set as it stands when its cycle is made (R175,
R185). -/
def State.statusData (s : State) (off : Nat) (data : Word) : Word := if off = flagCell then s.status.flags else data

end Sys2Proof.Machine
end

