-- ==== Sys2Proof/Machine/BankPort.lean ====
section
/-! DEFINITION. The Bank Port (Chapter 9): requests and the arbiter, what each part cycle brings its owner, bank
faults, host writes by the area they land in, the hold, and the interventions (Chapter 10). -/

namespace Sys2Proof.Machine

/-! ### Requests (R176) -/

/-- A fresh request. -/
def request (k : CycleKind) (off : Nat) (w : Word) : CycleRequest := { kind := k, offset := off, data := w, stale := false }

/-- The cycle the owner of a requester calls for now (R176). -/
def State.wants (s : State) : Requester → Option CycleRequest
  | .intake =>
    if s.intake.run.length < runLimit ∧ s.intake.run.length < s.intake.fill then
      some (request .refetch (ringAfter s.intake.consumeOffset s.intake.run.length) 0)
    else none
  | .library =>
    match s.font.fetch with
    | some (.search k) => some (request .search (slotOffset k 0) 0)
    | some (.record k words _ _) => some (request .record (slotOffset k words.length) 0)
    | none => none
  | .drain => s.proof.nextDrainWord.map (fun off => request .drain off 0)
  | .spool => s.proof.nextSpoolWord.map (fun x => request .spool x.1 x.2)
  | .status => s.nextStatusWord.map (fun x => request .status x.1 x.2)

/-- A requester makes its request when its owner calls for a cycle, it is enabled, and it has none waiting or in
progress (R176, R179). -/
def State.makeRequest (s : State) (r : Requester) : State :=
  if (s.port.requests.get r).isNone && !s.port.disabled.get r then
    { s with port.requests := s.port.requests.set r (s.wants r) }
  else s

/-- The five requesters in the arbiter's order (R177). -/
def requesters : List Requester := [.intake, .library, .drain, .spool, .status]

/-- Every requester makes the request it has to make. -/
def State.makeRequests (s : State) : State := requesters.foldl State.makeRequest s

/-! ### The arbiter (R168, R177) -/

/-- Whether the bank is idle with no host cycle waiting: a write being held leaves the bank idle to the arbiter, a
released one is waiting (R168 to R170). -/
def State.bankFree (s : State) : Bool :=
  s.port.cycle.isNone && (s.port.holdTimer == .running || (s.port.held.isNone && s.port.hostQueue.isEmpty))

/-- The waiting requester that stands first in the order. -/
def State.firstWaiting (s : State) : Option Requester :=
  requesters.find? (fun r => (s.port.requests.get r).isSome)

/-! ### The ends of part cycles (R176) -/

/-- The request whose cycle is in progress. -/
def State.inProgress (s : State) : Option (Requester × CycleRequest) :=
  s.port.cycle.bind (fun r => (s.port.requests.get r).map (fun q => (r, q)))

/-- The cycle in progress is over, and the request with it. -/
def State.endCycle (s : State) (r : Requester) : State :=
  { s with port.cycle := none, port.requests := s.port.requests.set r none }

/-- A part cycle of kind `k` completes without a fault, and its owner takes the result by `f`, unless it has given
the request up (R176); none when no such cycle is in progress (log 2). A SPOOL write that has been given up reaches
memory all the same, and leaves the half's state as it stands (DEDUCED, log 46); a STATUS write is never given up,
since power-on drops its request (R134). -/
def State.onCycle (s : State) (k : CycleKind) (f : State → CycleRequest → State) : Option State :=
  match s.inProgress with
  | some (r, q) =>
    if q.kind = k then
      let s := s.endCycle r
      let s := if q.kind = .spool then s.write q.offset q.data else s
      some (if q.stale then s else f s q)
    else none
  | none => none

/-- A refetched word is appended to the capture run (R81). -/
def State.refetched (s : State) (q : CycleRequest) : State :=
  ({ s with intake.run := s.intake.run ++ [s.read q.offset], intake.refetchCount := s.intake.refetchCount + 1 } :
    State).mark [20, 23]

/-- The font whose record the fetch in flight is for, with its position. -/
def State.fetching (s : State) : Option (Fin 8 × Nat) :=
  s.font.fetchList.head?.map (fun p => (p, s.font.table[p].font))

/-- Word 0 of a slot has been read in the search (R67). -/
def State.searched (s : State) (q : CycleRequest) : State :=
  match s.font.fetch, s.fetching with
  | some (.search k), some (p, n) =>
    if (s.read q.offset).toNat = n then { s with font.fetch := some (.record k [] false 0) }
    else if k + 1 < slotCount then { s with font.fetch := some (.search (k + 1)) }
    else s.refuseFetch p .noRecord
  | _, _ => s

/-- The width record that the words of a slot carry (11.2). -/
def recordOf (words : List Word) : WidthRecord :=
  { min := hiByte (words.getD 1 0), normal := loByte (words.getD 1 0), max := hiByte (words.getD 2 0),
    limit := loByte (words.getD 2 0), widths := bytesOf ((words.drop 3).take 48) }

/-- Whether a record is DAMAGED (R68). -/
def recordDamaged (words : List Word) : Bool :=
  let r := recordOf words
  words.getD 51 0 != (words.take 51).foldl (· + ·) 0 || r.normal < r.min || r.max < r.normal || 8 < r.limit
    || 127 < r.max || r.widths.any (127 < ·)

/-- Why a record of font `n` is refused, if it is (R68). When it is both damaged and no longer `n`'s, the rules give
no order (log 14). -/
def recordRefusal (words : List Word) (n : Nat) : Option Reason :=
  let damaged := recordDamaged words
  let other := (words.getD 0 0).toNat != n
  if damaged && other then some (if Config.damagedFirst then .damaged else .noRecord)
  else if damaged then some .damaged
  else if other then some .noRecord
  else none

/-- A record that passes its check goes into the width store, and the entry becomes FIXED or MOUNTED (R70). -/
def State.fetchSucceeds (s : State) (p : Fin 8) (r : WidthRecord) : State :=
  let e := s.font.table[p]
  let s := { s with font.widths := s.font.widths.set p (some r) }
  (s.setPosition p
    { e with state := if e.fix then .fixed else .mounted, reason := none, age := 0, callStep := 0, wait := false,
             fix := false, origin := none, remove := none, timer := none }).endFetch

/-- A word of a record has been read; after word 51 the record is checked (R68, R69). -/
def State.recordWordRead (s : State) (q : CycleRequest) : State :=
  match s.font.fetch, s.fetching with
  | some (.record k words _ restarts), some (p, n) =>
    let words := words ++ [s.read q.offset]
    if words.length < slotWords then { s with font.fetch := some (.record k words true restarts) }
    else match recordRefusal words n with
      | some r => s.refuseFetch p r
      | none => s.fetchSucceeds p (recordOf words)
  | _, _ => s

/-- A STATUS cycle of the pass is made (R185). -/
def State.statusWritten (s : State) (q : CycleRequest) : State :=
  (s.write q.offset (s.statusData q.offset q.data)).advancePass

/-! ### Bank faults (R178 to R180) -/

/-- The fault log takes a fault of requester `r` (R178). -/
def State.logFault (s : State) (r : Requester) (off : Nat) : State :=
  (({ s with port.lastFault := s.port.lastFault.set r off,
             port.disabled := if r = .status then s.port.disabled else s.port.disabled.set r true } : State).mark
    (List.range' 40 6)).raise .memoryError

/-- An entry in proof that is DETACHED is counted as a gap at once; an ATTACHED one waits, with the record abandoned
(R161). A half whose first header word was faulted is not yet FILLING (DEDUCED, log 46). -/
def State.spoolFault (s : State) : State :=
  let s := { s with proof.written := 0 }
  match s.inProof with
  | some e => if e.mode = .detached then s.countGap else s
  | none => s

/-- What the owner does when a cycle of its requester is faulted (R71, R82, R161, R164, R180). A fault repost leaves
the intervention cell alone, even when the faulted cycle was the power-on posting's write of it (R187; DEDUCED, log
48). -/
def State.ownerFault (s : State) (r : Requester) (q : CycleRequest) : State :=
  match r with
  | .intake => s
  | .library =>
    match s.font.fetch, s.fetching with
    | some _, some (p, _) => s.refuseFetch p .memoryError
    | _, _ => s
  | .drain => { s with proof.reading := none }
  | .spool => (s.writeFaulted q.offset).spoolFault
  | .status => ((s.writeFaulted q.offset).markAll).advancePass

/-- The bank signals a fault at the end of the part cycle in progress (R178); none when there is no such cycle
(log 2). -/
def State.onFault (s : State) : Option State :=
  s.inProgress.map (fun (r, q) => ((s.endCycle r).logFault r q.offset).ownerFault r q)

/-! ### Host writes that pass (R69, R77, R167, R169) -/

/-- The record read of slot `k` begins again at word 0: a LIBRARY request that waits is for that word from now on; a
read already in progress is discarded (R69, R176; log 25). -/
def State.rereadSlot (s : State) (k : Nat) : State :=
  if s.port.cycle = some .library then s.giveUpRequest .library
  else
    let waiting := (s.port.requests.get .library).map (fun q => { q with offset := slotOffset k 0 })
    { s with port.requests := s.port.requests.set .library waiting }

/-- A host write into the slot of a record read in progress disturbs it (R69). -/
def State.disturb (s : State) (off : Nat) : State :=
  match s.font.fetch, s.fetching with
  | some (.record k _ true restarts), some (p, _) =>
    if slotOffset k 0 ≤ off ∧ off < slotOffset k 0 + slotWords then
      if restarts < 3 then { s.rereadSlot k with font.fetch := some (.record k [] true (restarts + 1)) }
      else (s.giveUpRequest .library).refuseFetch p .busy
    else s
  | _, _ => s

/-- A ring word at the intake offset is taken, and captured when it extends the run (R77). -/
def State.takeRingWord (s : State) (c : HostCycle) : State :=
  let k := s.intake.run.length
  let captured := c.offset == ringAfter s.intake.consumeOffset k && k < runLimit
  let s := s.hostStore c.offset c.data c.bus
  ({ s with intake.run := if captured then s.intake.run ++ [c.data] else s.intake.run,
            intake.fill := s.intake.fill + 1, intake.intakeOffset := ringAfter s.intake.intakeOffset 1 } :
    State).mark (if captured then [17, 19, 20] else [17, 19])

/-- A host write to the copy ring: taken, held when the ring is full, or passed (R77, R78, R169). -/
def State.ringWrite (s : State) (c : HostCycle) : State :=
  if c.offset = s.intake.intakeOffset then
    if s.intake.fill < ringWords then s.takeRingWord c
    else { s with port.held := some c, port.holdTimer := .running }
  else s.hostStore c.offset c.data c.bus

/-- A host write to a word without behaviour of its own (R69, R167). -/
def State.plainWrite (s : State) (c : HostCycle) : State := (s.hostStore c.offset c.data c.bus).disturb c.offset

/-- A host write to the flag cell: flags named are cleared, and memory receives the set as it then stands (R172). -/
def State.flagCellWritten (s : State) (c : HostCycle) : State :=
  let s := { s with status.flags := clearFlags s.status.flags c.data }
  s.hostStore flagCell s.status.flags c.bus

/-- A host write to the mask cell passes and is latched (R173). -/
def State.maskCellWritten (s : State) (c : HostCycle) : State :=
  ({ s with port.mask := c.data } : State).hostStore maskCell c.data c.bus

/-! ### Interventions (R174, R190) -/

/-- ABORT JOB: always taken (R191). -/
def State.abortJobTaken (s : State) : Option State := some (s.jobAbort .aborted)

/-- WITHDRAW: taken of a REQUESTED or LOADING entry (R65). -/
def State.withdrawTaken (s : State) (arg : Nat) : Option State :=
  match asPosition arg with
  | some p =>
    if s.font.table[p].state = .requested ∨ s.font.table[p].state = .loading then
      some (s.vacate p (some .withdrawn))
    else none
  | none => none

/-- The requester a CLEAR PATH argument names, STATUS excepted (11.3). -/
def clearable : Nat → Option Requester
  | 1 => some .intake
  | 2 => some .library
  | 3 => some .drain
  | 4 => some .spool
  | _ => none

/-- CLEAR PATH; for a requester that is enabled it changes nothing (R182, R190). -/
def State.clearPathTaken (s : State) (arg : Nat) : Option State :=
  (clearable arg).map (fun r =>
    ({ s with port.disabled := s.port.disabled.set r false } : State).markIf (s.port.disabled.get r) [40])

/-- The posted words of the inbox (11.3). -/
def inboxOffsets : List Nat := List.range' 128 17

/-- INBOX TAKEN: always taken; emptying an empty inbox changes nothing (R149). -/
def State.inboxTakenTaken (s : State) : Option State :=
  some (({ s with panel.inbox := none } : State).markIf s.panel.inbox.isSome inboxOffsets)

/-- CAPTURE TAKEN: always taken; emptying an empty capture changes nothing (R35, R190, R192). -/
def State.captureTakenTaken (s : State) : Option State :=
  some (({ s with status.capture := Capture.empty } : State).markIf s.status.capture.held captureOffsets)

/-- RETURN REQUEST: always taken; the panel is shown HOST ASKS RETURN and sounded once (R150). -/
def State.returnRequestTaken (s : State) : Option State := some (s.showWith true none).alarmOnce

/-- The ring words that RING RESET changes: none when the ring already stands at its reset values (R190; log 42). -/
def Intake.resetMarks (i : Intake) : List Nat :=
  (if i.intakeOffset = ringBase then [] else [17]) ++ (if i.consumeOffset = ringBase then [] else [18])
    ++ (if i.fill = 0 then [] else [19]) ++ (if i.run = [] then [] else [20])

/-- RING RESET: taken OUTSIDE JOB and in DISCARDING (R83). -/
def State.ringResetTaken (s : State) : Option State :=
  if s.composer.state = .outsideJob ∨ s.composer.state = .discarding then
    some ((({ s with intake.intakeOffset := ringBase, intake.consumeOffset := ringBase, intake.fill := 0,
                     intake.run := [], intake.decoder := none } : State).giveUpRequest .intake).mark
      s.intake.resetMarks)
  else none

/-- REPOST: always taken (R187). -/
def State.repostTaken (s : State) : Option State := some s.markAll

/-- The decision on a word written into the intervention cell: the state it leads to when taken, none when refused
(R174, R190). -/
def State.intervene (s : State) (v : Word) : Option State :=
  match hiByte v with
  | 1 => s.abortJobTaken
  | 2 => s.withdrawTaken (loByte v)
  | 3 => s.clearPathTaken (loByte v)
  | 4 => s.inboxTakenTaken
  | 5 => s.captureTakenTaken
  | 6 => s.returnRequestTaken
  | 7 => s.ringResetTaken
  | 8 => s.repostTaken
  | _ => none

/-- A host write to the intervention cell: memory receives 0 when it is taken, the word written when it is refused
(R174). -/
def State.interventionWritten (s : State) (c : HostCycle) : State :=
  match s.intervene c.data with
  | some t => t.hostStore interventionCell 0 c.bus
  | none => s.hostStore interventionCell c.data c.bus

/-! ### Host cycles (R167, R168) -/

/-- A host write reaches the bank (R167). -/
def State.hostNow (s : State) (c : HostCycle) : State :=
  if inRing c.offset then s.ringWrite c
  else if c.offset = flagCell then s.flagCellWritten c
  else if c.offset = maskCell then s.maskCellWritten c
  else if c.offset = interventionCell then s.interventionWritten c
  else s.plainWrite c

/-- The host cycles that waited are made in turn; a write that is held stops the host (R168, R169). -/
def State.hostCycles : List HostCycle → State → State
  | [], s => { s with port.hostQueue := [] }
  | c :: l, s =>
    if s.port.held.isSome then { s with port.hostQueue := c :: l }
    else State.hostCycles l (({ s with port.hostQueue := l } : State).hostNow c)

/-- The waiting host cycles are made once the bank is idle and no write is held or released. -/
def State.serveHost (s : State) : State :=
  if s.port.cycle.isNone && s.port.held.isNone then State.hostCycles s.port.hostQueue s else s

/-- What follows every event: requests are made, waiting host cycles are served, and requests are made again. -/
def State.settle (s : State) : State := s.makeRequests.serveHost.makeRequests

/-- A host write is presented: it begins at once on an idle bank, and waits otherwise (R168). -/
def State.hostWrite (s : State) (c : HostCycle) : State :=
  if s.port.cycle.isNone && s.port.held.isNone && s.port.hostQueue.isEmpty then s.hostNow c
  else { s with port.hostQueue := s.port.hostQueue ++ [c] }

/-! ### The hold (R79, R169, R170) -/

/-- A released write completes as if it had just arrived, once no part cycle is in progress (R170). -/
def State.onRelease (s : State) : Option State :=
  match s.port.held with
  | some c =>
    if s.port.holdTimer = .idle ∧ s.port.cycle.isNone then some (({ s with port.held := none } : State).hostNow c)
    else none
  | none => none

/-- The Composer at a ring overrun with no job in progress: DISCARDING, with an entry or MARK it holds dropped (R79,
R100). -/
def State.overrunOutside (s : State) : State :=
  ({ s with composer.held := none, composer.todo := [] } : State).setComposer .discarding

/-- A ring overrun by the held write `c` (R79, R170). The length of the run is marked when the overrun changes it (10.2). -/
def State.overrun (old : State) (c : HostCycle) : State :=
  let s := ({ old with port.held := none, port.holdTimer := .idle } : State).hostStore c.offset c.data c.bus
  let s := (({ s with intake.consumeOffset := ringAfter s.intake.consumeOffset 1,
                      intake.intakeOffset := ringAfter s.intake.intakeOffset 1, intake.run := [],
                      intake.decoder := none } : State).giveUpRequest .intake).mark
    (if old.intake.run = [] then [17, 18] else [17, 18, 20])
  let s := if s.intake.job.inProgress then s.jobAbort .overrun else s.overrunOutside
  s.raise .ringOverrun

/-- The hold limit expires (R170). -/
def State.onHoldExpiry (s : State) : Option State :=
  match s.port.held with
  | some c => if s.port.holdTimer = .running then some (s.overrun c) else none
  | none => none

/-! ### Power-on (R134, R171, R187) -/

/-- What memory keeps at power-on: a part write in progress may leave its word in any state (log 5), and a held write
completes with its data unchanged (R171). -/
def State.memoryAtPowerOn (s : State) : State :=
  let s := match s.inProgress with
    | some (_, q) => if q.kind = CycleKind.spool ∨ q.kind = CycleKind.status then s.writeFaulted q.offset else s
    | none => s
  match s.port.held with
  | some c => s.hostStore c.offset c.data c.bus
  | none => s

/-- Power-on: every block takes its power-on values (R134). Memory, the host's waiting cycles and the printer's lines
are outside the part and stand. -/
def State.powerOn (s : State) : State :=
  let s := s.memoryAtPowerOn
  { State.reset with
    mem := s.mem, freeCount := s.freeCount, pending := s.pending,
    port := { BankPort.reset with hostQueue := s.port.hostQueue },
    proof := { ProofUnit.reset with busy := s.proof.busy, paperOut := s.proof.paperOut } }

/-! ### Answers -/

/-- The answer of a step whose event happens, with what follows it. -/
def State.done (s : State) : Host.Outcome State Fault Refusal := .next s.settle

/-- The answer of a step whose event may not happen in this state: nothing changes then (log 2). -/
def State.answer (s : State) (o : Option State) : Host.Outcome State Fault Refusal :=
  match o with
  | some t => t.done
  | none => .next s

/-- The answer to a host write; an offset the bank does not have is a fault of the model. -/
def State.hostCommand (s : State) (off : Nat) (w : Word) (bus : BusResult) : Host.Outcome State Fault Refusal :=
  if off < bankWords then (s.hostWrite { offset := off, data := w, bus := bus }).done else .fault (.offBank off)

end Sys2Proof.Machine
end

