-- ==== Sys2Proof/Machine/CopyMeanings.lean ====
section
/-! DEFINITION. The meanings of the copy words: text words, fillers, invalid codes, command words, operands and the
twenty commands (Chapter 4). -/

namespace Sys2Proof.Machine

/-- FILLER (R84). -/
def execFiller (s : State) : Host.Outcome State Fault Refusal := s.answer (s.onWord .filler (fun t _ _ => t))

/-- DISCRETIONARY_HYPHEN (R38). -/
def execDiscretionaryHyphen (s : State) : Host.Outcome State Fault Refusal :=
  s.answer (s.onWord .discretionaryHyphen (fun t _ off => t.textWord off State.recordPoint))

/-- TIE (R3). -/
def execTie (s : State) : Host.Outcome State Fault Refusal :=
  s.answer (s.onWord .tie (fun t _ off => t.textWord off (fun u => u.work [.token (.tie off)])))

/-- INTERWORD_SPACE (R2, R24). -/
def execInterwordSpace (s : State) : Host.Outcome State Fault Refusal :=
  s.answer (s.onWord .space (fun t _ off => t.textWord off (fun u => u.work [.token .space])))

/-- CHARACTER (R4, R5, R23 to R27, R55, R94). -/
def execCharacter (s : State) : Host.Outcome State Fault Refusal :=
  s.answer (s.onWord .character (fun t w off => t.textWord off (fun u => u.work [.token (.char w.toNat off)])))

/-- INVALID_CODE (R84). -/
def execInvalidCode (s : State) : Host.Outcome State Fault Refusal :=
  s.answer (s.onWord .invalidCode (fun t _ off => t.copyErrorUnlessDiscarding .invalidCode off))

/-- UNKNOWN_COMMAND (R85). -/
def execUnknownCommand (s : State) : Host.Outcome State Fault Refusal :=
  s.answer (s.onWord .unknownCommand (fun t _ off => t.endTextRun.copyErrorUnlessDiscarding .unknownCommand off))

/-- OPERAND_WORD (R85). -/
def execOperandWord (s : State) : Host.Outcome State Fault Refusal :=
  s.answer (s.onWord .operand (fun t w _ => t.takeOperand w))

/-- The command word of `c` in command position, when the head of the run is one. -/
def State.onCommandWord (s : State) (c : Cmd) : Option State :=
  s.onWord (.commandWord c) (fun t w off => t.beginCommand c w off)

/-- COMMAND_WORD (R85): whichever known command the head of the run names. -/
def execCommandWord (s : State) : Host.Outcome State Fault Refusal :=
  s.answer (match s.nextRow with
    | some (.commandWord c) => s.onCommandWord c
    | _ => none)

/-- JOB (R87, R88). -/
def execJob (s : State) : Host.Outcome State Fault Refusal := s.answer (s.onCommand .job State.jobEffect)

/-- ENDJOB (R89). -/
def execEndjob (s : State) : Host.Outcome State Fault Refusal :=
  s.answer (s.onCommand .endjob (fun t d => t.jobCommand d (·.endjobEffect d)))

/-- MEASURE (R91). -/
def execMeasure (s : State) : Host.Outcome State Fault Refusal :=
  s.answer (s.onCommand .measure (fun t d => t.jobCommand d (·.measureEffect d)))

/-- LEAD (R91). -/
def execLead (s : State) : Host.Outcome State Fault Refusal :=
  s.answer (s.onCommand .lead (fun t d => t.jobCommand d (·.leadEffect d)))

/-- FONT (R51 to R54, R92). -/
def execFont (s : State) : Host.Outcome State Fault Refusal :=
  s.answer (s.onCommand .font (fun t d => t.jobCommand d (·.fontEffect d)))

/-- SIZE (R73, R92). -/
def execSize (s : State) : Host.Outcome State Fault Refusal :=
  s.answer (s.onCommand .size (fun t d => t.jobCommand d (·.sizeEffect d)))

/-- QUAD (R93). -/
def execQuad (s : State) : Host.Outcome State Fault Refusal :=
  s.answer (s.onCommand .quad (fun t d => t.jobCommand d (·.quadEffect d)))

/-- FIXSPACE (R93). -/
def execFixspace (s : State) : Host.Outcome State Fault Refusal :=
  s.answer (s.onCommand .fixspace (fun t d => t.jobCommand d (·.fixspaceEffect d)))

/-- HYPH (R43, R95). -/
def execHyph (s : State) : Host.Outcome State Fault Refusal :=
  s.answer (s.onCommand .hyph (fun t d => t.standingCommand (·.hyphEffect d)))

/-- EXCEPT (R45, R95). -/
def execExceptWord (s : State) : Host.Outcome State Fault Refusal :=
  s.answer (s.onCommand .exceptWord (fun t d => t.standingCommand (·.exceptEffect d)))

/-- UNEXCEPT (R46, R95). -/
def execUnexcept (s : State) : Host.Outcome State Fault Refusal :=
  s.answer (s.onCommand .unexcept (fun t d => t.standingCommand (·.unexceptEffect d)))

/-- LENSES (R72, R96). -/
def execLenses (s : State) : Host.Outcome State Fault Refusal :=
  s.answer (s.onCommand .lenses (fun t d => t.standingCommand (·.lensesEffect d)))

/-- MOUNT (R63, R96). -/
def execMount (s : State) : Host.Outcome State Fault Refusal :=
  s.answer (s.onCommand .mount (fun t d => t.standingCommand (·.mountEffect d)))

/-- RELEASE (R64, R96). -/
def execRelease (s : State) : Host.Outcome State Fault Refusal :=
  s.answer (s.onCommand .release (fun t d => t.standingCommand (·.releaseEffect d)))

/-- ADVANCE (R97). -/
def execAdvance (s : State) : Host.Outcome State Fault Refusal :=
  s.answer (s.onCommand .advance (fun t d => t.standingCommand (·.moveEffect d 1)))

/-- REVERSE (R97). -/
def execReverse (s : State) : Host.Outcome State Fault Refusal :=
  s.answer (s.onCommand .reverse (fun t d => t.standingCommand (·.moveEffect d (-1))))

/-- CUT (R97). -/
def execCut (s : State) : Host.Outcome State Fault Refusal :=
  s.answer (s.onCommand .cut (fun t _ => t.standingCommand (·.cutEffect)))

/-- PROOF (R98, R152). -/
def execProofMode (s : State) : Host.Outcome State Fault Refusal :=
  s.answer (s.onCommand .proofMode (fun t d => t.standingCommand (·.proofEffect d)))

/-- DISPLAY (R98, R146). -/
def execDisplay (s : State) : Host.Outcome State Fault Refusal :=
  s.answer (s.onCommand .display (fun t d => t.standingCommand (·.displayEffect d)))

/-- MARK (R98, R106). -/
def execMark (s : State) : Host.Outcome State Fault Refusal :=
  s.answer (s.onCommand .mark (fun t d => t.standingCommand (·.markEffect d)))

end Sys2Proof.Machine
end

