-- ==== Sys2Proof/Machine/CycleMeanings.lean ====
section
/-! DEFINITION. The meanings of the arbiter's grant, of the ends of part cycles, and of the beginning of a posting
pass. -/

namespace Sys2Proof.Machine

/-- ARBITER_GRANT (R168, R177): one part cycle begins. -/
def execArbiterGrant (s : State) : Host.Outcome State Fault Refusal :=
  s.answer (if s.bankFree then s.firstWaiting.map (fun r => { s with port.cycle := some r }) else none)

/-- REFETCH_READ (R81). -/
def execRefetchRead (s : State) : Host.Outcome State Fault Refusal := s.answer (s.onCycle .refetch State.refetched)

/-- LIBRARY_SEARCH_READ (R67). -/
def execLibrarySearchRead (s : State) : Host.Outcome State Fault Refusal := s.answer (s.onCycle .search State.searched)

/-- LIBRARY_RECORD_READ (R68, R70). -/
def execLibraryRecordRead (s : State) : Host.Outcome State Fault Refusal :=
  s.answer (s.onCycle .record State.recordWordRead)

/-- DRAIN_READ (R163, R197). -/
def execDrainRead (s : State) : Host.Outcome State Fault Refusal :=
  s.answer (s.onCycle .drain (fun t q => t.drainWord (t.read q.offset)))

/-- SPOOL_WRITE (R158, R159): the word is in memory when the owner is told. -/
def execSpoolWrite (s : State) : Host.Outcome State Fault Refusal :=
  s.answer (s.onCycle .spool (fun t _ => t.spoolWritten))

/-- STATUS_WRITE (R185). -/
def execStatusWrite (s : State) : Host.Outcome State Fault Refusal := s.answer (s.onCycle .status State.statusWritten)

/-- BANK_FAULT (R178 to R180). -/
def execBankFault (s : State) : Host.Outcome State Fault Refusal := s.answer s.onFault

/-- POSTING_PASS_BEGIN (R185). -/
def execPostingPassBegin (s : State) : Host.Outcome State Fault Refusal :=
  s.answer (if s.passCanBegin then some s.beginPass else none)

end Sys2Proof.Machine
end

