-- ==== Sys2Proof/Machine/HostMeanings.lean ====
section
/-! DEFINITION. The meanings of power-on, of the host's writes with the interventions, and of the ends of a hold. -/

namespace Sys2Proof.Machine

/-- An intervention's word: its code and its argument (11.3). -/
def interventionWord (code : Nat) (arg : Byte) : Word := pairWord code arg.toNat

/-- POWER_ON (R134). -/
def execPowerOn (s : State) : Host.Outcome State Fault Refusal := s.powerOn.done

/-- HOST_RING_WRITE (R77 to R79, R169). -/
def execHostRingWrite (off : Nat) (data : Word) (bus : BusResult) (s : State) : Host.Outcome State Fault Refusal :=
  s.hostCommand off data bus

/-- HOLD_RELEASE (R170). -/
def execHoldRelease (s : State) : Host.Outcome State Fault Refusal := s.answer s.onRelease

/-- HOLD_LIMIT_EXPIRY (R79, R170). -/
def execHoldLimitExpiry (s : State) : Host.Outcome State Fault Refusal := s.answer s.onHoldExpiry

/-- HOST_WRITE (R69, R78, R167). -/
def execHostWrite (off : Nat) (data : Word) (bus : BusResult) (s : State) : Host.Outcome State Fault Refusal :=
  s.hostCommand off data bus

/-- FLAG_CELL_WRITE (R172). -/
def execFlagCellWrite (data : Word) (bus : BusResult) (s : State) : Host.Outcome State Fault Refusal :=
  s.hostCommand flagCell data bus

/-- MASK_CELL_WRITE (R173). -/
def execMaskCellWrite (data : Word) (bus : BusResult) (s : State) : Host.Outcome State Fault Refusal :=
  s.hostCommand maskCell data bus

/-- UNKNOWN_INTERVENTION (R174, R190). -/
def execUnknownIntervention (data : Word) (bus : BusResult) (s : State) : Host.Outcome State Fault Refusal :=
  s.hostCommand interventionCell data bus

/-- ABORT_JOB (R191). -/
def execAbortJob (arg : Byte) (bus : BusResult) (s : State) : Host.Outcome State Fault Refusal :=
  s.hostCommand interventionCell (interventionWord 1 arg) bus

/-- WITHDRAW (R65). -/
def execWithdraw (arg : Byte) (bus : BusResult) (s : State) : Host.Outcome State Fault Refusal :=
  s.hostCommand interventionCell (interventionWord 2 arg) bus

/-- CLEAR_PATH (R182). -/
def execClearPath (arg : Byte) (bus : BusResult) (s : State) : Host.Outcome State Fault Refusal :=
  s.hostCommand interventionCell (interventionWord 3 arg) bus

/-- INBOX_TAKEN (R149). -/
def execInboxTaken (arg : Byte) (bus : BusResult) (s : State) : Host.Outcome State Fault Refusal :=
  s.hostCommand interventionCell (interventionWord 4 arg) bus

/-- CAPTURE_TAKEN (R192). -/
def execCaptureTaken (arg : Byte) (bus : BusResult) (s : State) : Host.Outcome State Fault Refusal :=
  s.hostCommand interventionCell (interventionWord 5 arg) bus

/-- RETURN_REQUEST (R150). -/
def execReturnRequest (arg : Byte) (bus : BusResult) (s : State) : Host.Outcome State Fault Refusal :=
  s.hostCommand interventionCell (interventionWord 6 arg) bus

/-- RING_RESET (R83). -/
def execRingReset (arg : Byte) (bus : BusResult) (s : State) : Host.Outcome State Fault Refusal :=
  s.hostCommand interventionCell (interventionWord 7 arg) bus

/-- REPOST (R187). -/
def execRepost (arg : Byte) (bus : BusResult) (s : State) : Host.Outcome State Fault Refusal :=
  s.hostCommand interventionCell (interventionWord 8 arg) bus

end Sys2Proof.Machine
end

