-- ==== Sys2Proof/Machine/PanelMeanings.lean ====
section
/-! DEFINITION. The meanings of the panel's messages and of the sending of a message to the panel (Chapter 7). -/

namespace Sys2Proof.Machine

/-- TAKE (R136). -/
def execTake (s : State) : Host.Outcome State Fault Refusal :=
  s.answer (if s.panel.ownership = .copy then
      some (s.setOwnership (if s.inExposure.isSome then .taking else .panel))
    else none)

/-- The machine is the copy's again (R138). Of a HALTED Sequencer one SHOW serves the change of ownership and the leaving of
HALTED that follows (`State.leaveHalt`), as the tables of 7.8 have it (DEDUCED, log 51); a resumption that halts again at
once makes the SHOW of that change beside it (R139). -/
def State.returnToCopy (s : State) : State :=
  (if s.seq.state = .halted then s.ownBy .copy else s.setOwnership .copy).goOn

/-- RETURN (R124, R138). -/
def execReturnMachine (s : State) : Host.Outcome State Fault Refusal :=
  (if s.panel.ownership = .panel then s.returnToCopy else s.refuse .notTaken).done

/-- A MOUNTED report with values in range (R60). -/
def State.mountedReport (s : State) (p : Fin 8) (n : Nat) : State :=
  let e := s.font.table[p]
  if e.state = .requested then
    if e.font = n then s.loadFont p n e.fix e.origin else s.refuse (.wrongFont e.font)
  else if e.state = .loading then s.refuse .loading
  else if 0 < e.inUse then s.refuse .inUse
  else if s.heldElsewhere p n then s.refuse .duplicate
  else s.loadFont p n false (some .panel)

/-- MOUNTED (R60, R140). -/
def execMounted (p n : Nat) (s : State) : Host.Outcome State Fault Refusal :=
  (match asPosition p with
    | some p => if isFontNumber n then s.mountedReport p n else s.refuse .badValue
    | none => s.refuse .badValue).done

/-- EMPTIED (R61, R140). -/
def execEmptied (p : Nat) (s : State) : Host.Outcome State Fault Refusal :=
  (match asPosition p with
    | some p => if 0 < s.font.table[p].inUse then s.refuse .inUse else s.emptyPosition p
    | none => s.refuse .badValue).done

/-- DECLINE (R62, R140). -/
def execDecline (p : Nat) (s : State) : Host.Outcome State Fault Refusal :=
  (match asPosition p with
    | some p =>
      if s.font.table[p].state = PosState.requested then (s.refusePosition p .declined).endCall p else s.refuse .notCalled
    | none => s.refuse .badValue).done

/-- A message about the film: its values are checked first, then the ownership, then whether a manual motion is
outstanding (R130, R131, R140). -/
def State.filmMessage (s : State) (inRange : Bool) (taken : State) : State :=
  if !inRange then s.refuse .badValue
  else if s.panel.ownership ≠ .panel then s.refuse .notTaken
  else if s.seq.manual.isSome then s.refuse .busy
  else taken

/-- FILM LOADED (R130). -/
def execFilmLoaded (x : Nat) (s : State) : Host.Outcome State Fault Refusal :=
  (s.filmMessage (1 ≤ x && x ≤ 1200) (s.setFilm (Film.load x)).display).done

/-- A manual move of `t` ticks (R131): forward it needs the film, reverse it is shortened at the last cut, and one
shortened to nothing is confirmed at once (R128), its SHOW with the distance only in the last case of R144 (log 53). -/
def State.manualMove (s : State) (t : Int) : State :=
  if 0 < t then if s.seq.film.remaining < t then s.refuse .filmLow else s.sendManual (.move t)
  else
    let d := s.seq.film.reverseDistance (-t)
    if 0 < d then s.sendManual (.move (-d)) else s.showWith false (some (.moved 0))

/-- The panel's ADVANCE (R131). -/
def execPanelAdvance (t : Int) (s : State) : Host.Outcome State Fault Refusal :=
  (s.filmMessage (1 ≤ t.natAbs && t.natAbs ≤ moveLimit) (s.manualMove t)).done

/-- The panel's CUT (R131). -/
def execPanelCut (s : State) : Host.Outcome State Fault Refusal := (s.filmMessage true (s.sendManual .cut)).done

/-- CANCEL (R141). -/
def execCancel (s : State) : Host.Outcome State Fault Refusal :=
  (if s.intake.job.inProgress then s.jobAbort .aborted else s.refuse .noJob).done

/-- Whether a MESSAGE's values are in range (R140). -/
def messageInRange (text : List Nat) : Bool := 1 ≤ text.length && text.length ≤ 32 && text.all isTextCode

/-- A MESSAGE with values in range (R148). -/
def State.messageReport (s : State) (text : List Nat) : State :=
  match s.panel.inbox with
  | none => (({ s with panel.inbox := some text } : State).mark inboxOffsets).raise .inbox
  | some _ => s.refuse .inboxFull

/-- MESSAGE (R140, R148). -/
def execMessage (text : List Nat) (s : State) : Host.Outcome State Fault Refusal :=
  (if messageInRange text then s.messageReport text else s.refuse .badValue).done

/-- UNKNOWN_PANEL_MESSAGE (R140). -/
def execUnknownPanelMessage (s : State) : Host.Outcome State Fault Refusal := (s.refuse .unknown).done

/-- PANEL_MESSAGE_SENT (R142): the message on the link has gone, and the next of the outbound list goes onto it. -/
def execPanelMessageSent (s : State) : Host.Outcome State Fault Refusal :=
  ({ s with panel := s.panel.sent } : State).done

end Sys2Proof.Machine
end

