-- ==== Sys2Proof/Machine/PhotounitMeanings.lean ====
section
/-! DEFINITION. The meanings of the photounit's events: starts, reports and deadlines (Chapter 6). -/

namespace Sys2Proof.Machine

/-- ENTRY_START (R110, R116). -/
def execEntryStart (s : State) : Host.Outcome State Fault Refusal :=
  s.answer (if s.canStart then some s.starts else none)

/-- The motion outstanding for an entry (R120, R121). -/
def State.motion (s : State) : Option Order := s.seq.order.filter Order.isMotion

/-- A completion report confirms the motion outstanding, manual or not; otherwise it is discarded (R121, R131). -/
def State.onCompletion (s : State) : Option State :=
  match s.seq.manual with
  | some m => some (s.confirmManual m)
  | none => s.motion.map (fun o => (s.confirm o).starts)

/-- MOTION_COMPLETE (R118 to R121, R126 to R129, R131). -/
def execMotionComplete (s : State) : Host.Outcome State Fault Refusal := s.answer s.onCompletion

/-- The deadline of the motion outstanding expires: it is sent again once, then the Sequencer halts (R120). -/
def State.onDeadline (s : State) : Option State :=
  s.motion.map (fun o =>
    if s.seq.expiry = 0 then { s with seq.expiry := 1, seq.deadline := some o.deadline }
    else s.haltAt o.haltKind (s.seq.action.getD .step))

/-- MOTION_DEADLINE_EXPIRY (R120, R123). -/
def execMotionDeadlineExpiry (s : State) : Host.Outcome State Fault Refusal := s.answer s.onDeadline

/-- Whether a flash is outstanding (R122). -/
def State.flashing (s : State) : Bool := s.seq.order == some .flash

/-- A flash is seen: the Sequencer goes on to the next character item, or completes the entry (R122). -/
def State.flashSeen (s : State) : State :=
  (({ s with seq.miss := 0, seq.order := none, seq.deadline := none } : State).takeUpFrom
    ((s.seq.item.map (· + 1)).getD 0)).starts

/-- FLASH_SEEN (R122). -/
def execFlashSeen (s : State) : Host.Outcome State Fault Refusal :=
  s.answer (if s.flashing then some s.flashSeen else none)

/-- FLASH_MISSED (R122). -/
def execFlashMissed (s : State) : Host.Outcome State Fault Refusal :=
  s.answer (if s.flashing then some s.flashMiss else none)

/-- FLASH_TIMEOUT (R122): no report within 2 s counts as a miss. -/
def execFlashTimeout (s : State) : Host.Outcome State Fault Refusal :=
  s.answer (if s.flashing then some s.flashMiss else none)

/-- The deadline of the manual motion expires: it is sent again once, then abandoned (R132). -/
def State.onManualDeadline (s : State) : Option State :=
  s.seq.manual.map (fun m =>
    if m.expiry = 0 then
      { s with seq.manual := some { m with expiry := 1, deadline := m.motion.deadline } }
    else s.abandonManual m)

/-- MANUAL_DEADLINE_EXPIRY (R132). -/
def execManualDeadlineExpiry (s : State) : Host.Outcome State Fault Refusal := s.answer s.onManualDeadline

end Sys2Proof.Machine
end

