-- ==== Sys2Proof/Machine/ProofMeanings.lean ====
section
/-! DEFINITION. The meanings of the Proof Unit's beginning of an entry and of the printer's events (Chapter 8). -/

namespace Sys2Proof.Machine

/-- The first entry whose proof state is WAITING, when no entry is in proof (R153). -/
def State.nextToProof (s : State) : Option Entry :=
  if s.inProof.isSome then none else s.queue.find? (fun e => e.proof == .waiting)

/-- The Proof Unit begins an entry: its records are formed, and a DETACHED entry that cannot be placed is a gap (R153,
R154, R160). -/
def State.beginProof (s : State) (e : Entry) : State :=
  let l := s.formRecords e.kind
  let s := s.markInProof
  if e.mode = .detached ∧ ¬ s.canPlace l then s.countGap else { s with proof.records := l, proof.written := 0 }

/-- PROOF_BEGIN_ENTRY (R153, R160). -/
def execProofBeginEntry (s : State) : Host.Outcome State Fault Refusal := s.answer (s.nextToProof.map s.beginProof)

/-- PRINTER_ACKNOWLEDGE (R165). -/
def execPrinterAcknowledge (s : State) : Host.Outcome State Fault Refusal :=
  s.answer (if s.proof.port = .awaiting then some s.charSent else none)

/-- PRINTER_STATUS_CHANGE (R165): a held port presents its character once neither line is asserted. -/
def execPrinterStatusChange (busy paperOut : Bool) (s : State) : Host.Outcome State Fault Refusal :=
  let s := { s with proof.busy := busy, proof.paperOut := paperOut }
  (if s.proof.port = .held then s.portReady else s).done

/-- PRINTER_STALLED (R166): once for each character. -/
def execPrinterStalled (s : State) : Host.Outcome State Fault Refusal :=
  s.answer (if s.proof.port ≠ .idle ∧ s.proof.stalled = false then
      some (({ s with proof.stalled := true } : State).raise .printerStalled)
    else none)

end Sys2Proof.Machine
end

