-- ==== Sys2Proof/Machine/WaitMeanings.lean ====
section
/-! DEFINITION. The meanings of the ends of the Composer's waits and of a call timer's expiry (Chapters 3, 4, 5). -/

namespace Sys2Proof.Machine

/-- The held entry is accepted when the queue has room (R105). -/
def State.onHeldEntry (s : State) : Option State :=
  match s.composer.held with
  | some (.entry k) => if s.queueRoom then some (s.acceptHeld k) else none
  | _ => none

/-- HELD_ENTRY_ACCEPTED (R99, R105). -/
def execHeldEntryAccepted (s : State) : Host.Outcome State Fault Refusal := s.answer s.onHeldEntry

/-- Whether the photounit has completed the entry most recently queued (R106). -/
def State.lastExposed (s : State) : Bool :=
  match s.queue.getLast? with
  | some e => e.photo == .exposed
  | none => true

/-- A MARK held outside a job is posted (R106). -/
def State.onHeldMark (s : State) : Option State :=
  match s.composer.held with
  | some (.mark v) =>
    if s.lastExposed then some ((({ s with composer.held := none } : State).postMark v).setComposer s.baseState)
    else none
  | _ => none

/-- MARK_WAIT_END (R106). -/
def execMarkWaitEnd (s : State) : Host.Outcome State Fault Refusal := s.answer s.onHeldMark

/-- A FONT WAIT on an entry ends (R54). -/
def State.onFontWaitEnd (s : State) : Option State :=
  match s.composer.fontWait with
  | some w =>
    match w.target with
    | .entry p (some selected) => some (if selected then s.waitSelects w p else s.waitSubstitutes w)
    | _ => none
  | none => none

/-- FONT_WAIT_END (R54). -/
def execFontWaitEnd (s : State) : Host.Outcome State Fault Refusal := s.answer s.onFontWaitEnd

/-- A FONT WAIT waits on `t` from now on (R53). -/
def State.retarget (s : State) (w : FontWait) (t : WaitTarget) : State :=
  { s with composer.fontWait := some { w with target := t } }

/-- The resolution that a FONT WAIT for a position runs again (R53). -/
def State.rerunResolution (s : State) (w : FontWait) : State :=
  match s.resolve w.font with
  | .select p => s.waitSelects w p
  | .waitOn p => s.retarget w (.entry p none)
  | .call p => (s.callFont w.font p).retarget w (.entry p none)
  | .waitPosition => s.retarget w (.position false)
  | .substitute => s.waitSubstitutes w

/-- The resolution is run again when an entry has left or a position has changed state (R53). -/
def State.onPositionRerun (s : State) : Option State :=
  match s.composer.fontWait with
  | some w =>
    match w.target with
    | .position true => some (s.rerunResolution w)
    | _ => none
  | none => none

/-- FONT_POSITION_RERUN (R53). -/
def execFontPositionRerun (s : State) : Host.Outcome State Fault Refusal := s.answer s.onPositionRerun

/-- The call at `p` is shown again at step `step` (R58). -/
def State.repeatCall (s : State) (p : Fin 8) (step : Nat) : State :=
  (s.setPosition p { s.font.table[p] with callStep := step, timer := some (callInterval step) }).sendCall p

/-- The call timer of `p` expires (R58). -/
def State.onCallTimer (s : State) (p : Fin 8) : Option State :=
  let e := s.font.table[p]
  if e.state = .requested then
    some (if e.callStep < 4 then s.repeatCall p (e.callStep + 1)
      else if e.wait then s.repeatCall p 4
      else (s.refusePosition p .timeout).endCall p)
  else none

/-- CALL_TIMER_EXPIRY (R58, R59). -/
def execCallTimerExpiry (p : Fin 8) (s : State) : Host.Outcome State Fault Refusal := s.answer (s.onCallTimer p)

end Sys2Proof.Machine
end

