-- ==== Sys2Proof/Machine/Dispatch.lean ====
section
/-! DEFINITION. One arm for each command: a direct call of its meaning. -/

namespace Sys2Proof.Machine

def exec (i : Instr) (s : State) : Host.Outcome State Fault Refusal :=
  match i with
  | .powerOn => Sys2Proof.Machine.execPowerOn s
  | .hostRingWrite offset data bus => Sys2Proof.Machine.execHostRingWrite offset data bus s
  | .holdRelease => Sys2Proof.Machine.execHoldRelease s
  | .holdLimitExpiry => Sys2Proof.Machine.execHoldLimitExpiry s
  | .hostWrite offset data bus => Sys2Proof.Machine.execHostWrite offset data bus s
  | .flagCellWrite data bus => Sys2Proof.Machine.execFlagCellWrite data bus s
  | .maskCellWrite data bus => Sys2Proof.Machine.execMaskCellWrite data bus s
  | .unknownIntervention data bus => Sys2Proof.Machine.execUnknownIntervention data bus s
  | .abortJob arg bus => Sys2Proof.Machine.execAbortJob arg bus s
  | .withdraw arg bus => Sys2Proof.Machine.execWithdraw arg bus s
  | .clearPath arg bus => Sys2Proof.Machine.execClearPath arg bus s
  | .inboxTaken arg bus => Sys2Proof.Machine.execInboxTaken arg bus s
  | .captureTaken arg bus => Sys2Proof.Machine.execCaptureTaken arg bus s
  | .returnRequest arg bus => Sys2Proof.Machine.execReturnRequest arg bus s
  | .ringReset arg bus => Sys2Proof.Machine.execRingReset arg bus s
  | .repost arg bus => Sys2Proof.Machine.execRepost arg bus s
  | .arbiterGrant => Sys2Proof.Machine.execArbiterGrant s
  | .refetchRead => Sys2Proof.Machine.execRefetchRead s
  | .librarySearchRead => Sys2Proof.Machine.execLibrarySearchRead s
  | .libraryRecordRead => Sys2Proof.Machine.execLibraryRecordRead s
  | .drainRead => Sys2Proof.Machine.execDrainRead s
  | .spoolWrite => Sys2Proof.Machine.execSpoolWrite s
  | .statusWrite => Sys2Proof.Machine.execStatusWrite s
  | .bankFault => Sys2Proof.Machine.execBankFault s
  | .postingPassBegin => Sys2Proof.Machine.execPostingPassBegin s
  | .filler => Sys2Proof.Machine.execFiller s
  | .discretionaryHyphen => Sys2Proof.Machine.execDiscretionaryHyphen s
  | .tie => Sys2Proof.Machine.execTie s
  | .interwordSpace => Sys2Proof.Machine.execInterwordSpace s
  | .character => Sys2Proof.Machine.execCharacter s
  | .invalidCode => Sys2Proof.Machine.execInvalidCode s
  | .unknownCommand => Sys2Proof.Machine.execUnknownCommand s
  | .operandWord => Sys2Proof.Machine.execOperandWord s
  | .job => Sys2Proof.Machine.execJob s
  | .endjob => Sys2Proof.Machine.execEndjob s
  | .measure => Sys2Proof.Machine.execMeasure s
  | .lead => Sys2Proof.Machine.execLead s
  | .font => Sys2Proof.Machine.execFont s
  | .size => Sys2Proof.Machine.execSize s
  | .quad => Sys2Proof.Machine.execQuad s
  | .fixspace => Sys2Proof.Machine.execFixspace s
  | .hyph => Sys2Proof.Machine.execHyph s
  | .exceptWord => Sys2Proof.Machine.execExceptWord s
  | .unexcept => Sys2Proof.Machine.execUnexcept s
  | .lenses => Sys2Proof.Machine.execLenses s
  | .mount => Sys2Proof.Machine.execMount s
  | .release => Sys2Proof.Machine.execRelease s
  | .advance => Sys2Proof.Machine.execAdvance s
  | .reverse => Sys2Proof.Machine.execReverse s
  | .cut => Sys2Proof.Machine.execCut s
  | .proofMode => Sys2Proof.Machine.execProofMode s
  | .display => Sys2Proof.Machine.execDisplay s
  | .mark => Sys2Proof.Machine.execMark s
  | .heldEntryAccepted => Sys2Proof.Machine.execHeldEntryAccepted s
  | .markWaitEnd => Sys2Proof.Machine.execMarkWaitEnd s
  | .fontWaitEnd => Sys2Proof.Machine.execFontWaitEnd s
  | .fontPositionRerun => Sys2Proof.Machine.execFontPositionRerun s
  | .callTimerExpiry p => Sys2Proof.Machine.execCallTimerExpiry p s
  | .entryStart => Sys2Proof.Machine.execEntryStart s
  | .motionComplete => Sys2Proof.Machine.execMotionComplete s
  | .motionDeadlineExpiry => Sys2Proof.Machine.execMotionDeadlineExpiry s
  | .flashSeen => Sys2Proof.Machine.execFlashSeen s
  | .flashMissed => Sys2Proof.Machine.execFlashMissed s
  | .flashTimeout => Sys2Proof.Machine.execFlashTimeout s
  | .manualDeadlineExpiry => Sys2Proof.Machine.execManualDeadlineExpiry s
  | .take => Sys2Proof.Machine.execTake s
  | .returnMachine => Sys2Proof.Machine.execReturnMachine s
  | .mounted p n => Sys2Proof.Machine.execMounted p n s
  | .emptied p => Sys2Proof.Machine.execEmptied p s
  | .decline p => Sys2Proof.Machine.execDecline p s
  | .filmLoaded x => Sys2Proof.Machine.execFilmLoaded x s
  | .panelAdvance t => Sys2Proof.Machine.execPanelAdvance t s
  | .panelCut => Sys2Proof.Machine.execPanelCut s
  | .cancel => Sys2Proof.Machine.execCancel s
  | .message text => Sys2Proof.Machine.execMessage text s
  | .unknownPanelMessage => Sys2Proof.Machine.execUnknownPanelMessage s
  | .panelMessageSent => Sys2Proof.Machine.execPanelMessageSent s
  | .proofBeginEntry => Sys2Proof.Machine.execProofBeginEntry s
  | .printerAcknowledge => Sys2Proof.Machine.execPrinterAcknowledge s
  | .printerStatusChange busy paperOut => Sys2Proof.Machine.execPrinterStatusChange busy paperOut s
  | .printerStalled => Sys2Proof.Machine.execPrinterStalled s
  | .commandWord => Sys2Proof.Machine.execCommandWord s

end Sys2Proof.Machine
end

