-- ==== Sys2Proof/Safety.lean ====
section
/-! DEFINITION. What a safe run is, and the invariants of the machine in the terms the statements use. -/

namespace Sys2Proof.Machine

/-- A step is safe when it answers a next state: the part itself never stops, and the one fault of the model is a
host write to a word the bank does not have. -/
def Safe (s : State) : Prop := ∃ t, step s = .next t

/-! ### The end of a command, as the statements say it -/

/-- What requester `r` has outstanding once the state `s` is reached: what it had, or, when it had nothing and is
enabled, the cycle its owner calls for (R176, R179). -/
def State.requestAfter (s : State) (r : Requester) : Option CycleRequest :=
  match s.port.requests.get r with
  | some q => some q
  | none => if s.port.disabled.get r then none else s.wants r

/-- The requests outstanding once the state `s` is reached. -/
def State.requestsMade (s : State) : PerRequester (Option CycleRequest) :=
  { intake := s.requestAfter .intake, library := s.requestAfter .library, drain := s.requestAfter .drain,
    spool := s.requestAfter .spool, status := s.requestAfter .status }

/-- The state `s` with those requests: every other piece of state is as `s` has it. -/
def State.requesting (s : State) : State := { s with port.requests := s.requestsMade }

/-- The outcome `o` is a next state, and that state is `u` with the requests its owners call for. -/
def EndsIn (o : Host.Outcome State Fault Refusal) (u : State) : Prop := o = .next u.requesting

/-- No host cycle waits for the bank (R168). -/
abbrev Quiet (s : State) : Prop := s.port.hostQueue = []

/-- A host write presented now begins at once (R168, R169). -/
abbrev HostIdle (s : State) : Prop := s.port.cycle = none ∧ s.port.held = none ∧ s.port.hostQueue = []

/-- The word `w` is at the head of the run with no command in progress, and the Composer consumes copy (R80, R84). -/
abbrev WordNext (s : State) (w : Word) : Prop :=
  Quiet s ∧ s.composer.state.consumes = true ∧ s.intake.decoder = none ∧ s.intake.run.head? = some w

/-- The word `w` at the head of the run completes the command `c`, as its command word or as its last operand, and the
Composer consumes copy (R80, R85). -/
abbrev CommandNext (s : State) (c : Cmd) (w : Word) : Prop :=
  Quiet s ∧ s.nextRow = some (.effect c) ∧ s.intake.run.head? = some w

/-- The state in which the copy's next word `w` has been consumed and the command it completes is decoded (R80,
R85, R86). -/
def State.decoded (s : State) (w : Word) : State :=
  { s.consume w with intake.decoder := none, intake.textRun := false }

/-- The Composer sets copy and has nothing else in hand (R99). -/
abbrev ReadyToSet (s : State) : Prop := s.composer.state = .setting ∧ s.composer.todo = []

/-- The line that the next item joins: the line under composition, or, when it holds no items, a new one with the
measure, lead, size and font in effect (R6, R7). -/
def State.lineForItem (s : State) : Line :=
  if s.composer.line.items = [] then
    { Line.empty with gov := s.settingGov, govSize := s.composer.lensSize, measure := s.composer.measure,
                      lead := s.composer.lead }
  else s.composer.line

/-- The state `s` once a free link has taken up the first of the messages that wait (R142; log 10). -/
def State.linked (s : State) : State := { s with panel := s.panel.startLink }

/-- Line 1 of a SHOW without a notice made in the state `s` reads `l` (R144): the halt, else the first call, else the
state, with the result of a manual motion when one is given. -/
def ReadsOnLine1 (s : State) (result : Option ManualResult) (l : Line1) : Prop :=
  (s.seq.state = .halted → l = .halted s.seq.halt s.seq.failed s.heldSubject)
    ∧ (s.seq.state ≠ .halted →
      (∀ p rest, s.panel.calls = p :: rest → l = .call p s.font.table[p].font s.font.table[p].remove)
      ∧ (s.panel.calls = [] →
        l = .status s.panel.ownership s.seq.state (s.exposure.tag.map (·.number)) (s.seq.film.remaining / 1440) result))

/-- Lens `i` of the list serves the size asked by R73, `sub` telling whether the size is substituted: a lens of that
size, else the greatest below it, else the least of all, at the lowest index among equals. -/
def LensServes (lenses : Vector Nat 8) (asked : Nat) (i : Fin 8) (sub : Bool) : Prop :=
  (sub = false ↔ lenses[i] = asked) ∧ ((∃ j : Fin 8, lenses[j] = asked) → lenses[i] = asked)
    ∧ (sub = true →
      ((∃ j : Fin 8, lenses[j] < asked) →
        lenses[i] < asked ∧ ∀ j : Fin 8, lenses[j] < asked → lenses[j] ≤ lenses[i])
      ∧ ((∀ j : Fin 8, ¬ lenses[j] < asked) → ∀ j : Fin 8, lenses[i] ≤ lenses[j]))
    ∧ ∀ j : Fin 8, lenses[j] = lenses[i] → i ≤ j

/-- The age of entry `e` at position `p` after the LINE entry `l` is queued (R50): 0 for a MOUNTED or FIXED entry with an
item in it, one more, up to 255, for any other such entry, and as it was in any other state. -/
def Position.ageAfter (e : Position) (p : Fin 8) (l : LineEntry) : Nat :=
  if e.ready then (if ∃ x ∈ l.items, x.item.pos? = some p then 0 else min 255 (e.age + 1)) else e.age

/-- The age of entry `e` at position `p` after the LINE entries `lines` are queued in turn (R50). -/
def Position.ageAfterAll (e : Position) (p : Fin 8) (lines : List LineEntry) : Nat :=
  (lines.foldl (fun e l => { e with age := e.ageAfter p l }) e).age

/-- What a step of the copy in which the LINE entries `lines` are queued leaves alone: memory, the bank port but for the
hold timer and the requests, the Hyphenator, the Sequencer, the exposure record, the ring's intake side, the lens list,
the width store, the fetches, the panel, the proof unit, and the position table but for the in-use counts and for the
ages, which R50 gives. -/
def LineFrame (lines : List LineEntry) (s t : State) : Prop :=
  t.mem = s.mem ∧ t.freeCount = s.freeCount ∧ t.pending = s.pending ∧ t.hyph = s.hyph ∧ t.seq = s.seq
    ∧ t.exposure = s.exposure ∧ t.waitingReport = s.waitingReport
    ∧ t.port = { s.port with holdTimer := t.port.holdTimer, requests := t.port.requests }
    ∧ t.font = { s.font with table := t.font.table } ∧ t.panel = s.panel ∧ t.proof = s.proof
    ∧ t.intake.intakeOffset = s.intake.intakeOffset ∧ t.intake.refetchCount = s.intake.refetchCount
    ∧ ∀ p : Fin 8, t.font.table[p] =
      { s.font.table[p] with inUse := t.font.table[p].inUse, age := s.font.table[p].ageAfterAll p lines }

/-- The ladder count `n` after the LINE entries `lines` are accepted in turn: one more for a line hyphenated by the break
choice, past 255 a free value (log 13), and 0 for any other (R36). -/
def ladderAfter (n : Nat) (lines : List LineEntry) : Nat :=
  lines.foldl (fun n l => if l.flags.hyphenated then nextLadder n else 0) n

/-- The status record stands but for the change marks: no flag, capture, mark cell or report changes, and no pass. -/
def StatusStands (s t : State) : Prop := t.status = { s.status with marks := t.status.marks }

/-- What a step of the copy that queues no LINE entry leaves alone. -/
def CopyFrame (s t : State) : Prop := LineFrame [] s t ∧ StatusStands s t

/-- The entry that a kind of work becomes when the queue accepts it now (R105). -/
def State.entryFor (s : State) (k : EntryKind) : Entry :=
  { kind := k,
    tag := if s.intake.job.inProgress then some { number := s.intake.job.number, serial := s.intake.job.serial } else none,
    marks := s.composer.pendingMarks, mode := s.proof.mode, photo := .waiting,
    proof := if s.proof.mode = .off then .proofed else .waiting }

/-- The entries that work of these kinds becomes when the queue accepts it now, one after another: the first takes the
pending marks (R105, R106). -/
def State.entriesFor (s : State) (kinds : List EntryKind) : List Entry :=
  kinds.mapIdx (fun i k => if i = 0 then s.entryFor k else { s.entryFor k with marks := [] })

/-- Job `n` has begun (R88): the format state is at its power-on values, and of the Composer's record and of the job's
nothing else changes. -/
def JobBegun (s t : State) (n : Word) : Prop :=
  t.intake.job = { inProgress := true, number := n, serial := s.intake.job.serial + 1, linesSet := 0, sum := 0,
                   flags := JobFlags.none }
    ∧ LensServes s.font.lenses 20 t.composer.lens t.composer.sizeSub
    ∧ t.composer = { s.composer with
        state := .setting, measure := 3600, lead := 240, sizeAsked := 20, lens := t.composer.lens,
        lensSize := s.font.lenses[t.composer.lens], sizeSub := t.composer.sizeSub, current := none, fontSub := false,
        line := Line.empty, word := WordRun.none, noFont := false, ladder := 0, pendingMarks := [], todo := [] }

/-- Every in-use count is what R49 makes it. -/
abbrev InUseUpToDate (s : State) : Prop := ∀ p : Fin 8, s.font.table[p].inUse = s.inUseOf p

/-! ### Resolving a font, as the statements say it (R51 to R57) -/

/-- No entry holds font `n` in any state but VACANT (R51). -/
abbrev State.FontHeldNowhere (s : State) (n : Nat) : Prop :=
  ∀ q : Fin 8, s.font.table[q].font = n → s.font.table[q].state = .vacant

/-- The entry at `p` holds font `n` in a state that is not VACANT, and no other entry does (R48, R51). -/
abbrev State.FontHeldAt (s : State) (n : Nat) (p : Fin 8) : Prop :=
  s.font.table[p].font = n ∧ s.font.table[p].state ≠ .vacant
    ∧ ∀ q : Fin 8, q ≠ p → s.font.table[q].font = n → s.font.table[q].state = .vacant

/-- Position `p` is the home position of font `n` when `f` holds of that one, and otherwise the lowest-numbered position
of which it holds (R47, R52). -/
abbrev HomeFirst (n : Nat) (f : Fin 8 → Prop) (p : Fin 8) : Prop :=
  f p ∧ (p.val = n % 8 ∨ ((∀ q : Fin 8, q.val = n % 8 → ¬ f q) ∧ ∀ q : Fin 8, q < p → ¬ f q))

/-- The entry can be called for another font at once: it is VACANT or REFUSED (R52). -/
abbrev Position.isOpen (e : Position) : Prop := e.state = .vacant ∨ e.state = .refused

/-- The entry can be given up: it is MOUNTED and not in use (R52). -/
abbrev Position.isFree (e : Position) : Prop := e.state = .mounted ∧ e.inUse = 0

/-- R52 chooses position `p` for font `n`, which no entry holds: of the VACANT and REFUSED positions, else of the MOUNTED
ones not in use that have the highest age among them, the home position, else the lowest-numbered. -/
abbrev State.FontPlace (s : State) (n : Nat) (p : Fin 8) : Prop :=
  s.FontHeldNowhere n
    ∧ (HomeFirst n (fun q => s.font.table[q].isOpen) p
      ∨ ((∀ q : Fin 8, ¬ s.font.table[q].isOpen)
        ∧ HomeFirst n (fun q => s.font.table[q].isFree
          ∧ ∀ r : Fin 8, s.font.table[r].isFree → s.font.table[r].age ≤ s.font.table[q].age) p))

/-- No entry holds font `n`, and R52 finds no position for it (R53). -/
abbrev State.FontNoPlace (s : State) (n : Nat) : Prop :=
  s.FontHeldNowhere n ∧ ∀ q : Fin 8, ¬ s.font.table[q].isOpen ∧ ¬ s.font.table[q].isFree

/-- The set queue can free a position by draining: one that is MOUNTED and of which the line under composition holds no
item (R53). -/
abbrev State.QueueCanFree (s : State) : Prop :=
  ∃ q : Fin 8, s.font.table[q].state = .mounted ∧ ∀ i ∈ s.composer.line.items, i.pos? ≠ some q

/-- Font `n` is resolved by substitution: a REFUSED entry holds it, or it has no position and none can be freed (R51,
R53). -/
abbrev State.FontSubstituted (s : State) (n : Nat) : Prop :=
  (∃ p, s.FontHeldAt n p ∧ s.font.table[p].state = .refused) ∨ (s.FontNoPlace n ∧ ¬ s.QueueCanFree)

/-- The font that a call for the position of entry `e` names for removal: the one that stands on the disc there (R57). -/
def Position.toRemove (e : Position) : Option Nat :=
  if e.state = .mounted ∨ e.state = .fixed ∨ (e.state = .refused
      ∧ e.reason ∈ [some .noRecord, some .damaged, some .busy, some .memoryError]) then some e.font
  else none

/-- What a call for font `n` at position `p`, made by a resolution in the job in progress, makes of the state `s`, but for
the in-use counts, the Composer and the copy (R47, R52, R57; log 11). -/
def FontCalled (s t : State) (n : Nat) (p : Fin 8) : Prop :=
  t.font.table[p] =
      { font := n, state := .requested, reason := none, age := 0, inUse := t.font.table[p].inUse, callStep := 0,
        wait := false, fix := false, remove := s.font.table[p].toRemove, timer := some 5,
        origin := some (.font { number := s.intake.job.number, serial := s.intake.job.serial }) }
    ∧ (∀ q : Fin 8, q ≠ p → t.font.table[q] = { s.font.table[q] with inUse := t.font.table[q].inUse })
    ∧ t.font.widths = s.font.widths.set p none ∧ t.font = { s.font with table := t.font.table, widths := t.font.widths }
    ∧ t.panel.calls = s.panel.calls.filter (· ≠ p) ++ [p] ∧ t.panel.alarm = .sounding ∧ t.flagSet .mountCall = true
    ∧ .mountCall p n s.font.table[p].toRemove ∈ t.panel.unsent ∧ .alarm .sound ∈ t.panel.unsent
    ∧ t.panel.ownership = s.panel.ownership ∧ t.queue = s.queue ∧ t.mem = s.mem ∧ t.seq = s.seq ∧ t.hyph = s.hyph
    ∧ t.proof = s.proof ∧ t.exposure = s.exposure

/-- The position of the current font `f` still holds it as MOUNTED or FIXED (R55). -/
abbrev State.StillHolds (s : State) (f : CurrentFont) : Prop :=
  s.font.table[f.pos].font = f.font ∧ (s.font.table[f.pos].state = .mounted ∨ s.font.table[f.pos].state = .fixed)

/-- A character is set at once from position `p`, with FONT SUBSTITUTED marked when `mark` says so, the state then being
`v` but for the character: in the current font while its position holds it, in the font selected for it at another
position when it is resolved again, and else, with no current font, in the default font, that of the lowest MOUNTED or
FIXED position (R4, R55, R56). -/
def State.SetsCharacterFrom (s : State) (p : Fin 8) (mark : Bool) (v : State) : Prop :=
  let default : Prop := s.font.table[p].ready = true ∧ ∀ q : Fin 8, q < p → s.font.table[q].ready = false
  (s.composer.current = none ∧ default ∧ mark = true ∧ v = s)
    ∨ ∃ f, s.composer.current = some f
      ∧ ((s.StillHolds f ∧ p = f.pos ∧ mark = s.composer.fontSub ∧ v = s)
        ∨ (¬ s.StillHolds f ∧ s.FontHeldAt f.font p ∧ s.font.table[p].ready = true ∧ mark = s.composer.fontSub
          ∧ v = { s with composer.current := some { font := f.font, pos := p } })
        ∨ (¬ s.StillHolds f ∧ s.FontSubstituted f.font ∧ default ∧ mark = true
          ∧ v = { s with composer.current := none, composer.fontSub := true }))

/-- The LINE entry that the line `l`, ended with alignment `a`, makes as number `number` of the job; an empty one when it
holds no items but interword spaces (R11, R20). -/
def State.endedLine (s : State) (l : Line) (number : Nat) (a : Align) : LineEntry :=
  if stripSpaces l.items = [] then
    emptyLineEntry s.intake.job.number number a s.composer.lead s.composer.lensSize false
  else lineEntry s.intake.job.number number (l.over (stripSpaces l.items)) a false false false

/-! ### The break choice, as the statements say it (R28 to R36) -/

/-- What a break choice settles: the LINE entry it makes, the items it carries, the hyphen glyph it adds, whether it
breaks the word at the line's end, and whether the line is OVERSET. -/
structure Break where
  entry : LineEntry
  carried : List Item
  glyph : Option Item
  inWord : Bool
  overset : Bool
  deriving DecidableEq, Repr

/-- The letters at the end of `items` are `word`, and `before` stands before them (R22). -/
def EndWord (items before word : List Item) : Prop :=
  items = before ++ word ∧ (∀ i ∈ word, i.isLetterItem = true) ∧ ∀ i, before.getLast? = some i → i.isLetterItem = false

/-- The break-space candidate S is `x`, which stands after `head`; `rest` stands after it (R28). Of a line that is tested
again and ends with no word, the last item is no candidate (R34). -/
def BreakSpace (again : Bool) (before word head : List Item) (x : Item) (rest : List Item) : Prop :=
  ∃ tail last, before = head ++ x :: tail ++ last ∧ rest = tail ++ last ++ word
    ∧ last.length = (if again = true ∧ word = [] then 1 else 0)
    ∧ (x.isSpace = true ∨ (x.isHyphen = true ∧ head ≠ []))
    ∧ ∀ y ∈ tail, y.isSpace = false ∧ y.isHyphen = false

/-- The items of a line broken at S: those before a space, and an explicit hyphen too (R28). -/
def endedAt (head : List Item) (x : Item) : List Item := if x.isSpace then head else head ++ [x]

/-- Point `p` of the word at the end of the line can be taken, with the hyphen glyph `g`, which carries the marks of the
letter before it and of the substitutions that stand (R28, R30, R36, R56, R73; log 43). -/
def State.UsablePoint (s : State) (before word : List Item) (p : Nat) (g : Item) : Prop :=
  let line := (before ++ word).take (before.length + p)
  s.hyph.on = true ∧ (s.hyph.ladderLimit = 0 ∨ s.composer.ladder < s.hyph.ladderLimit)
    ∧ 2 ≤ word.length ∧ word.length < 25 ∧ s.composer.word.ineligible = false
    ∧ p ∈ s.hyph.points (word.map Item.letter) s.composer.word.points
    ∧ (∃ i a, line.getLast? = some i ∧ i.attr? = some a ∧ s.unitsOf a.pos 0x2D ≠ 0
      ∧ g = .char 0x2D
        { a with fontSub := a.fontSub || s.composer.fontSub, sizeSub := a.sizeSub || s.composer.sizeSub }
        (s.unitsOf a.pos 0x2D * a.size * 5))
    ∧ before.length + p + 1 ≤ 160 ∧ (sumsOf (line ++ [g])).minWidth ≤ s.composer.line.measure * 32

/-- Whether the extra of a line of `items` lies within -shrink..stretch (R29). -/
def ExtraFits (measure : Nat) (items : List Item) : Prop :=
  let w := sumsOf items
  (w.mn : Int) - w.nrm ≤ measure * 32 - (w.c + w.nrm) ∧ (measure : Int) * 32 - (w.c + w.nrm) ≤ w.mx - w.nrm

/-- The break choice over the line under composition settles `b`: choices 1 to 4 (R29 to R32). `again` says that R34
makes it over carried items. -/
def State.BreakChoice (s : State) (again : Bool) (b : Break) : Prop :=
  let l := s.composer.line
  let number := nextCount s.intake.job.linesSet
  let justified (items : List Item) (hyphenated loose : Bool) : LineEntry :=
    lineEntry s.intake.job.number number (l.over (stripSpaces items)) .justify false hyphenated loose
  ∃ before word, EndWord l.items before word ∧
    let noFit : Prop :=
      ∀ head x rest, BreakSpace again before word head x rest → ¬ ExtraFits l.measure (endedAt head x)
    let noPoint : Prop := ∀ p g, ¬ s.UsablePoint before word p g
    -- choice 1
    ((∃ head x rest, BreakSpace again before word head x rest ∧ ExtraFits l.measure (endedAt head x)
        ∧ b = { entry := justified (endedAt head x) false false, carried := rest, glyph := none, inWord := false,
                overset := false })
    -- choice 2, at the latest usable point
    ∨ (noFit ∧ ∃ p g, s.UsablePoint before word p g ∧ (∀ q h, s.UsablePoint before word q h → q ≤ p)
        ∧ b = { entry := justified (l.items.take (before.length + p) ++ [g]) true false,
                carried := l.items.drop (before.length + p), glyph := some g, inWord := true, overset := false })
    -- choice 3
    ∨ (noFit ∧ noPoint ∧ ∃ head x rest, BreakSpace again before word head x rest
        ∧ b = { entry := justified (endedAt head x) false true, carried := rest, glyph := none, inWord := false,
                overset := false })
    -- choice 4, over the longest leading run that fits at natural width; with none, the first item is discarded
    ∨ ((∀ head x rest, ¬ BreakSpace again before word head x rest) ∧ noPoint
        ∧ ∃ n, n ≤ l.items.length ∧ (sumsOf (l.items.take n)).natural ≤ l.measure * 32
          ∧ (∀ m, n < m → m ≤ l.items.length → l.measure * 32 < (sumsOf (l.items.take m)).natural)
          ∧ b =
            { entry :=
                if n = 0 then emptyLineEntry s.intake.job.number number .left l.lead s.composer.lensSize true
                else lineEntry s.intake.job.number number (l.over (l.items.take n)) .left true false false,
              carried := l.items.drop (max 1 n)
              glyph := none
              inWord := decide (word ≠ [] ∧ before.length < max 1 n)
              overset := true }))

/-- The overset capture after the line `items` of `job`, with line number `number`, is made OVERSET (R35): the line's
first 48 codes with a count of 1, or, of a capture that is held, one more up to 255. -/
def Capture.afterOverset (c : Capture) (job : Word) (number : Nat) (items : List Item) : Capture :=
  if c.held then { c with count := min 255 (c.count + 1) }
  else
    { held := true, count := 1, job := job, line := number,
      codes := (items.take 48).map Item.captureCode ++ List.replicate (48 - items.length) 0 }

/-- The state in which an OVERSET line has been captured or counted, flagged in the report, and raised (R32, R35,
R192). -/
def State.oversetMade (s : State) : State :=
  let c := s.status.capture.afterOverset s.intake.job.number (nextCount s.intake.job.linesSet) s.composer.line.items
  State.raise
    (State.markIf { s with status.capture := c, intake.job.flags.overset := true } (decide (c ≠ s.status.capture))
      (List.range' 96 27))
    .overset

/-- The report flags after the break `b`: OVERSET SEEN of an OVERSET line, and the marks of the hyphen glyph (R32, R56,
R73). -/
def JobFlags.afterBreak (f : JobFlags) (b : Break) : JobFlags :=
  { f with
    overset := f.overset || b.overset
    fontSub := f.fontSub || b.glyph.any (fun g => g.attr?.any (·.fontSub))
    sizeSub := f.sizeSub || b.glyph.any (fun g => g.attr?.any (·.sizeSub)) }

/-- The state after the break choice has settled `b`: in SETTING with no line under composition, with the report flags
that the break gives, and with the LINE entry to be queued, the carried items to form a new line, and that line to be tested, in this order (R33). The points of a
word that is broken are dropped and what remains of it is ineligible for hyphenation (R33, R38). -/
def State.broken (s : State) (b : Break) : State :=
  let t := if b.overset then s.oversetMade else s
  State.markIf { t with
      intake.job.flags := s.intake.job.flags.afterBreak b
      composer := { s.composer with
        line := Line.empty
        noFont := false
        word := if b.inWord then { s.composer.word with points := [], ineligible := true } else s.composer.word
        state := .setting
        todo := .offer (.line b.entry) :: .newLine b.carried s.composer.line.gov :: .retest :: s.composer.todo } }
    (s.composer.state != .setting) [5]

/-- What a step that breaks the line `items` makes of the status record. Of a line that is not OVERSET, nothing; of an
OVERSET one, the capture and the event flag, and nothing else (R35, R192). -/
def BreakStatus (s t : State) (overset : Bool) (items : List Item) : Prop :=
  (overset = false → StatusStands s t)
    ∧ (overset = true → t.flagSet .overset = true
      ∧ t.status = { s.status with
          capture := s.status.capture.afterOverset s.intake.job.number (nextCount s.intake.job.linesSet) items
          flags := (s.raise .overset).status.flags
          marks := t.status.marks })

/-- What a job abort with outcome `o` makes of the state `s` (R75, R100, R111, R113, R162): the Composer in DISCARDING
with its line, waits, marks and font dropped and its format state back at the power-on values, the job no longer in
progress, its WAITING entries gone from the queue, the calls of its FONT commands withdrawn, an entry in proof among
those removed given up, and its report written, or waiting on its entry in exposure. -/
def JobAborted (s t : State) (o : JobOutcome) : Prop :=
  let tag : JobTag := { number := s.intake.job.number, serial := s.intake.job.serial }
  (t.composer.state = .discarding ∧ t.composer.line = Line.empty ∧ t.composer.word = WordRun.none
    ∧ t.composer.measure = 3600 ∧ t.composer.lead = 240 ∧ t.composer.sizeAsked = 20 ∧ t.composer.current = none
    ∧ t.composer.ladder = 0 ∧ t.composer.pendingMarks = [] ∧ t.composer.held = none ∧ t.composer.todo = []
    ∧ t.composer.fontWait = none)
  ∧ (t.intake.job = { s.intake.job with inProgress := false, sum := 0 })
  ∧ t.queue = s.queue.filter (fun e => !(e.tag == some tag && e.photo == .waiting))
  ∧ (if s.inExposure.any (fun e => e.tag == some tag) then
      t.waitingReport = some { tag := tag, outcome := o, flags := s.intake.job.flags, linesSet := s.intake.job.linesSet }
        ∧ t.status.nextSlot = s.status.nextSlot ∧ t.status.reports = s.status.reports
    else
      t.waitingReport = s.waitingReport ∧ t.flagSet .jobReport = true
        ∧ t.status.nextSlot = s.status.nextSlot + 1
        ∧ t.status.reports = s.status.reports.set s.status.nextSlot
          { job := tag.number, outcome := some o, linesSet := s.intake.job.linesSet, sumComputed := 0, sumGiven := 0,
            linesExposed := if s.exposure.tag = some tag then s.exposure.lines else 0,
            film := if s.exposure.tag = some tag then s.exposure.film else 0,
            flags := { s.intake.job.flags with
              clamped := s.intake.job.flags.clamped || (decide (s.exposure.tag = some tag) && s.exposure.clamped) } })
  -- the position table, the width store and the call list (R49, R75)
  ∧ (let withdrawn (p : Fin 8) : Prop :=
      s.font.table[p].state = .requested ∧ s.font.table[p].origin = some (.font tag)
    InUseUpToDate t ∧ t.font.fetchList = s.font.fetchList ∧ t.font.fetch = s.font.fetch
      ∧ ∀ p : Fin 8,
        (withdrawn p → p ∉ t.panel.calls ∧ t.font.widths[p] = none
          ∧ t.font.table[p] =
            { Position.vacant with reason := some .withdrawn, inUse := t.font.table[p].inUse })
        ∧ (¬ withdrawn p → (p ∈ t.panel.calls ↔ p ∈ s.panel.calls) ∧ t.font.widths[p] = s.font.widths[p]
          ∧ t.font.table[p] = { s.font.table[p] with inUse := t.font.table[p].inUse }))
  -- the entry in proof (R162)
  ∧ (if s.queue.any (fun e => e.tag == some tag && e.photo == .waiting && e.proof == .inProof) then
      t.proof = { s.proof with records := [], written := 0 }
        ∧ t.port.requests.spool = s.port.requests.spool.map (fun q => { q with stale := true })
    else t.proof = s.proof ∧ t.port.requests.spool = s.port.requests.spool)
  ∧ (t.hyph = s.hyph ∧ t.seq = s.seq ∧ t.pending = s.pending
    ∧ t.font.lenses = s.font.lenses ∧ t.panel.hostLine = s.panel.hostLine ∧ t.panel.inbox = s.panel.inbox)

/-! ### The proof, as the statements say it (R156 to R163) -/

/-- The number of the font that the position of a character or missing-character item holds (R156). -/
def State.printedFont (s : State) : Item → Option Nat
  | .char _ a _ | .missing _ a _ => some s.font.table[a.pos].font
  | _ => none

/-- What R156 appends for the item at index `j` of a LINE: `[F n]` when its font differs from that of the last such item
before it, or, with none before it, from the governing font; `[S p]` when its lens size differs from that of the item
before it, or, at the first, from the governing size; and its own text. -/
def State.printedAt (s : State) (l : LineEntry) (j : Nat) : List Nat :=
  match (l.items[j]?).map (·.item) with
  | none => []
  | some i =>
    let before := (l.items.take j).map (·.item)
    let font := ((before.filterMap s.printedFont).getLast?).orElse (fun _ => l.gov.map (·.font))
    let size := (before.getLast?.map Item.size).getD l.govSize
    (match s.printedFont i with
      | some n => if font = some n then [] else codesOf ['[', 'F', ' '] ++ decimal n ++ codesOf [']']
      | none => [])
      ++ (if i.size = size then []
        else codesOf ['[', 'S', ' '] ++ decimal (i.size / 2) ++ (if i.size % 2 = 1 then codesOf ['.', '5'] else [])
          ++ codesOf [']'])
      ++ (match i with
        | .char c _ _ => [c]
        | .space _ _ _ _ => codesOf [' ']
        | .fixed _ _ _ => codesOf ['_']
        | .tie _ _ => codesOf ['~']
        | .missing _ _ _ => codesOf ['?'])

/-- The text of a LINE (R156). -/
def State.printedText (s : State) (l : LineEntry) : List Nat := (List.range l.items.length).flatMap (s.printedAt l)

/-- The columns 1 to 13 of the first record of a LINE (R155). -/
def LineEntry.printedMargin (l : LineEntry) : List Nat :=
  let number := decimal l.number
  let letters := codesOf ([('H', l.flags.hyphenated), ('L', l.flags.loose), ('T', l.flags.tight), ('O', l.flags.overset),
    ('S', l.flags.fontSub || l.flags.sizeSub), ('M', l.flags.missing)].filterMap
      (fun x => if x.2 then some x.1 else none))
  List.replicate (5 - number.length) 0x20 ++ number
    ++ codesOf [match l.align with
      | .left => 'L'
      | .right => 'R'
      | .centre => 'C'
      | .justify => 'J']
    ++ letters ++ List.replicate (6 - letters.length) 0x20 ++ [0x20]

/-- The proof unit with half `h` in the state `x`. -/
def ProofUnit.withHalf (u : ProofUnit) (h : Half) (x : HalfState) : ProofUnit :=
  match h with
  | .a => { u with halfA := x }
  | .b => { u with halfB := x }

/-- The proof unit once a write point at the end of a FULL half has gone to the other half, when that one is EMPTY; else
the write point waits (R158). -/
def ProofUnit.movedOn (u : ProofUnit) : ProofUnit :=
  let h := u.writePoint.half
  if u.half h = .full ∧ u.half h.other = .empty then { u with writePoint := { half := h.other, offset := 0 } } else u

/-- The proof unit once the half at the write point is FULL (R158). -/
def ProofUnit.filled (u : ProofUnit) : ProofUnit :=
  let h := u.writePoint.half
  ProofUnit.movedOn { u.withHalf h .full with writePoint := { half := h, offset := 4096 } }

/-- The proof unit once the drain has left its half: the half is EMPTY, the drain point stands at offset 0 of the other,
and a write point that waited for the half moves into it (R158, R163). -/
def ProofUnit.drainLeft (u : ProofUnit) : ProofUnit :=
  let h := u.drainPoint.half
  ProofUnit.movedOn { u.withHalf h .empty with drainPoint := { half := h.other, offset := 0 } }

/-- The proof unit once a record is read up to offset `stop` of the drain's half, which it leaves at the end of a FULL
half, and the port is ready with the characters `chars` (R163, R165). -/
def ProofUnit.printing (u : ProofUnit) (stop : Nat) (chars : List Nat) : ProofUnit :=
  let h := u.drainPoint.half
  let v : ProofUnit := { u with reading := none, drainPoint := { half := h, offset := stop } }
  { if stop = 4096 ∧ u.half h = .full then v.drainLeft else v with
    buffer := some chars, portIndex := 0, stalled := false, port := if u.busy || u.paperOut then .held else .awaiting }

/-- The posted spool words in which two proof units differ (R151; 11.3). -/
def ProofUnit.changes (u v : ProofUnit) : List Nat :=
  (if u.writePoint = v.writePoint then [] else [224]) ++ (if u.drainPoint = v.drainPoint then [] else [225])
    ++ (if u.halfA = v.halfA then [] else [226]) ++ (if u.halfB = v.halfB then [] else [227])
    ++ (if u.gap = v.gap then [] else [228])

/-- The cycle of requester `r` ends with the proof unit as `v`, each change of a posted word marked, and nothing else of
`s` but memory changes. -/
def ProofCycle (s t : State) (r : Requester) (v : ProofUnit) : Prop :=
  t = { s with
      port.cycle := none, port.requests := s.port.requests.set r none, mem := t.mem, proof := v,
      status.marks := t.status.marks }
    ∧ ∀ o, o ∈ t.status.marks ↔ o ∈ s.status.marks ∨ o ∈ s.proof.changes v

/-! ### The photounit, as the statements say it (R117) -/

/-- The Sequencer once the next action for a character item at position `p`, lens index `i` and escapement `x` is
ordered: a shift, a lens change and a step where the value held differs, else the flash (R117, R120, R122). -/
def Sequencer.ordering (q : Sequencer) (p i : Fin 8) (x : Int) : Sequencer :=
  let (state, action, order) : SeqState × Action × Order :=
    if q.shifted ≠ some p then (.shifting, .shift, .shift p)
    else if q.lens ≠ some i then (.lens, .lens, .lens i)
    else if q.escapement ≠ some x then (.stepping, .step, .step x)
    else (.flashing, .flash, .flash)
  { q with state := state, action := some action, order := some order, deadline := some 2, expiry := 0 }

/-! ### Invariants -/

/-- The bank is in its canonical form (log 28). -/
abbrev MemoryInv (s : State) : Prop := memWf s.mem = true

/-- Film is conserved (R126). -/
abbrev FilmInv (s : State) : Prop := s.seq.film.conserved

/-- The set queue holds at most 6 entries (R103). -/
abbrev QueueInv (s : State) : Prop := s.queue.length ≤ queueLimit

/-- The messages that wait are at most one SHOW, one ALARM and eight REFUSED, and none waits while the link is free
(R142; log 10). -/
abbrev OutboundInv (s : State) : Prop :=
  (s.panel.sending = none → s.panel.outbound = [])
    ∧ (s.panel.outbound.filter PanelMessage.isDisplay).length ≤ 1
    ∧ (s.panel.outbound.filter PanelMessage.isAlarm).length ≤ 1
    ∧ (s.panel.outbound.filter PanelMessage.isRefused).length ≤ 8

end Sys2Proof.Machine
end

