-- ==== Sys2Proof/WellFormed.lean ====
section
/-! DEFINITION. Which commands are of the row that names them: the host's writes are told apart by the word they
land on (R167), and an intervention by its code (R190). The values of copy words and of panel messages are judged by
the rules themselves, whatever they are. -/

namespace Sys2Proof

/-- Whether a word names no intervention (R190; 11.3). -/
def namesNoIntervention (w : Word) : Bool := w.toNat / 256 < 1 || 8 < w.toNat / 256

/-- Whether an offset has no behaviour of its own for a host write but the ring's (R167). -/
def plainOffset (off : Nat) : Bool :=
  off < Machine.bankWords && off != Machine.flagCell && off != Machine.maskCell && off != Machine.interventionCell

/-- A command carries values its row admits. -/
def WellFormed : Instr → Bool
  | .hostRingWrite off _ _ => Machine.inRing off
  | .hostWrite off _ _ => plainOffset off
  | .unknownIntervention w _ => namesNoIntervention w
  | _ => true

end Sys2Proof
end

