-- ==== Sys2Proof/Certificates/Slice0/Obligations.lean ====
section
/-! DEFINITION. The statements for the provers. `EndsIn o u` says that the outcome `o` is a next state that is `u` with
the requests that owners then call for; `Quiet` says that no host cycle waits, `HostIdle` that the bank is idle to
the host, `WordNext` and `CommandNext` what stands at the head of the capture run (Sys2Proof/Safety.lean). -/

open Sys2Proof Sys2Proof.Machine


/-! ### The machine -/

/-- One step takes the command at the front of the queue and runs it with the queue's rest (log 1). -/
def Obligations.StepRunsFrontCommand : Prop :=
  ∀ (c : Instr) (rest : List Instr) (s : State),
    step { s with pending := c :: rest } = exec c { s with pending := rest }

/-- With no command waiting the part idles: nothing changes (log 1). And a command whose event does not hold changes
nothing (log 2): an end of a part cycle with none in progress, a grant with none waiting, an end of a hold with no
write held, a pass with nothing marked, an end of a wait the Composer is not in, a report or deadline of a motion or
flash not outstanding, an acknowledge not awaited, a copy word not at hand. Both are the model's choices: the rules
give such an event no effect. -/
def Obligations.NothingToDoChangesNothing : Prop :=
  -- the idle step
  (∀ s : State, s.pending = [] → step s = .next s)
  -- events that do not hold
  ∧ (∀ s : State,
      (s.port.cycle = none → ∀ c ∈ [Instr.refetchRead, .librarySearchRead, .libraryRecordRead, .drainRead, .spoolWrite,
        .statusWrite, .bankFault], exec c s = .next s)
      ∧ ((∀ r, s.port.requests.get r = none) → exec .arbiterGrant s = .next s)
      ∧ (s.port.held = none → ∀ c ∈ [Instr.holdRelease, .holdLimitExpiry], exec c s = .next s)
      ∧ (s.status.marks = [] ∨ s.status.pass.isSome → exec .postingPassBegin s = .next s)
      ∧ (s.composer.held = none → ∀ c ∈ [Instr.heldEntryAccepted, .markWaitEnd], exec c s = .next s)
      ∧ (s.composer.fontWait = none → ∀ c ∈ [Instr.fontWaitEnd, .fontPositionRerun], exec c s = .next s)
      ∧ (∀ p : Fin 8, s.font.table[p].state ≠ .requested → exec (.callTimerExpiry p) s = .next s)
      ∧ (s.seq.manual = none → s.seq.order = none → ∀ c ∈ [Instr.motionComplete, .motionDeadlineExpiry, .flashSeen,
          .flashMissed, .flashTimeout, .manualDeadlineExpiry], exec c s = .next s)
      ∧ (s.panel.ownership ≠ .copy → ∀ c ∈ [Instr.entryStart, .take], exec c s = .next s)
      ∧ (s.proof.port ≠ .awaiting → exec .printerAcknowledge s = .next s)
      ∧ (s.proof.port = .idle → exec .printerStalled s = .next s)
      ∧ (s.intake.run = [] → ∀ c ∈ [Instr.filler, .discretionaryHyphen, .tie, .interwordSpace, .character, .invalidCode,
          .unknownCommand, .commandWord, .operandWord, .job, .endjob, .measure, .lead, .font, .size, .quad, .fixspace,
          .hyph, .exceptWord, .unexcept, .lenses, .mount, .release, .advance, .reverse, .cut, .proofMode, .display,
          .mark], exec c s = .next s))

/-- What power-on leaves in each block, as the rules state it. Values the rules do not state are not named here. -/
def Obligations.PowerOnValues : Prop :=
  let s := State.reset
  -- the Bank Port (R169, R173, R176, R178)
  (s.port.mask = 0 ∧ s.port.holdTimer = .idle ∧ s.port.held = none
    ∧ (∀ r, s.port.requests.get r = none ∧ s.port.disabled.get r = false ∧ s.port.lastFault.get r = 0))
  -- Copy Intake and the Composer (R76, R88, R99, R101)
  ∧ (s.intake.intakeOffset = 8192 ∧ s.intake.consumeOffset = 8192 ∧ s.intake.fill = 0 ∧ s.intake.run = []
    ∧ s.intake.refetchCount = 0 ∧ s.intake.decoder = none ∧ s.intake.job.inProgress = false
    ∧ s.intake.job.serial = 0 ∧ s.intake.errKind = none ∧ s.intake.errOffset = 0)
  ∧ (s.composer.state = .outsideJob ∧ s.composer.measure = 3600 ∧ s.composer.lead = 240
    ∧ s.composer.sizeAsked = 20 ∧ s.composer.current = none ∧ s.composer.line.items = []
    ∧ s.composer.line.sums = Sums.zero ∧ s.composer.ladder = 0)
  -- the Hyphenator (R43, R44)
  ∧ (s.hyph.on = true ∧ s.hyph.leftMin = 2 ∧ s.hyph.rightMin = 3 ∧ s.hyph.ladderLimit = 3 ∧ s.hyph.dictionary = [])
  -- Font Control (R72, R74)
  ∧ ((∀ p : Fin 8, s.font.table[p].state = .vacant ∧ s.font.table[p].reason = none ∧ s.font.widths[p] = none)
    ∧ s.font.lenses.toList = [12, 14, 16, 18, 20, 24, 28, 36] ∧ s.font.fetchList = [] ∧ s.font.fetch = none)
  -- the Set Queue (R103, R110, R113)
  ∧ (s.queue = [] ∧ s.exposure.tag = none ∧ s.waitingReport = none)
  -- the Sequencer (R114)
  ∧ (s.seq.state = .idle ∧ s.seq.halt = none ∧ s.seq.shifted = none ∧ s.seq.lens = none ∧ s.seq.escapement = none
    ∧ s.seq.order = none ∧ s.seq.manual = none ∧ s.seq.film = Film.zero)
  -- the Panel Link (R135)
  ∧ (s.panel.ownership = .copy ∧ s.panel.hostLine = [] ∧ s.panel.alarm = .silent ∧ s.panel.calls = []
    ∧ s.panel.inbox = none ∧ s.panel.unsent = [.display (.status .copy .idle none 0 none) [], .alarm .silence])
  -- the Proof Unit (R151)
  ∧ (s.proof.mode = .off ∧ s.proof.writePoint = ⟨.a, 0⟩ ∧ s.proof.drainPoint = ⟨.a, 0⟩ ∧ s.proof.halfA = .empty
    ∧ s.proof.halfB = .empty ∧ s.proof.gap = 0 ∧ s.proof.job = none ∧ s.proof.buffer = none ∧ s.proof.port = .idle)
  -- the Status Writer (R183, R188, R192, R193)
  ∧ (s.status.flags = 0 ∧ s.status.count = 0 ∧ s.status.pass = none ∧ s.status.capture.held = false
    ∧ s.status.markValue = 0 ∧ s.status.markCount = 0 ∧ s.status.nextSlot = 0
    ∧ ∀ k : Fin 8, s.status.reports[k] = Report.empty)

/-- POWER_ON takes every block to the state right after power-on, whatever the part is doing (R134): the rules' values
(R76, R99, R103, R114, R135, R151, R183), and, where the rules give none, the model's (log 24); the link is sending the
power-on SHOW (log 10). Memory stands, but for two words: a write held at that moment completes with its data unchanged
(R171), and the word of a SPOOL or STATUS write that was in progress may be left in any state (log 5). The printer's two
lines stand, a released write counts as a held one, and a host cycle that waited is made after the reset: the model's
readings (log 8). -/
def Obligations.PowerOnCommand : Prop :=
  (∀ s : State, Quiet s → MemoryInv s →
    ∃ t, EndsIn (exec .powerOn s) t
      ∧ t = { State.reset with
          mem := t.mem, freeCount := t.freeCount, pending := s.pending,
          proof := { ProofUnit.reset with busy := s.proof.busy, paperOut := s.proof.paperOut } }
      ∧ (∀ c, s.port.held = some c → c.bus = .good → t.read c.offset = c.data)
      ∧ (∀ a, (∀ c, s.port.held = some c → a ≠ c.offset) →
        (∀ r q, s.port.cycle = some r → s.port.requests.get r = some q → q.kind = .spool ∨ q.kind = .status →
          a ≠ q.offset) →
        t.read a = s.read a)
      ∧ (s.port.held = none → s.port.cycle = none → t.mem = s.mem))
  ∧ ∀ (s v : State) (h : HostCycle), s.port.hostQueue = [h] → h.offset < bankWords →
    exec .powerOn { s with port.hostQueue := [] } = .next v →
    exec .powerOn s = exec (.hostWrite h.offset h.data h.bus) v

/-- The four invariants hold right after power-on: film is conserved (R126), the set queue and the waiting messages
keep their bounds (R103, R142), and the bank's list is in its canonical form, which is the model's choice of
representation, as is what an unwritten word reads (logs 3, 28). -/
def Obligations.InvariantsAtReset : Prop :=
  MemoryInv State.reset ∧ FilmInv State.reset ∧ QueueInv State.reset ∧ OutboundInv State.reset

/-- Every step keeps the bank in its canonical form: offsets rise strictly and no listed word reads 0. The form is the
model's choice of representation (log 28), and no rule speaks of it: what it gives is that equal memories are equal
lists. -/
def Obligations.MemoryCanonicalKept : Prop :=
  ∀ s t : State, MemoryInv s → step s = .next t → MemoryInv t

/-- Film is conserved at every step: the film loaded is the film remaining, the film since the last cut and the film
cut (R126). -/
def Obligations.FilmConservedKept : Prop :=
  ∀ s t : State, FilmInv s → step s = .next t → FilmInv t

/-- The set queue never holds more than 6 entries (R103). -/
def Obligations.QueueBoundKept : Prop :=
  ∀ s t : State, QueueInv s → step s = .next t → QueueInv t

/-- No command touches the queue of commands that wait behind it (log 1), and none disables STATUS (R178). -/
def Obligations.WaitingCommandsAndStatusKept : Prop :=
  ∀ (c : Instr) (s t : State), exec c s = .next t →
    t.pending = s.pending ∧ (s.port.disabled.status = false → t.port.disabled.status = false)

/-- The part never stops: every command answers a next state in every state, but a host write to a word the bank does
not have, which stops with the model's own fault that names the offset, by whichever of the two rows it comes (log 41). -/
def Obligations.EveryCommandAnswers : Prop :=
  (∀ (s : State) (off : Nat) (data : Word) (bus : BusResult), bankWords ≤ off →
    exec (.hostWrite off data bus) s = .fault (.offBank off)
      ∧ exec (.hostRingWrite off data bus) s = .fault (.offBank off))
  ∧ ∀ (c : Instr) (s : State),
    (∀ off data bus, c = .hostRingWrite off data bus ∨ c = .hostWrite off data bus → off < bankWords) →
    ∃ t, exec c s = .next t

/-! ### Host writes (Chapters 4 and 9) -/

/-- A host write to a word without behaviour of its own reaches memory with the host's data, whatever the write's
outcome on the bus every other word stands, and nothing else of the part changes: an offset outside the copy ring and
the three cells, and outside the slot of a record read in progress (R167). -/
def Obligations.HostWriteReachesMemory : Prop :=
  ∀ (s : State) (off : Nat) (data : Word) (bus : BusResult), HostIdle s → MemoryInv s → plainOffset off = true →
    inRing off = false →
    (∀ k words n, s.font.fetch = some (.record k words true n) →
      off < slotOffset k 0 ∨ slotOffset k 0 + slotWords ≤ off) →
    ∃ t, EndsIn (exec (.hostWrite off data bus) s) t ∧ (bus = .good → t.read off = data)
      ∧ (∀ a, a ≠ off → t.read a = s.read a)
      ∧ t = { s with mem := t.mem, freeCount := t.freeCount }

/-- A host write into the slot of the record that LIBRARY is reading disturbs that read (R69): it begins again from word
0, three times at most, and the fourth disturbance refuses the font as BUSY and ends the fetch. A read that waits at the
disturbance is of word 0 from then on (log 25). The watch goes on through restarts, so that a write between a restart
and its first read is one more disturbance: the model's reading (log 26). -/
def Obligations.HostWriteDisturbsRecordRead : Prop :=
  -- the first three times
  (∀ (s : State) (p : Fin 8) (rest : List (Fin 8)) (k : Nat) (words : List Word) (n off : Nat) (data : Word),
      HostIdle s → s.font.fetch = some (.record k words true n) → s.font.fetchList = p :: rest → n < 3 → k < slotCount →
      slotOffset k 0 ≤ off → off < slotOffset k 0 + slotWords →
      EndsIn (exec (.hostWrite off data .good) s)
        { s with
          mem := writeMem s.mem off data
          font.fetch := some (.record k [] true (n + 1))
          port.requests := s.port.requests.set .library
            ((s.port.requests.get .library).map (fun q => { q with offset := 512 + 52 * k })) })
  -- the fourth time
  ∧ (∀ (s : State) (p : Fin 8) (k : Nat) (words : List Word) (off : Nat) (data : Word),
      HostIdle s → s.font.fetch = some (.record k words true 3) → s.font.fetchList = [p] → k < slotCount →
      slotOffset k 0 ≤ off → off < slotOffset k 0 + slotWords →
      ∃ t, EndsIn (exec (.hostWrite off data .good) s) t ∧ t.font.fetch = none ∧ t.font.fetchList = []
        ∧ t.font.table = s.font.table.set p (s.font.table[p].refusedFor .busy)
        ∧ t.flagSet .mountRefused = true ∧ t.mem = writeMem s.mem off data ∧ t.queue = s.queue ∧ t.seq = s.seq)

/-- A host write to the copy ring (R77, R78, R169). At the intake offset with the ring not full it is taken: the word is
in memory, the fill and the intake offset go up, and the word joins the capture run when the run reaches to it and has
room. At the intake offset with the ring full it is held, and memory stands. At any other offset memory takes it, and
nothing else changes. -/
def Obligations.RingWriteByItsPlace : Prop :=
  -- taken
  (∀ (s : State) (data : Word) (c : Bool), HostIdle s → inRing s.intake.intakeOffset = true →
      s.intake.fill < ringWords →
      c = (s.intake.intakeOffset == ringAfter s.intake.consumeOffset s.intake.run.length
        && s.intake.run.length < runLimit) →
      EndsIn (exec (.hostRingWrite s.intake.intakeOffset data .good) s)
        (State.mark { s with
            mem := writeMem s.mem s.intake.intakeOffset data
            intake.run := if c then s.intake.run ++ [data] else s.intake.run
            intake.fill := s.intake.fill + 1
            intake.intakeOffset := ringAfter s.intake.intakeOffset 1 }
          (if c then [17, 19, 20] else [17, 19])))
  -- held
  ∧ (∀ (s : State) (data : Word) (bus : BusResult), HostIdle s → inRing s.intake.intakeOffset = true →
      ringWords ≤ s.intake.fill →
      EndsIn (exec (.hostRingWrite s.intake.intakeOffset data bus) s)
        { s with
          port.held := some { offset := s.intake.intakeOffset, data := data, bus := bus }
          port.holdTimer := .running })
  -- passed, by either row
  ∧ (∀ (s : State) (off : Nat) (data : Word), HostIdle s → inRing off = true → off ≠ s.intake.intakeOffset →
      EndsIn (exec (.hostRingWrite off data .good) s) { s with mem := writeMem s.mem off data }
        ∧ EndsIn (exec (.hostWrite off data .good) s) { s with mem := writeMem s.mem off data })

/-- A host cycle that arrives while a part cycle is in progress waits, and changes nothing until it begins (R168),
whatever the cycle is: each command with its offset and its data. So does one behind a write held or released, though a
held host makes no further cycle (R169), and cycles that wait keep their order: both are the model's readings (log 8).
When the part cycle ends, with a good result or with a bank fault, a host cycle that waited begins (R168): the outcome
is that of the same write presented to the state the end leads to. The same holds of a cycle that waited behind a hold,
at the release and at the expiry (log 8). -/
def Obligations.HostCycleWaits : Prop :=
  -- it waits
  (∀ (s : State) (off : Nat) (data : Word) (arg : Byte) (bus : BusResult),
      s.port.cycle.isSome ∨ s.port.held.isSome → off < bankWords →
      ∀ x ∈ [(Instr.hostWrite off data bus, off, data), (.hostRingWrite off data bus, off, data),
          (.flagCellWrite data bus, 32, data), (.maskCellWrite data bus, 33, data),
          (.unknownIntervention data bus, 34, data), (.abortJob arg bus, 34, 0x100#16 + arg.setWidth 16),
          (.withdraw arg bus, 34, 0x200#16 + arg.setWidth 16), (.clearPath arg bus, 34, 0x300#16 + arg.setWidth 16),
          (.inboxTaken arg bus, 34, 0x400#16 + arg.setWidth 16), (.captureTaken arg bus, 34, 0x500#16 + arg.setWidth 16),
          (.returnRequest arg bus, 34, 0x600#16 + arg.setWidth 16), (.ringReset arg bus, 34, 0x700#16 + arg.setWidth 16),
          (.repost arg bus, 34, 0x800#16 + arg.setWidth 16)],
        EndsIn (exec x.1 s)
          { s with port.hostQueue := s.port.hostQueue ++ [{ offset := x.2.1, data := x.2.2, bus := bus }] })
  -- it begins
  ∧ (∀ (s v : State) (h : HostCycle) (r : Requester) (q : CycleRequest), s.port.hostQueue = [h] → h.offset < bankWords →
      s.port.held = none → s.port.cycle = some r → s.port.requests.get r = some q →
      ∀ x ∈ [(CycleKind.refetch, Instr.refetchRead), (.search, .librarySearchRead), (.record, .libraryRecordRead),
          (.drain, .drainRead), (.spool, .spoolWrite), (.status, .statusWrite), (q.kind, .bankFault)], q.kind = x.1 →
        exec x.2 { s with port.hostQueue := [] } = .next v →
        exec x.2 s = exec (.hostWrite h.offset h.data h.bus) v)
  -- it begins at the end of a hold
  ∧ (∀ (s v : State) (h c : HostCycle), s.port.hostQueue = [h] → h.offset < bankWords → s.port.held = some c →
      s.port.cycle = none →
      ∀ x ∈ [(HoldTimer.idle, Instr.holdRelease), (.running, .holdLimitExpiry)], s.port.holdTimer = x.1 →
        exec x.2 { s with port.hostQueue := [] } = .next v →
        exec x.2 s = exec (.hostWrite h.offset h.data h.bus) v)

/-- A host write of V to the flag cell clears the flags V names in the internal set, and memory receives the set as it
stands after the clear, not V (R172). A host write of V to the mask cell passes to memory unchanged and is latched as
the event mask, whatever its bits; the mask is clear at power-on, and a job abort, RING RESET and every intervention
leave it as it stands (R173). -/
def Obligations.FlagAndMaskCellWrites : Prop :=
  -- the flag cell
  (∀ (s : State) (v : Word), HostIdle s →
      EndsIn (exec (.flagCellWrite v .good) s)
        { s with
          status.flags := s.status.flags &&& ~~~v
          mem := writeMem s.mem 32 (s.status.flags &&& ~~~v) })
  -- the mask cell
  ∧ (∀ (s : State) (v : Word), HostIdle s →
      EndsIn (exec (.maskCellWrite v .good) s) { s with port.mask := v, mem := writeMem s.mem 33 v })
  -- what leaves the mask
  ∧ (State.reset.port.mask = 0
    ∧ ∀ (s t : State) (c : Instr) (arg : Byte) (w : Word) (bus : BusResult), Quiet s →
      c ∈ [Instr.cancel, .holdLimitExpiry, .unknownIntervention w bus, .abortJob arg bus, .withdraw arg bus,
        .clearPath arg bus, .inboxTaken arg bus, .captureTaken arg bus, .returnRequest arg bus, .ringReset arg bus,
        .repost arg bus] →
      exec c s = .next t → t.port.mask = s.port.mask)

/-- Raising a flag adds it to the internal set and marks the flag cell; a flag that is already set changes nothing
(R188). -/
def Obligations.RaiseAddsTheFlag : Prop :=
  ∀ (s : State) (f : EventFlag),
    (s.flagSet f = true → s.raise f = s)
      ∧ (s.flagSet f = false → (s.raise f).flagSet f = true ∧ (∀ g, g ≠ f → (s.raise f).flagSet g = s.flagSet g)
        ∧ 32 ∈ (s.raise f).status.marks
        ∧ s.raise f = { s with status.flags := (s.raise f).status.flags, status.marks := (s.raise f).status.marks })

/-- The interrupt line is asserted exactly when some event flag is set whose mask bit is set (R189). It changes only as
the flag set or the mask does: at a raise, at a clear made by a host write to the flag cell, and at the latch of a new
mask. It is deasserted at power-on. The words in memory do not move it. -/
def Obligations.InterruptLineFollows : Prop :=
  (∀ s : State, s.interruptLine = true ↔ ∃ f : EventFlag, s.flagSet f = true ∧ s.port.mask.getLsbD f.bit = true)
  ∧ State.reset.interruptLine = false
  ∧ (∀ (s : State) (f : EventFlag), (s.raise f).interruptLine = (s.interruptLine || s.port.mask.getLsbD f.bit))
  ∧ (∀ (s : State) (v : Word), HostIdle s →
    (∃ t, exec (.flagCellWrite v .good) s = .next t ∧
      (t.interruptLine = true ↔
        ∃ f : EventFlag, s.flagSet f = true ∧ v.getLsbD f.bit = false ∧ s.port.mask.getLsbD f.bit = true))
    ∧ ∃ t, exec (.maskCellWrite v .good) s = .next t ∧
      (t.interruptLine = true ↔ ∃ f : EventFlag, s.flagSet f = true ∧ v.getLsbD f.bit = true))
  ∧ ∀ s t : State, s.interruptLine ≠ t.interruptLine →
    (∃ f : EventFlag, s.flagSet f ≠ t.flagSet f) ∨ s.port.mask ≠ t.port.mask

/-! ### Interventions (Chapter 10) -/

/-- A refused intervention leaves the part's state as it stands, and memory receives the value written: a code that
names none, a WITHDRAW of no REQUESTED or LOADING position, a CLEAR PATH of STATUS or of no requester, a RING RESET
inside a job (R174, R190). -/
def Obligations.RefusedInterventionChangesNothing : Prop :=
  ∀ (s : State) (arg : Byte) (w : Word), HostIdle s →
    (namesNoIntervention w = true → EndsIn (exec (.unknownIntervention w .good) s) (s.write 34 w))
    ∧ ((∀ p : Fin 8, p.val = arg.toNat → s.font.table[p].state ≠ .requested ∧ s.font.table[p].state ≠ .loading) →
      EndsIn (exec (.withdraw arg .good) s) (s.write 34 (0x200#16 + arg.setWidth 16)))
    ∧ (arg.toNat = 0 ∨ 4 < arg.toNat → EndsIn (exec (.clearPath arg .good) s) (s.write 34 (0x300#16 + arg.setWidth 16)))
    ∧ (s.composer.state ≠ .outsideJob → s.composer.state ≠ .discarding →
      EndsIn (exec (.ringReset arg .good) s) (s.write 34 (0x700#16 + arg.setWidth 16)))

/-- ABORT JOB is taken with no further effect when no job is in progress: memory receives 0 (R191). With a job in
progress, ABORT JOB and the panel's CANCEL abort it with outcome ABORTED, and so does the expiry of the hold limit
with outcome OVERRUN (R79, R100, R111, R113, R141): the WAITING entries go, the calls of its FONT commands are withdrawn
(R75), an entry in proof among those removed is given up (R162), and a command whose operands were being consumed is to
be dropped. -/
def Obligations.JobAbortByEachRoad : Prop :=
  -- no job in progress
  (∀ (s : State) (arg : Byte), HostIdle s → s.intake.job.inProgress = false →
      EndsIn (exec (.abortJob arg .good) s) (s.write 34 0))
  -- a job in progress
  ∧ (∀ s : State, s.intake.job.inProgress = true →
      (HostIdle s → ∀ arg, ∃ t, EndsIn (exec (.abortJob arg .good) s) t ∧ JobAborted s t .aborted
        ∧ t.mem = writeMem s.mem 34 0 ∧ t.intake.run = s.intake.run
        ∧ t.intake.decoder = s.intake.decoder.map (fun d => { d with dropped := true }))
      ∧ (Quiet s → ∃ t, EndsIn (exec .cancel s) t ∧ JobAborted s t .aborted ∧ t.mem = s.mem
        ∧ t.intake.run = s.intake.run
        ∧ t.intake.decoder = s.intake.decoder.map (fun d => { d with dropped := true }) ∧ t.panel.ownership = s.panel.ownership)
      ∧ (Quiet s → ∀ c, s.port.held = some c → s.port.holdTimer = .running → c.bus = .good →
        ∃ t, EndsIn (exec .holdLimitExpiry s) t ∧ JobAborted s t .overrun ∧ t.mem = writeMem s.mem c.offset c.data
          ∧ t.port.held = none ∧ t.intake.run = [] ∧ t.intake.decoder = none ∧ t.flagSet .ringOverrun = true))

/-- WITHDRAW of a REQUESTED or LOADING entry makes it VACANT with reason WITHDRAWN, ends its call or its fetch and
empties its width store (R65). CLEAR PATH enables the requester its argument names and marks the disabled set when that changes it (R182).
INBOX TAKEN empties the inbox and CAPTURE TAKEN the overset capture; with nothing to empty, nothing else changes (R149,
R190, R192). That nothing is marked when there is nothing to enable or to empty is the model's reading (log 42). RETURN
REQUEST shows the notice and sounds the alarm once when it is silent (R147, R150); that a message made on a free link
begins at once, and that one being sent is not replaced, is the model's reading (log 10). Memory receives 0 for each. -/
def Obligations.InterventionsTaken : Prop :=
  -- WITHDRAW
  (∀ (s : State) (arg : Byte) (p : Fin 8), HostIdle s → p.val = arg.toNat →
      (s.font.table[p].state = .requested →
        ∃ t, EndsIn (exec (.withdraw arg .good) s) t ∧ t.mem = writeMem s.mem 34 0
          ∧ t.font = { s.font with
              table := s.font.table.set p
                { Position.vacant with reason := some .withdrawn, inUse := s.font.table[p].inUse }
              widths := s.font.widths.set p none }
          ∧ t.panel.calls = s.panel.calls.filter (· ≠ p) ∧ t.queue = s.queue ∧ t.intake = s.intake ∧ t.seq = s.seq)
      ∧ (s.font.table[p].state = .loading → s.port.disabled.library = false →
        ∃ t, EndsIn (exec (.withdraw arg .good) s) t ∧ t.mem = writeMem s.mem 34 0
          ∧ t.font = { s.font with
              table := s.font.table.set p
                { Position.vacant with reason := some .withdrawn, inUse := s.font.table[p].inUse }
              widths := s.font.widths.set p none
              fetchList := s.font.fetchList.filter (· ≠ p)
              fetch := if s.font.fetchList.head? = some p then
                  if s.font.fetchList.filter (· ≠ p) = [] then none else some (.search 0)
                else s.font.fetch }
          ∧ t.panel = s.panel ∧ t.queue = s.queue ∧ t.intake = s.intake ∧ t.seq = s.seq))
  -- CLEAR PATH
  ∧ (∀ (s : State) (arg : Byte) (r : Requester), HostIdle s →
      (arg, r) ∈ [(1#8, Requester.intake), (2#8, .library), (3#8, .drain), (4#8, .spool)] →
      EndsIn (exec (.clearPath arg .good) s)
        { s with
          port.disabled := s.port.disabled.set r false
          status.marks := if s.port.disabled.get r then insertOffset 40 s.status.marks else s.status.marks
          mem := writeMem s.mem 34 0 })
  -- INBOX TAKEN and CAPTURE TAKEN
  ∧ (∀ (s : State) (arg : Byte), HostIdle s →
      EndsIn (exec (.inboxTaken arg .good) s)
          (State.markIf { s with panel.inbox := none, mem := writeMem s.mem 34 0 } s.panel.inbox.isSome
            (List.range' 128 17))
      ∧ EndsIn (exec (.captureTaken arg .good) s)
          (State.markIf { s with status.capture := Capture.empty, mem := writeMem s.mem 34 0 } s.status.capture.held
            (List.range' 96 27)))
  -- RETURN REQUEST
  ∧ (∀ (s : State) (arg : Byte), HostIdle s →
      EndsIn (exec (.returnRequest arg .good) s)
        (let shown := State.linked { s with
          mem := writeMem s.mem 34 0
          panel.outbound := s.panel.outbound.filter (fun m => !m.isDisplay) ++ [.display .notice s.panel.hostLine] }
        if s.panel.alarm = .silent then
          State.linked { shown with panel.outbound := shown.panel.outbound.filter (fun m => !m.isAlarm) ++ [.alarm .once] }
        else shown))

/-- RING RESET, OUTSIDE JOB or in DISCARDING, empties the ring and the run and drops the command in progress; a refetch
outstanding is given up (R83). Of the ring words those that change are marked, and none of a ring that already stands at
its reset values (R190; log 42). REPOST marks every posted word for the next pass (R187). Nothing else changes. -/
def Obligations.RingResetAndRepost : Prop :=
  -- RING RESET
  (∀ (s : State) (arg : Byte), HostIdle s → s.composer.state = .outsideJob ∨ s.composer.state = .discarding →
      EndsIn (exec (.ringReset arg .good) s)
        (State.mark { s with
            intake.intakeOffset := 8192
            intake.consumeOffset := 8192
            intake.fill := 0
            intake.run := []
            intake.decoder := none
            port.requests := s.port.requests.set .intake
              ((s.port.requests.get .intake).map (fun q => { q with stale := true }))
            mem := writeMem s.mem 34 0 }
          -- the ring words that change: none when the ring already stands at its reset values (log 42)
          ((if s.intake.intakeOffset = 8192 then [] else [17]) ++ (if s.intake.consumeOffset = 8192 then [] else [18])
            ++ (if s.intake.fill = 0 then [] else [19]) ++ (if s.intake.run = [] then [] else [20]))))
  -- REPOST
  ∧ (∀ (s : State) (arg : Byte), HostIdle s →
      ∃ t, EndsIn (exec (.repost arg .good) s) t
        ∧ (∀ off, off ∈ t.status.marks ↔ off ∈ s.status.marks ∨ off ∈ postedOffsets)
        ∧ t = { s with mem := writeMem s.mem 34 0, status.marks := t.status.marks })

/-- The two ends of a hold (R170). A released write completes as if it had just arrived: with the ring no longer full it
is taken. At the expiry of the hold limit with no job in progress the held write goes over the oldest word, the run is
emptied, the command in progress dropped, the Composer enters DISCARDING and RING OVERRUN is raised (R79). That the
write is made at once even with a part cycle in progress is the model's reading (log 8). -/
def Obligations.HoldEnds : Prop :=
  -- the release
  (∀ (s : State) (data : Word) (c : Bool), Quiet s → s.port.cycle = none → s.port.holdTimer = .idle →
      s.port.held = some { offset := s.intake.intakeOffset, data := data, bus := .good } →
      inRing s.intake.intakeOffset = true → s.intake.fill < ringWords →
      c = (s.intake.intakeOffset == ringAfter s.intake.consumeOffset s.intake.run.length
        && s.intake.run.length < runLimit) →
      EndsIn (exec .holdRelease s)
        (State.mark { s with
            port.held := none
            mem := writeMem s.mem s.intake.intakeOffset data
            intake.run := if c then s.intake.run ++ [data] else s.intake.run
            intake.fill := s.intake.fill + 1
            intake.intakeOffset := ringAfter s.intake.intakeOffset 1 }
          (if c then [17, 19, 20] else [17, 19])))
  -- the expiry outside a job
  ∧ (∀ (s : State) (c : HostCycle), Quiet s → s.port.held = some c → s.port.holdTimer = .running → c.bus = .good →
      s.intake.job.inProgress = false →
      EndsIn (exec .holdLimitExpiry s)
        (State.raise
          (State.markIf
            (State.mark { s with
                port.held := none
                port.holdTimer := .idle
                mem := writeMem s.mem c.offset c.data
                intake.consumeOffset := ringAfter s.intake.consumeOffset 1
                intake.intakeOffset := ringAfter s.intake.intakeOffset 1
                intake.run := []
                intake.decoder := none
                port.requests := s.port.requests.set .intake
                  ((s.port.requests.get .intake).map (fun q => { q with stale := true }))
                composer.held := none
                composer.todo := []
                composer.state := .discarding }
              (if s.intake.run = [] then [17, 18] else [17, 18, 20]))
            (s.composer.state != .discarding) [5])
          .ringOverrun))

/-! ### Part cycles (Chapters 3, 4, 8, 9, 10) -/

/-- An owner calls for the cycle its rule gives: INTAKE for the ring word after the run (R81), LIBRARY for word 0 of the
slot searched or for the next word of the record (R67, R68), DRAIN for the next word of a record (R163), SPOOL for the
next word of the record to write, or for a PAD (R159), STATUS for the next word of the pass (R185); the low byte of an
odd last character word is 0 by the model's choice (log 45). The arbiter grants one cycle to the waiting requester that
stands first in the order INTAKE, LIBRARY, DRAIN, SPOOL, STATUS, when no cycle is in progress and no host cycle is
waiting; a write that is held does not keep it back (R168, R169, R177). -/
def Obligations.ArbiterGrantsFirstWaiting : Prop :=
  -- the cycles called for
  (∀ s : State,
      let u := s.proof
      let base (h : Half) : Nat := if h = .a then 24576 else 28672
      let cycle (k : CycleKind) (off : Nat) (w : Word) : Option CycleRequest :=
        some { kind := k, offset := off, data := w, stale := false }
      -- INTAKE (R81)
      s.wants .intake =
        (if s.intake.run.length < 32 ∧ s.intake.run.length < s.intake.fill then
          cycle .refetch (8192 + (s.intake.consumeOffset - 8192 + s.intake.run.length) % 16384) 0
        else none)
      -- LIBRARY (R67, R68)
      ∧ (s.font.fetch = none → s.wants .library = none)
      ∧ (∀ k, s.font.fetch = some (.search k) → s.wants .library = cycle .search (512 + 52 * k) 0)
      ∧ (∀ k words w n, s.font.fetch = some (.record k words w n) →
        s.wants .library = cycle .record (512 + 52 * k + words.length) 0)
      -- DRAIN (R163)
      ∧ (∀ r, u.reading = some r →
        s.wants .drain = cycle .drain (base u.drainPoint.half + u.drainPoint.offset + 1 + r.got.length) 0)
      ∧ (u.reading = none → s.wants .drain =
        (if u.buffer = none ∧ (u.drainPoint ≠ u.writePoint ∨ u.half u.drainPoint.half = .full) then
          cycle .drain (base u.drainPoint.half + u.drainPoint.offset) 0
        else none))
      -- SPOOL (R159, R160; 11.4)
      ∧ (u.records = [] ∨ u.half u.writePoint.half = .full → s.wants .spool = none)
      ∧ (∀ r rest, u.records = r :: rest → u.half u.writePoint.half ≠ .full →
        (u.written = 0 → 4096 - u.writePoint.offset < r.words →
          s.wants .spool = cycle .spool (base u.writePoint.half + u.writePoint.offset) 0x8000)
        ∧ (0 < u.written ∨ r.words ≤ 4096 - u.writePoint.offset →
          ∃ d : Word, s.wants .spool = cycle .spool (base u.writePoint.half + u.writePoint.offset + u.written) d
            ∧ (u.written = 0 → d = BitVec.ofNat 16 r.chars.length)
            ∧ ∀ j, u.written = j + 1 → (∀ c ∈ r.chars, c < 256) →
              d.toNat = r.chars.getD (2 * j) 0 * 256 + r.chars.getD (2 * j + 1) 0))
      -- STATUS (R185)
      ∧ (s.status.pass = none → s.wants .status = none)
      ∧ (s.status.pass = some { words := [] } → s.wants .status = cycle .status 1 (s.status.count + 1))
      ∧ (∀ w rest, s.status.pass = some { words := w :: rest } → s.wants .status = cycle .status w.1 w.2))
  -- the grant
  ∧ (∀ (s : State) (before after : List Requester) (r : Requester), s.port.cycle = none → Quiet s →
      (s.port.held = none ∨ s.port.holdTimer = .running) → requesters = before ++ r :: after →
      (∀ q ∈ before, s.port.requests.get q = none) → s.port.requests.get r ≠ none →
      EndsIn (exec .arbiterGrant s) { s with port.cycle := some r })

/-- A refetch appends the word memory holds to the capture run and counts itself; the other words, the fill and the
offsets stand (R81). A cycle whose owner has given it up ends with its result discarded: the request is over and
nothing else changes; a spool write reaches memory all the same (R176). That an EMPTY half stays EMPTY when the write
given up is that of its first header word is the model's reading (log 46). -/
def Obligations.RefetchAndGivenUpCycles : Prop :=
  -- a refetch
  (∀ (s : State) (q : CycleRequest), Quiet s → s.port.cycle = some .intake → s.port.requests.intake = some q →
      q.kind = .refetch → q.stale = false →
      EndsIn (exec .refetchRead s)
        (State.mark { s with
            port.cycle := none
            port.requests := s.port.requests.set .intake none
            intake.run := s.intake.run ++ [s.read q.offset]
            intake.refetchCount := s.intake.refetchCount + 1 }
          [20, 23]))
  -- a cycle given up
  ∧ (∀ (s : State) (r : Requester) (q : CycleRequest), Quiet s → s.port.cycle = some r → s.port.requests.get r = some q →
      q.stale = true →
      ∀ x ∈ [(CycleKind.refetch, Instr.refetchRead), (.search, .librarySearchRead), (.record, .libraryRecordRead),
          (.drain, .drainRead), (.spool, .spoolWrite)], q.kind = x.1 →
        EndsIn (exec x.2 s)
          { s with
            port.cycle := none
            port.requests := s.port.requests.set r none
            mem := if q.kind = .spool then writeMem s.mem q.offset q.data else s.mem })

/-- The search of the library (R67): the slot whose word 0 is the font number is the record's slot, any other slot leads
to the next, and a search that reads the last slot without finding the font refuses it with NO RECORD. -/
def Obligations.LibrarySearch : Prop :=
  -- found, or the next slot
  (∀ (s : State) (q : CycleRequest) (p : Fin 8) (rest : List (Fin 8)) (k : Nat), Quiet s →
      s.port.cycle = some .library → s.port.requests.library = some q → q.kind = .search → q.stale = false →
      s.font.fetch = some (.search k) → s.font.fetchList = p :: rest →
      ((s.read q.offset).toNat = s.font.table[p].font ∨ k + 1 < slotCount) →
      EndsIn (exec .librarySearchRead s)
        { s with
          port.cycle := none
          port.requests := s.port.requests.set .library none
          font.fetch :=
            if (s.read q.offset).toNat = s.font.table[p].font then some (.record k [] false 0)
            else some (.search (k + 1)) })
  -- the last slot
  ∧ (∀ (s : State) (q : CycleRequest) (p : Fin 8), Quiet s →
      s.port.cycle = some .library → s.port.requests.library = some q → q.kind = .search → q.stale = false →
      s.font.fetch = some (.search (slotCount - 1)) → s.font.fetchList = [p] →
      (s.read q.offset).toNat ≠ s.font.table[p].font →
      ∃ t, EndsIn (exec .librarySearchRead s) t ∧ t.font.fetch = none ∧ t.font.fetchList = []
        ∧ t.font.table = s.font.table.set p (s.font.table[p].refusedFor .noRecord) ∧ t.flagSet .mountRefused = true
        ∧ t.port.cycle = none ∧ t.mem = s.mem ∧ t.queue = s.queue ∧ t.seq = s.seq ∧ t.intake = s.intake)

/-- The record read (R68, R70): a word before word 51 is kept and the read goes on. A record that passes its check goes
into the width store; the entry becomes FIXED if its FIX mark is set and MOUNTED otherwise, with age 0, and the fetch
ends. A record that fails its check is refused DAMAGED, and one whose word 0 is no longer the font's number NO RECORD;
when both hold, which of the two is given is open (log 14). The width store stays as it is, MOUNT REFUSED is raised, and
the next fetch of the list begins. -/
def Obligations.LibraryRecord : Prop :=
  -- a word of the record
  (∀ (s : State) (q : CycleRequest) (p : Fin 8) (rest : List (Fin 8)) (k n : Nat) (words : List Word) (w : Bool),
      Quiet s → s.port.cycle = some .library → s.port.requests.library = some q → q.kind = .record → q.stale = false →
      s.font.fetch = some (.record k words w n) → s.font.fetchList = p :: rest → words.length < 51 →
      EndsIn (exec .libraryRecordRead s)
        { s with
          port.cycle := none
          port.requests := s.port.requests.set .library none
          font.fetch := some (.record k (words ++ [s.read q.offset]) true n) })
  -- the last word of a good record
  ∧ (∀ (s : State) (q : CycleRequest) (p : Fin 8) (k n : Nat) (words : List Word) (w : Bool),
      Quiet s → s.port.cycle = some .library → s.port.requests.library = some q → q.kind = .record → q.stale = false →
      s.font.fetch = some (.record k words w n) → s.font.fetchList = [p] → words.length = 51 →
      (let l := words ++ [s.read q.offset]
       -- the record is still the font's, its check word is right, and its band and widths are in range
       (l.getD 0 0).toNat = s.font.table[p].font ∧ l.getD 51 0 = (l.take 51).foldl (· + ·) 0
        ∧ (recordOf l).min ≤ (recordOf l).normal ∧ (recordOf l).normal ≤ (recordOf l).max ∧ (recordOf l).max ≤ 127
        ∧ (recordOf l).limit ≤ 8 ∧ ∀ x ∈ (recordOf l).widths, x ≤ 127) →
      ∃ t, EndsIn (exec .libraryRecordRead s) t
        ∧ t.font = { s.font with
            table := s.font.table.set p { s.font.table[p] with
              state := if s.font.table[p].fix then .fixed else .mounted, reason := none, age := 0, callStep := 0,
              wait := false, fix := false, origin := none, remove := none, timer := none }
            widths := s.font.widths.set p (some (recordOf (words ++ [s.read q.offset])))
            fetchList := []
            fetch := none }
        ∧ t.port.cycle = none ∧ t.mem = s.mem ∧ t.queue = s.queue ∧ t.seq = s.seq ∧ t.intake = s.intake
        ∧ t.panel = s.panel ∧ t.proof = s.proof)
  -- the last word of a record that is refused
  ∧ (∀ (s : State) (q : CycleRequest) (p : Fin 8) (rest : List (Fin 8)) (k n : Nat) (words : List Word) (w : Bool),
      Quiet s → s.port.cycle = some .library → s.port.requests.library = some q → q.kind = .record → q.stale = false →
      s.font.fetch = some (.record k words w n) → s.font.fetchList = p :: rest → words.length = 51 →
      rest = [] ∨ s.port.disabled.library = false →
      let l := words ++ [s.read q.offset]
      let damaged : Prop := l.getD 51 0 ≠ (l.take 51).foldl (· + ·) 0
        ∨ (recordOf l).normal < (recordOf l).min ∨ (recordOf l).max < (recordOf l).normal ∨ 8 < (recordOf l).limit
        ∨ 127 < (recordOf l).min ∨ 127 < (recordOf l).normal ∨ 127 < (recordOf l).max ∨ ∃ x ∈ (recordOf l).widths, 127 < x
      let other : Prop := (l.getD 0 0).toNat ≠ s.font.table[p].font
      damaged ∨ other →
      ∃ (t : State) (r : Reason), EndsIn (exec .libraryRecordRead s) t
        ∧ (damaged ∧ r = .damaged ∨ other ∧ r = .noRecord)
        ∧ t.font = { s.font with
            table := s.font.table.set p { s.font.table[p] with
              state := .refused, reason := some r, age := 0, callStep := 0, wait := false, fix := false, origin := none,
              remove := none, timer := none }
            fetchList := rest
            fetch := if rest = [] then none else some (.search 0) }
        ∧ t.flagSet .mountRefused = true ∧ t.port.cycle = none ∧ t.mem = s.mem ∧ t.queue = s.queue ∧ t.seq = s.seq
        ∧ t.intake = s.intake ∧ t.panel = s.panel ∧ t.proof = s.proof)
  -- what a record's words carry (11.2)
  ∧ ∀ l : List Word, l.length = 52 →
    (recordOf l).min = (l.getD 1 0).toNat / 256 ∧ (recordOf l).normal = (l.getD 1 0).toNat % 256
      ∧ (recordOf l).max = (l.getD 2 0).toNat / 256 ∧ (recordOf l).limit = (l.getD 2 0).toNat % 256
      ∧ (recordOf l).widths.length = 96
      ∧ ∀ j < 48, (recordOf l).widths[2 * j]? = some ((l.getD (3 + j) 0).toNat / 256)
        ∧ (recordOf l).widths[2 * j + 1]? = some ((l.getD (3 + j) 0).toNat % 256)

/-- The drain reads a header word and then the record's character words, and the drain point moves past the record when
the last is read; the printer port takes the characters up (R163, R165). A PAD header read in a FULL half empties the
half: the drain goes to offset 0 of the other one, and nothing is printed. So does the last record of a FULL half, which
is printed; a write point that waits then moves into the half left (R158). No record is read beyond the write point in
its half, nor beyond the half: a header is read as memory holds it, a count above 132 as 132, a record that would end
beyond the limit short, with twice the words read as its count, and a PAD in the write point's half, when that half is not
FULL, as an empty record (R197). Characters stand two to a word, the earlier in the high byte (11.4). -/
def Obligations.DrainReads : Prop :=
  -- a record
  (∀ (s : State) (q : CycleRequest), Quiet s → s.port.cycle = some .drain → s.port.requests.drain = some q →
      q.kind = .drain → q.stale = false →
      let dp := s.proof.drainPoint
      let base := { s with port.cycle := none, port.requests := s.port.requests.set .drain none }
      let limit := if s.proof.writePoint.half = dp.half then s.proof.writePoint.offset else 4096
      -- the header of a record of c characters
      (∀ c, s.proof.reading = none → wordBit (s.read q.offset) 15 = false → c = min 132 ((s.read q.offset).toNat % 256) →
        dp.offset < limit →
        (0 < c → dp.offset + 1 + (c + 1) / 2 ≤ limit →
          EndsIn (exec .drainRead s)
            { base with proof.reading := some { count := c, words := (c + 1) / 2, stop := dp.offset + 1 + (c + 1) / 2,
                                                got := [] } })
        ∧ (dp.offset + 1 < limit → limit < dp.offset + 1 + (c + 1) / 2 →
          EndsIn (exec .drainRead s)
            { base with proof.reading := some { count := 2 * (limit - (dp.offset + 1)), words := limit - (dp.offset + 1),
                                                stop := limit, got := [] } })
        ∧ (c = 0 ∨ limit = dp.offset + 1 →
          ∃ t, EndsIn (exec .drainRead s) t ∧ ProofCycle s t .drain (s.proof.printing (dp.offset + 1) [])
            ∧ t.mem = s.mem))
      -- a character word that is not the last
      ∧ (∀ r, s.proof.reading = some r → r.got.length + 1 < r.words →
        EndsIn (exec .drainRead s) { base with proof.reading := some { r with got := r.got ++ [s.read q.offset] } })
      -- the last character word, of a record that does not end its half
      ∧ (∀ r, s.proof.reading = some r → r.got.length + 1 = r.words → r.stop < 4096 → dp.offset < r.stop →
        EndsIn (exec .drainRead s)
          (State.mark { base with
              proof.reading := none
              proof.drainPoint := { half := dp.half, offset := r.stop }
              proof.buffer := some (valuesOf (r.got ++ [s.read q.offset]) r.count)
              proof.portIndex := 0
              proof.stalled := false
              proof.port := if s.proof.busy || s.proof.paperOut then .held else .awaiting }
            [225]))
      -- the last character word of any record
      ∧ (∀ r, s.proof.reading = some r → r.got.length + 1 = r.words →
        ∃ t, EndsIn (exec .drainRead s) t ∧ t.mem = s.mem
          ∧ ProofCycle s t .drain (s.proof.printing r.stop (valuesOf (r.got ++ [s.read q.offset]) r.count)))
      -- any PAD
      ∧ (s.proof.reading = none → wordBit (s.read q.offset) 15 = true →
        ∃ t, EndsIn (exec .drainRead s) t ∧ t.mem = s.mem
          ∧ ProofCycle s t .drain
            (if s.proof.writePoint.half = dp.half ∧ s.proof.half dp.half ≠ .full then s.proof.printing (dp.offset + 1) []
            else s.proof.drainLeft)))
  -- the characters of a record's words
  ∧ (∀ (ws : List Word) (c : Nat), (valuesOf ws c).length = min c (2 * ws.length)
      ∧ ∀ (j : Nat) (w : Word), ws[j]? = some w →
        (2 * j < c → (valuesOf ws c)[2 * j]? = some (w.toNat / 256))
          ∧ (2 * j + 1 < c → (valuesOf ws c)[2 * j + 1]? = some (w.toNat % 256)))
  -- a PAD
  ∧ (∀ (s : State) (q : CycleRequest) (h : Half), Quiet s → s.port.cycle = some .drain →
      s.port.requests.drain = some q → q.kind = .drain → q.stale = false → s.proof.reading = none →
      wordBit (s.read q.offset) 15 = true → s.proof.drainPoint.half = h → s.proof.writePoint.half = h.other →
      s.proof.half h = .full → s.proof.half h.other = .filling →
      EndsIn (exec .drainRead s)
        (State.mark { s with
            port.cycle := none
            port.requests := s.port.requests.set .drain none
            proof.halfA := if h = .a then .empty else s.proof.halfA
            proof.halfB := if h = .b then .empty else s.proof.halfB
            proof.drainPoint := { half := h.other, offset := 0 } }
          (if h = .a then [226, 225] else [227, 225])))

/-- A SPOOL write puts its word into the spool (R158, R159, R153). A word that is not its record's last leaves the write
point where it stands; the last word moves the write point past the record, and the next record of the list follows;
with the last word of the last record the entry is PROOFED. The first word of a record makes an EMPTY half FILLING. A
record that ends at the half's end, and a PAD, which is written when the record does not fit, make the half FULL: the
write point goes to offset 0 of the other half when that is EMPTY, and else waits at the end of the FULL one (R158, R159).
The gap record written sets the gap count to 0, a job header the proof job number, and the last record of a JOBEND takes
that number away (R154). -/
def Obligations.SpoolWrites : Prop :=
  -- a word of a record
  (∀ (s : State) (q : CycleRequest) (r : PrintRecord) (rest : List PrintRecord), Quiet s →
      s.port.cycle = some .spool → s.port.requests.spool = some q → q.kind = .spool → q.stale = false →
      s.proof.records = r :: rest → 0 < s.proof.written → s.proof.written + 1 < r.words →
      s.proof.half s.proof.writePoint.half = .filling →
      EndsIn (exec .spoolWrite s)
        { s with
          port.cycle := none
          port.requests := s.port.requests.set .spool none
          mem := writeMem s.mem q.offset q.data
          proof.written := s.proof.written + 1 })
  -- the last word of a record
  ∧ (∀ (s : State) (q : CycleRequest) (r n : PrintRecord) (rest : List PrintRecord), Quiet s →
      s.port.cycle = some .spool → s.port.requests.spool = some q → q.kind = .spool → q.stale = false →
      s.proof.records = r :: n :: rest → r.role = .own → 0 < s.proof.written → s.proof.written + 1 = r.words →
      s.proof.half s.proof.writePoint.half = .filling → s.proof.writePoint.offset + r.words < 4096 →
      EndsIn (exec .spoolWrite s)
        (State.mark { s with
            port.cycle := none
            port.requests := s.port.requests.set .spool none
            mem := writeMem s.mem q.offset q.data
            proof.written := 0
            proof.records := n :: rest
            proof.writePoint := { s.proof.writePoint with offset := s.proof.writePoint.offset + r.words } }
          [224]))
  -- the last word of an entry
  ∧ (∀ (s : State) (q : CycleRequest) (r : PrintRecord) (e : Entry) (l : LineEntry), Quiet s →
      s.port.cycle = some .spool → s.port.requests.spool = some q → q.kind = .spool → q.stale = false →
      s.proof.records = [r] → r.role = .own → 0 < s.proof.written → s.proof.written + 1 = r.words →
      s.proof.half s.proof.writePoint.half = .filling → s.proof.writePoint.offset + r.words < 4096 →
      s.queue = [e] → e.kind = .line l → e.proof = .inProof → e.photo ≠ .exposed →
      EndsIn (exec .spoolWrite s)
        (State.mark { s with
            port.cycle := none
            port.requests := s.port.requests.set .spool none
            mem := writeMem s.mem q.offset q.data
            proof.written := 0
            proof.records := []
            proof.writePoint := { s.proof.writePoint with offset := s.proof.writePoint.offset + r.words }
            queue := [{ e with proof := .proofed }] }
          [224]))
  -- every write, in a half in any state but FULL
  ∧ (∀ (s : State) (q : CycleRequest) (r : PrintRecord) (rest : List PrintRecord), Quiet s →
      s.port.cycle = some .spool → s.port.requests.spool = some q → q.kind = .spool → q.stale = false →
      s.proof.records = r :: rest → s.proof.half s.proof.writePoint.half ≠ .full →
      let wp := s.proof.writePoint
      let words := 1 + (r.chars.length + 1) / 2
      let stop := wp.offset + words
      let filling := s.proof.withHalf wp.half .filling
      let moved : ProofUnit := { filling with
        written := 0
        records := rest
        writePoint := { half := wp.half, offset := stop }
        gap := if r.role = .gap then 0 else s.proof.gap
        job := match r.role with
          | .header j => some j
          | _ => s.proof.job }
      let ended := if stop = 4096 then moved.filled else moved
      -- a PAD: the record is to be written again where the write point goes
      (s.proof.written = 0 → 4096 - wp.offset < words →
        ∃ t, EndsIn (exec .spoolWrite s) t ∧ ProofCycle s t .spool s.proof.filled ∧ t.mem = writeMem s.mem q.offset q.data)
      ∧ (0 < s.proof.written ∨ words ≤ 4096 - wp.offset →
        -- a word that is not the record's last
        (s.proof.written + 1 < words →
          ∃ t, EndsIn (exec .spoolWrite s) t ∧ t.mem = writeMem s.mem q.offset q.data
            ∧ ProofCycle s t .spool { filling with written := s.proof.written + 1 })
        -- the last word of a record
        ∧ (s.proof.written + 1 = words → rest ≠ [] →
          ∃ t, EndsIn (exec .spoolWrite s) t ∧ ProofCycle s t .spool ended ∧ t.mem = writeMem s.mem q.offset q.data)
        -- the last word of an entry
        ∧ (∀ (before after : List Entry) (e : Entry), s.proof.written + 1 = words → rest = [] →
          s.queue = before ++ e :: after → e.proof = .inProof → (∀ x ∈ before, x.proof ≠ .inProof) →
          (∀ x ∈ before ++ after, x.photo ≠ .exposed ∨ x.proof ≠ .proofed) →
          ∃ t, EndsIn (exec .spoolWrite s) t ∧ t.mem = writeMem s.mem q.offset q.data
            ∧ t.proof = { ended with
                job := match e.kind with
                  | .jobEnd _ => none
                  | _ => ended.job }
            ∧ (if e.photo = .exposed then InUseUpToDate t else t.font = s.font ∧ t.composer = s.composer)
            ∧ t.queue = before ++ (if e.photo = .exposed then [] else [{ e with proof := .proofed }]) ++ after
            ∧ (∀ o ∈ s.status.marks ++ s.proof.changes ended, o ∈ t.status.marks) ∧ t.seq = s.seq
            ∧ t.intake = s.intake ∧ t.panel = s.panel ∧ t.exposure = s.exposure)))

/-- The posting pass (R175, R185). At its beginning the posting count goes up by one, to be written first; then come the
marked words with the values they have at that moment, and their marks are cleared. Each STATUS write puts its word
into memory, the flag cell's as the internal set then stands. The last cycle is the count once more, and ends the
pass. The value a posted word has is that of 11.3: codes in the order of its lists, lengths of film and film used in two
words, the high one first; film used past 32 bits is open (log 13), and the low byte of an odd last character is 0 by the
model's choice (log 45). -/
def Obligations.PostingPass : Prop :=
  -- the beginning
  (∀ s : State, Quiet s → s.status.pass = none → s.status.marks ≠ [] →
      EndsIn (exec .postingPassBegin s)
        { s with
          status.count := s.status.count + 1
          status.marks := []
          status.pass := some
            { words := (1, s.status.count + 1) :: s.status.marks.map (fun o => (o, s.postedValue o)) } })
  -- a STATUS write
  ∧ (∀ (s : State) (q : CycleRequest), Quiet s → s.port.cycle = some .status → s.port.requests.status = some q →
      q.kind = .status → q.stale = false →
      let base := { s with
        port.cycle := none
        port.requests := s.port.requests.set .status none
        mem := writeMem s.mem q.offset (if q.offset = 32 then s.status.flags else q.data) }
      (∀ w rest, s.status.pass = some { words := w :: rest } →
        EndsIn (exec .statusWrite s) { base with status.pass := some { words := rest } })
      ∧ (s.status.pass = some { words := [] } →
        EndsIn (exec .statusWrite s) { base with status.pass := none, status.count := s.status.count + 1 }))
  -- the value of each posted word (11.3)
  ∧ (∀ s : State,
      let v := s.postedValue
      let num (n : Nat) : Word := BitVec.ofNat 16 n
      let pair (off : Nat) : BitVec 32 := v off ++ v (off + 1)
      let chars (l : List Nat) (j : Nat) : Word := num (l.getD (2 * j) 0 * 256 + l.getD (2 * j + 1) 0)
      -- the machine
      (v 2 = num ([Ownership.copy, .taking, .panel].idxOf s.panel.ownership)
        ∧ v 3 = num ([SeqState.idle, .shifting, .lens, .stepping, .flashing, .moving, .cutting, .halted].idxOf s.seq.state)
        ∧ v 4 = num ([none, some HaltKind.lamp, some .shift, some .lens, some .step, some .filmDrive, some .cutter,
          some .filmLow].idxOf s.seq.halt)
        ∧ v 5 = num ([ComposerState.outsideJob, .setting, .lookahead, .fontWait, .queueWait, .discarding].idxOf
          s.composer.state)
        ∧ v 6 = (if s.intake.job.inProgress then s.intake.job.number else 0)
        ∧ v 7 = num s.intake.job.linesSet ∧ v 8 = num s.exposure.lines)
      -- the film account
      ∧ (pair 9 = BitVec.ofInt 32 s.seq.film.loaded ∧ pair 11 = BitVec.ofInt 32 s.seq.film.remaining
        ∧ pair 13 = BitVec.ofInt 32 s.seq.film.position ∧ pair 15 = BitVec.ofInt 32 s.seq.film.cutTotal)
      -- the ring, the copy error and the dictionary
      ∧ (v 17 = num s.intake.intakeOffset ∧ v 18 = num s.intake.consumeOffset ∧ v 19 = num s.intake.fill
        ∧ v 20 = num s.intake.run.length
        ∧ v 21 = num ([none, some CopyError.unknownCommand, some .outsideJob, some .badOperand, some .noFont,
          some .invalidCode, some .refusedMount, some .refusedRelease, some .lensesBusy, some .dictionaryFull].idxOf
            s.intake.errKind)
        ∧ v 22 = num s.intake.errOffset ∧ v 23 = s.intake.refetchCount ∧ v 24 = num s.hyph.dictionary.length)
      -- the cells and the fault log
      ∧ (v 32 = s.status.flags ∧ v 33 = s.port.mask ∧ v 34 = 0
        ∧ v 40 = num (s.port.disabled.intake.toNat + 2 * s.port.disabled.library.toNat
          + 4 * s.port.disabled.drain.toNat + 8 * s.port.disabled.spool.toNat)
        ∧ ∀ r : Requester, v (41 + [Requester.intake, .library, .drain, .spool, .status].idxOf r)
          = num (s.port.lastFault.get r))
      -- the position mirror
      ∧ (∀ p : Fin 8,
        let e := s.font.table[p]
        let base := 48 + 4 * p.val
        v base = num e.font
          ∧ v (base + 1) = num
            ([PosState.vacant, .requested, .loading, .mounted, .fixed, .refused].idxOf e.state * 256
              + [none, some Reason.timeout, some .declined, some .noRecord, some .damaged, some .memoryError, some .busy,
                some .withdrawn].idxOf e.reason)
          ∧ v (base + 2) = num e.age ∧ v (base + 3) = num e.inUse)
      -- the mark cell, the capture and the inbox
      ∧ (v 80 = s.status.markValue ∧ v 81 = s.status.markCount
        ∧ v 96 = num ((if s.status.capture.held then 32768 else 0) + s.status.capture.count)
        ∧ v 97 = s.status.capture.job ∧ v 98 = num s.status.capture.line
        ∧ ((∀ c ∈ s.status.capture.codes, c < 256) → ∀ j < 24, v (99 + j) = chars s.status.capture.codes j)
        ∧ v 128 = num (s.panel.inbox.getD []).length
        ∧ ((∀ c ∈ s.panel.inbox.getD [], c < 256) → ∀ j < 16, v (129 + j) = chars (s.panel.inbox.getD []) j))
      -- the job reports
      ∧ (v 152 = num s.status.nextSlot.val
        ∧ ∀ k : Fin 8,
          let r := s.status.reports[k]
          let base := 160 + 8 * k.val
          v base = r.job
            ∧ v (base + 1) = num
              ([none, some JobOutcome.complete, some .unterminated, some .aborted, some .overrun].idxOf r.outcome * 256
                + (r.flags.sumMismatch.toNat + 2 * r.flags.clamped.toNat + 4 * r.flags.fontSub.toNat
                  + 8 * r.flags.sizeSub.toNat + 16 * r.flags.overset.toNat))
            ∧ v (base + 2) = num r.linesSet ∧ v (base + 3) = num r.linesExposed
            ∧ (-2147483648 ≤ r.film → r.film < 2147483648 → pair (base + 4) = BitVec.ofInt 32 r.film)
            ∧ v (base + 6) = r.sumComputed ∧ v (base + 7) = r.sumGiven)
      -- the spool and the lenses
      ∧ (let point (x : SpoolPoint) : Word := num ((if x.half = .b then 32768 else 0) + x.offset)
        let half (x : HalfState) : Word := num ([HalfState.empty, .filling, .full].idxOf x)
        v 224 = point s.proof.writePoint ∧ v 225 = point s.proof.drainPoint ∧ v 226 = half s.proof.halfA
          ∧ v 227 = half s.proof.halfB ∧ v 228 = num s.proof.gap
          ∧ v 229 = num ([ProofMode.off, .attached, .detached].idxOf s.proof.mode)
          ∧ ∀ i : Fin 8, v (230 + i.val) = num s.font.lenses[i]))

/-- A bank fault on a part cycle is logged: the requester's last fault offset is the cycle's, MEMORY ERROR is raised and
the fault log marked (R178). INTAKE and DRAIN are disabled, with the faulted word discarded (R82, R164). LIBRARY is
disabled, and the fetch in flight and every other fetch on the list end in REFUSED, MEMORY ERROR (R71). SPOOL is disabled;
an ATTACHED entry's record is to be written again from its header word, and a DETACHED entry counts as a gap, is PROOFED, and
leaves the queue if it is EXPOSED too (R108, R161); that an EMPTY half stays EMPTY when the faulted write is that of its first
header word is the model's reading (log 46). STATUS is not disabled: every posted word is marked, and
the pass goes on (R180, R187). A faulted write may leave its word in any state. -/
def Obligations.BankFaultIsLogged : Prop :=
  -- INTAKE and DRAIN
  (∀ (s : State) (r : Requester) (q : CycleRequest), Quiet s → s.port.cycle = some r →
      s.port.requests.get r = some q → r = .intake ∨ r = .drain →
      EndsIn (exec .bankFault s)
        { State.raise (State.mark { s with
              port.cycle := none
              port.requests := s.port.requests.set r none
              port.lastFault := s.port.lastFault.set r q.offset
              port.disabled := s.port.disabled.set r true }
            (List.range' 40 6)) .memoryError with
          proof.reading := if r = .drain then none else s.proof.reading })
  -- LIBRARY and SPOOL
  ∧ (∀ (s : State) (q : CycleRequest), Quiet s →
      (∀ f, s.port.cycle = some .library → s.port.requests.library = some q → s.font.fetch = some f →
        s.font.fetchList ≠ [] → s.font.fetchList.Nodup →
        ∃ t, EndsIn (exec .bankFault s) t ∧ t.port.disabled = s.port.disabled.set .library true
          ∧ t.port.lastFault.library = q.offset ∧ t.flagSet .memoryError = true ∧ t.flagSet .mountRefused = true
          ∧ (∀ p : Fin 8, t.font.table[p] =
            if p ∈ s.font.fetchList then
              { s.font.table[p] with
                state := .refused, reason := some .memoryError, age := 0, callStep := 0, wait := false, fix := false,
                origin := none, remove := none, timer := none }
            else s.font.table[p])
          ∧ t.font = { s.font with table := t.font.table, fetch := none, fetchList := [] }
          ∧ t.composer = { s.composer with fontWait := t.composer.fontWait }
          ∧ (s.composer.fontWait = none → t.composer.fontWait = none)
          ∧ t.mem = s.mem ∧ t.queue = s.queue ∧ t.seq = s.seq ∧ t.intake = s.intake ∧ t.proof = s.proof
          ∧ t.panel = s.panel)
      ∧ (∀ e, MemoryInv s → s.port.cycle = some .spool → s.port.requests.spool = some q → s.inProof = some e →
        e.mode = .attached →
        ∃ t, EndsIn (exec .bankFault s) t ∧ t.port.disabled = s.port.disabled.set .spool true
          ∧ t.port.lastFault.spool = q.offset ∧ t.flagSet .memoryError = true
          ∧ t.proof = { s.proof with written := 0 } ∧ t.queue = s.queue ∧ (∀ a, a ≠ q.offset → t.read a = s.read a))
      ∧ (∀ (before after : List Entry) (e : Entry), MemoryInv s → s.port.cycle = some .spool →
        s.port.requests.spool = some q → s.queue = before ++ e :: after → (∀ x ∈ before, x.proof ≠ .inProof) →
        e.proof = .inProof → e.mode = .detached →
        ∃ t, EndsIn (exec .bankFault s) t ∧ t.port.disabled = s.port.disabled.set .spool true
          ∧ t.port.lastFault.spool = q.offset ∧ t.flagSet .memoryError = true
          ∧ t.proof = { s.proof with records := [], written := 0, gap := min 65535 (s.proof.gap + 1) }
          ∧ t.queue = (before ++ { e with proof := .proofed } :: after).filter
            (fun x => !decide (x.photo = .exposed ∧ x.proof = .proofed))
          ∧ (∀ a, a ≠ q.offset → t.read a = s.read a) ∧ t.intake = s.intake ∧ t.hyph = s.hyph ∧ t.seq = s.seq
          ∧ t.exposure = s.exposure ∧ t.panel = s.panel
          ∧ t.composer = { s.composer with fontWait := t.composer.fontWait }))
  -- STATUS
  ∧ (∀ (s : State) (q : CycleRequest) (w : Nat × Word) (rest : List (Nat × Word)), Quiet s → MemoryInv s →
      s.port.cycle = some .status → s.port.requests.status = some q → s.status.pass = some { words := w :: rest } →
      ∃ t, EndsIn (exec .bankFault s) t ∧ t.port.disabled = s.port.disabled ∧ t.port.lastFault.status = q.offset
        ∧ t.flagSet .memoryError = true ∧ (∀ off ∈ postedOffsets, off ∈ t.status.marks)
        ∧ t.status.pass = some { words := rest } ∧ (∀ a, a ≠ q.offset → t.read a = s.read a)
        ∧ t.intake = s.intake ∧ t.composer = s.composer ∧ t.font = s.font ∧ t.queue = s.queue ∧ t.seq = s.seq
        ∧ t.panel = s.panel ∧ t.proof = s.proof)

/-! ### Copy (Chapters 1 to 5) -/

/-- A word consumed leaves the run, the fill goes down and the consume offset up, a held write is released, and inside
a job the galley sum takes the word in, rotated left one place with the word added, but for the words of JOB and ENDJOB
(R80, R90, R170). A filler does nothing else (R84). Which words the sum leaves out is the model's reading (log 20). -/
def Obligations.FillerIsConsumed : Prop :=
  (∀ s : State, WordNext s 0 → EndsIn (exec .filler s) (s.consume 0))
  ∧ ∀ (s : State) (w : Word), s.consume w =
      State.mark { s with
          intake.run := s.intake.run.tail
          intake.fill := s.intake.fill - 1
          intake.consumeOffset := ringAfter s.intake.consumeOffset 1
          intake.job.sum :=
            if s.intake.job.inProgress ∧ s.endsSum w = false then s.intake.job.sum.rotateLeft 1 + w
            else s.intake.job.sum
          port.holdTimer := .idle }
        [18, 19, 20]

/-- Outside a job a text word is dropped, and the first of a run raises COPY ERROR (OUTSIDE JOB) at its own offset; in
DISCARDING it is dropped. A job command outside a job raises the error at its command word and has no effect; in
DISCARDING job and standing commands are dropped (R86). -/
def Obligations.CopyOutsideAJob : Prop :=
  (∀ (s : State) (w : Word) (c : Instr), WordNext s w →
    ((w, c) ∈ [(0x1E#16, Instr.discretionaryHyphen), (0x1F#16, .tie), (0x20#16, .interwordSpace)]
      ∨ (0x21 ≤ w.toNat ∧ w.toNat ≤ 0x7E ∧ c = .character)) →
    (s.composer.state = .outsideJob →
      EndsIn (exec c s)
        (if s.intake.textRun then s.consume w
        else State.copyError { s.consume w with intake.textRun := true } .outsideJob s.intake.consumeOffset))
    ∧ (s.composer.state = .discarding → EndsIn (exec c s) (s.consume w)))
  ∧ (∀ (s : State) (w : Word),
    ∀ x ∈ [(Cmd.endjob, Instr.endjob), (.measure, .measure), (.lead, .lead), (.font, .font), (.size, .size),
        (.quad, .quad), (.fixspace, .fixspace)], CommandNext s x.1 w →
      (s.composer.state = .outsideJob →
        EndsIn (exec x.2 s) ((s.decoded w).copyError .outsideJob (s.completedBy w).offset))
      ∧ (s.composer.state = .discarding → EndsIn (exec x.2 s) (s.decoded w)))
  ∧ ∀ (s : State) (w : Word),
    ∀ x ∈ [(Cmd.hyph, Instr.hyph), (.exceptWord, .exceptWord), (.unexcept, .unexcept), (.lenses, .lenses),
        (.mount, .mount), (.release, .release), (.advance, .advance), (.reverse, .reverse), (.cut, .cut),
        (.proofMode, .proofMode), (.display, .display), (.mark, .mark)], CommandNext s x.1 w →
      s.composer.state = .discarding → EndsIn (exec x.2 s) (s.decoded w)

/-- A word of no code raises COPY ERROR (INVALID CODE) at its own offset, and a command number that names no command
COPY ERROR (UNKNOWN COMMAND); in DISCARDING neither is raised (R84 to R86). The error's kind and offset replace the
last copy error, both are marked, and COPY ERROR is raised (R101). -/
def Obligations.BadWordsRaiseCopyErrors : Prop :=
  (∀ (s : State) (w : Word), WordNext s w →
    ((1 ≤ w.toNat ∧ w.toNat ≤ 0x1D) ∨ (0x7F ≤ w.toNat ∧ w.toNat ≤ 0x7FFF)) →
    EndsIn (exec .invalidCode s)
      (if s.composer.state = .discarding then s.consume w
      else (s.consume w).copyError .invalidCode s.intake.consumeOffset))
  ∧ (∀ (s : State) (w : Word), WordNext s w → 0x8000 ≤ w.toNat →
    (w.toNat / 256 = 0x80 ∨ 0x80 + 21 ≤ w.toNat / 256) →
    EndsIn (exec .unknownCommand s)
      (let t : State := { s.consume w with intake.textRun := false }
      if s.composer.state = .discarding then t else t.copyError .unknownCommand s.intake.consumeOffset))
  ∧ ∀ (s : State) (k : CopyError) (off : Nat),
    (s.copyError k off).intake = { s.intake with errKind := some k, errOffset := off }
      ∧ (s.copyError k off).flagSet .copyError = true ∧ 21 ∈ (s.copyError k off).status.marks
      ∧ 22 ∈ (s.copyError k off).status.marks ∧ (s.copyError k off).composer = s.composer
      ∧ (s.copyError k off).queue = s.queue ∧ (s.copyError k off).font = s.font ∧ (s.copyError k off).mem = s.mem

/-- The twenty command numbers of 11.1, with the operand words each command expects by its inline byte (R85); the other
numbers name no command. A known command word that expects operands becomes the command in progress, with its offset and
that number of operands, and one that expects none takes effect at once; an operand that is not the last is kept. The
count word of EXCEPT adds one operand for each two positions (R85). -/
def Obligations.CommandWordsAndOperands : Prop :=
  let pairs (n : Nat) : Nat := (n + 1) / 2
  let commands : List (Nat × Cmd × (Nat → Nat)) :=
    [(1, .job, fun _ => 1), (2, .endjob, fun _ => 1), (3, .measure, fun _ => 1), (4, .lead, fun _ => 1),
      (5, .font, fun _ => 1), (6, .size, fun _ => 0), (7, .quad, fun _ => 0), (8, .fixspace, fun _ => 0),
      (9, .hyph, fun _ => 1), (10, .exceptWord, fun c => pairs c + 1), (11, .unexcept, pairs), (12, .lenses, fun _ => 4),
      (13, .mount, fun _ => 1), (14, .release, fun _ => 0), (15, .advance, fun _ => 1), (16, .reverse, fun _ => 1),
      (17, .cut, fun _ => 0), (18, .proofMode, fun _ => 0), (19, .display, pairs), (20, .mark, fun _ => 1)]
  -- the table
  (∀ n : Nat, n < 128 →
    (∀ x ∈ commands, x.1 = n → Cmd.ofNumber n = some x.2.1) ∧ ((∀ x ∈ commands, x.1 ≠ n) → Cmd.ofNumber n = none))
  -- a command word
  ∧ (∀ (s : State) (w : Word) (inline : Nat), ∀ x ∈ commands, WordNext s w → inline < 256 →
    w.toNat = 0x8000 + 256 * x.1 + inline →
    (x.2.2 inline ≠ 0 →
      EndsIn (exec .commandWord s)
        { s.consume w with
          intake.textRun := false
          intake.decoder := some { cmd := x.2.1, word := w, offset := s.intake.consumeOffset, operands := [],
                                   remaining := x.2.2 inline, dropped := false } })
    ∧ (x.2.2 inline = 0 → CommandNext s x.2.1 w ∧ (s.completedBy w).cmd = x.2.1 ∧ (s.completedBy w).inline = inline
      ∧ (s.completedBy w).operands = [] ∧ (s.completedBy w).offset = s.intake.consumeOffset))
  -- an operand
  ∧ ∀ (s : State) (w : Word) (d : Command), Quiet s → s.composer.state.consumes = true →
    s.intake.run.head? = some w → s.intake.decoder = some d →
    (let more := if d.cmd = .exceptWord ∧ d.operands.length = (d.word.toNat % 256 + 1) / 2 then (w.toNat % 32 + 1) / 2
      else 0
    d.remaining - 1 + more ≠ 0 →
    EndsIn (exec .operandWord s)
      { s.consume w with
        intake.decoder := some { d with operands := d.operands ++ [w], remaining := d.remaining - 1 + more } })

/-- A character that does not overflow the line joins it: as a character item of its width in units times the lens size
times 5, with its position, lens and marks (R1, R4), or, when the width entry is 0, as a missing character of the governing
band's normal width (R5). The sums follow (R8, R9), a letter adds one to the word and another character ends it (R22), the
report takes the item's marks (R56), and the in-use counts are brought up to date (R49). The character is set in the current
font; in that font at another position, which is selected when its own no longer holds it (R55); or, with no current font or
after such a resolution by substitution, in the default font, which marks it FONT SUBSTITUTED (R55, R56). When that
resolution waits or calls, the character waits in FONT WAIT (R55); that the call's ALARM goes out whether or not another call
is out is the model's reading (log 11). When no font is available a character or a tie is discarded, with COPY ERROR (NO FONT)
the first time on a line (R94); that it leaves the word as it stands is the model's reading (log 54). -/
def Obligations.CharacterJoinsTheLine : Prop :=
  (∀ (s v : State) (w : Word) (p : Fin 8) (mark : Bool) (r : WidthRecord) (g : GovFont), WordNext s w → ReadyToSet s →
    s.composer.held = none → 0x21 ≤ w.toNat → w.toNat ≤ 0x7E → s.SetsCharacterFrom p mark v →
    s.font.widths[p] = some r → v.lineForItem.gov = some g →
    let a : Attr :=
      { pos := p, lens := s.composer.lens, size := s.composer.lensSize, fontSub := mark, sizeSub := s.composer.sizeSub }
    let u := r.widths.getD (w.toNat - 0x20) 0
    let i : Item :=
      if u = 0 then .missing w.toNat a (g.normal * s.composer.lensSize * 5)
      else .char w.toNat a (u * s.composer.lensSize * 5)
    v.lineForItem.sums.minWidth + i.fixedWidth ≤ v.lineForItem.measure * 32 → v.lineForItem.sums.k < 160 →
    ∃ t, EndsIn (exec .character s) t ∧ CopyFrame s t ∧ t.queue = s.queue ∧ InUseUpToDate t
      ∧ t.composer = { v.composer with
          line := { v.lineForItem with
            items := v.lineForItem.items ++ [i]
            sums := v.lineForItem.sums.add v.lineForItem.items.getLast? i }
          word := if isLetter w.toNat then { s.composer.word with letters := s.composer.word.letters + 1 }
            else WordRun.none }
      ∧ t.intake = { (s.consume w).intake with
          job.flags := { s.intake.job.flags with
            fontSub := s.intake.job.flags.fontSub || a.fontSub
            sizeSub := s.intake.job.flags.sizeSub || a.sizeSub } })
  -- a current font that is to be resolved again, and waits
  ∧ (∀ (s : State) (w : Word) (f : CurrentFont), WordNext s w → s.composer.todo = [] → s.composer.held = none →
    s.composer.state = .setting ∧ 0x21 ≤ w.toNat ∧ w.toNat ≤ 0x7E
      ∨ s.composer.state = .lookahead ∧ isLetter w.toNat = true ∧ s.composer.line.sums.k < 160 →
    s.composer.current = some f → ¬ s.StillHolds f →
    let waits (t : State) (target : WaitTarget) : Prop :=
      t.composer = { s.composer with
          state := .fontWait
          fontWait := some { font := f.font, target := target, char := some (w.toNat, s.intake.consumeOffset),
                             inLookahead := decide (s.composer.state = .lookahead) } }
        ∧ t.intake = (s.consume w).intake ∧ t.queue = s.queue ∧ InUseUpToDate t
    (∀ p : Fin 8, s.FontHeldAt f.font p → s.font.table[p].state = .requested ∨ s.font.table[p].state = .loading →
      ∃ t, EndsIn (exec .character s) t ∧ CopyFrame s t ∧ waits t (.entry p none))
    ∧ (∀ p : Fin 8, s.FontPlace f.font p →
      ∃ t, EndsIn (exec .character s) t ∧ FontCalled s t f.font p ∧ waits t (.entry p none))
    ∧ (s.FontNoPlace f.font → s.QueueCanFree →
      ∃ t, EndsIn (exec .character s) t ∧ CopyFrame s t ∧ waits t (.position false)))
  -- no font is available
  ∧ ∀ (s : State) (v : Composer) (w : Word) (c : Instr), WordNext s w → s.composer.todo = [] →
    s.composer.held = none → (∀ q : Fin 8, s.font.table[q].ready = false) →
    (c = .character
        ∧ (s.composer.state = .setting ∧ 0x21 ≤ w.toNat ∧ w.toNat ≤ 0x7E
          ∨ s.composer.state = .lookahead ∧ isLetter w.toNat = true ∧ s.composer.line.sums.k < 160)
        ∧ (s.composer.current = none ∧ v = s.composer
          ∨ ∃ f, s.composer.current = some f ∧ s.FontSubstituted f.font
            ∧ v = { s.composer with current := none, fontSub := true }))
      ∨ (c = .tie ∧ w = 0x1F ∧ s.composer.state = .setting ∧ s.composer.line.gov = none ∧ v = s.composer) →
    ∃ t, EndsIn (exec c s) t ∧ LineFrame [] s t ∧ InUseUpToDate t ∧ t.queue = s.queue
      ∧ t.composer = { v with noFont := true }
      ∧ (s.composer.noFont = true → StatusStands s t ∧ t.intake = (s.consume w).intake)
      ∧ (s.composer.noFont = false → t.flagSet .copyError = true
        ∧ t.status = { s.status with flags := (s.raise .copyError).status.flags, marks := t.status.marks }
        ∧ t.intake = { (s.consume w).intake with errKind := some .noFont, errOffset := s.intake.consumeOffset })

/-- A letter that overflows the line joins it all the same, and the Composer enters LOOKAHEAD; in LOOKAHEAD each further
letter joins with no overflow test, unless it is its word's 25th letter (R25). A discretionary hyphen after a letter
records a point there, and after none records nothing; it adds no item (R38). The break choice takes the first of the
four choices whose conditions hold (R28 to R32), and an OVERSET line is captured or counted, flagged in the report and
raised (R35, R192). The carried items begin a new line (R10), which is broken again when it overflows (R34). At the
word's 25th letter, and at an interword space in LOOKAHEAD, the break is made and completed: the entry is queued, the
ladder count follows (R36), the carried items form the new line, and the space that ended the word joins it (R33). A
character that is no letter and is wider than an empty line's measure is discarded in an empty OVERSET entry (R27, R32).
That after choice 4 the word is broken only when the cut falls inside it is the model's reading (log 38), and so is that
the break test counts the spaces before S (log 35), that the hyphen glyph carries its letter's marks and those of the
substitutions that stand, and the report with it (R30, R56, R73; log 43), and that a word made ineligible by the item cap
stays so on the next line (log 56). -/
def Obligations.LookaheadAndBreakChoice : Prop :=
  -- a letter in LOOKAHEAD
  (∀ (s : State) (w : Word) (f : CurrentFont) (r : WidthRecord) (u : Nat), WordNext s w → s.composer.todo = [] →
    isLetter w.toNat = true → s.composer.current = some f → s.currentReady f = true →
    s.font.widths[f.pos] = some r → s.composer.line.items ≠ [] → s.composer.line.gov ≠ none →
    u = r.widths.getD (w.toNat - 0x20) 0 → u ≠ 0 →
    (s.composer.state = .lookahead ∨ (s.composer.state = .setting
      ∧ s.composer.line.measure * 32 < s.composer.line.sums.minWidth + u * s.composer.lensSize * 5)) →
    s.composer.line.sums.k < 160 → s.composer.word.letters ≠ 24 →
    ∃ t, EndsIn (exec .character s) t ∧ CopyFrame s t ∧ t.queue = s.queue ∧ t.composer.state = .lookahead
      ∧ t.composer.line.items = s.composer.line.items ++
        [.char w.toNat { pos := f.pos, lens := s.composer.lens, size := s.composer.lensSize,
                         fontSub := s.composer.fontSub, sizeSub := s.composer.sizeSub } (u * s.composer.lensSize * 5)]
      ∧ t.composer.word.letters = s.composer.word.letters + 1)
  -- a discretionary hyphen
  ∧ (∀ s : State, WordNext s 0x1E → s.composer.state = .setting ∨ s.composer.state = .lookahead →
    EndsIn (exec .discretionaryHyphen s)
      { s.consume 0x1E with
        composer.word.points :=
          if 0 < s.composer.word.letters then s.composer.word.points ++ [s.composer.word.letters]
          else s.composer.word.points })
  -- the four choices
  ∧ (∀ (s : State) (again : Bool), s.composer.line.items ≠ [] →
    (∃ b, s.BreakChoice again b) ∧ ∀ b, s.BreakChoice again b → s.doTask (.breakLine again) = s.broken b)
  -- the line that the carried items begin, and its test
  ∧ (∀ (s : State) (carried : List Item) (previous : Option GovFont),
    (carried.dropWhile Item.isSpace = [] →
      s.doTask (.newLine carried previous) = { s with composer.line := Line.empty })
    ∧ (∀ first rest, carried = first :: rest → carried.dropWhile Item.isSpace ≠ [] →
      ∃ (gov : Option GovFont) (items : List Item),
        (∀ p, carried.findSome? Item.pos? = some p → gov = s.govOf p)
        ∧ ((∀ i ∈ carried, i.pos? = none) → gov = if s.settingGov = none then previous else s.settingGov)
        ∧ (gov = none → items = carried.dropWhile Item.isSpace)
        ∧ (∀ g, gov = some g → items = (carried.dropWhile Item.isSpace).map (fun i =>
          match i with
          | .space h _ _ _ => .space h (g.min * h * 5) (g.normal * h * 5) (g.max * h * 5)
          | .tie h _ => .tie h (g.normal * h * 5)
          | .missing c a _ => .missing c a (g.normal * a.size * 5)
          | i => i))
        ∧ s.doTask (.newLine carried previous) =
          { s with composer.line :=
              { items := items, sums := sumsOf items, gov := gov, govSize := first.size,
                measure := s.composer.measure, lead := s.composer.lead } })
    ∧ s.doTask .retest =
      (if s.composer.line.measure * 32 < s.composer.line.sums.minWidth then
        { s with composer.todo := .breakLine true :: s.composer.todo }
      else s))
  -- a break made and completed
  ∧ (∀ (s : State) (w : Word) (c : Instr) (b : Break) (line : Line) (word : WordRun), WordNext s w →
    s.composer.todo = [] → s.composer.line.items ≠ [] → s.queue.length < 6 →
    ((c = .character ∧ isLetter w.toNat = true ∧ s.composer.line.gov ≠ none ∧ s.composer.line.sums.k < 160
        ∧ s.composer.word.letters = 24 ∧ word = { s.composer.word with letters := 25, ineligible := true }
        ∧ ∃ (f : CurrentFont) (r : WidthRecord) (u : Nat) (i : Item), s.composer.current = some f
          ∧ s.currentReady f = true ∧ s.font.widths[f.pos] = some r ∧ u = r.widths.getD (w.toNat - 0x20) 0 ∧ u ≠ 0
          ∧ (s.composer.state = .lookahead ∨ (s.composer.state = .setting
            ∧ s.composer.line.measure * 32 < s.composer.line.sums.minWidth + u * s.composer.lensSize * 5))
          ∧ i = .char w.toNat
            { pos := f.pos, lens := s.composer.lens, size := s.composer.lensSize, fontSub := s.composer.fontSub,
              sizeSub := s.composer.sizeSub } (u * s.composer.lensSize * 5)
          ∧ line = { s.composer.line with
            items := s.composer.line.items ++ [i]
            sums := s.composer.line.sums.add s.composer.line.items.getLast? i })
      ∨ (c = .interwordSpace ∧ w = 0x20 ∧ s.composer.state = .lookahead ∧ line = s.composer.line
        ∧ word = s.composer.word)) →
    State.BreakChoice { s with composer.line := line, composer.word := word } false b →
    let next := s.carriedLine b.carried s.composer.line.gov
    let h := s.composer.lensSize
    next.sums.minWidth ≤ next.measure * 32 →
    (c = .interwordSpace → next.items ≠ [] ∧ next.sums.k < 160
      ∧ ∃ g, next.gov = some g ∧ next.sums.minWidth + g.min * h * 5 ≤ next.measure * 32) →
    ∃ t, EndsIn (exec c s) t ∧ LineFrame [b.entry] s t ∧ InUseUpToDate t ∧ BreakStatus s t b.overset line.items
      ∧ t.queue = s.queue ++ [s.entryFor (.line b.entry)]
      ∧ t.intake = { (s.consume w).intake with
          job.linesSet := nextCount s.intake.job.linesSet
          job.flags := { s.intake.job.flags.afterBreak b with
            fontSub := (s.intake.job.flags.afterBreak b).fontSub || (decide (c = .character) && s.composer.fontSub)
            sizeSub := (s.intake.job.flags.afterBreak b).sizeSub || s.composer.sizeSub } }
      ∧ t.composer = { s.composer with
          line := t.composer.line, word := t.composer.word, state := .setting, noFont := false, pendingMarks := []
          ladder := ladderAfter s.composer.ladder [b.entry] }
      ∧ (c = .character → t.composer.line = next
        ∧ t.composer.word = if b.inWord then { word with points := [], ineligible := true } else word)
      ∧ ∀ g, c = .interwordSpace → next.gov = some g →
        t.composer.word = WordRun.none
          ∧ (let i : Item := .space h (g.min * h * 5) (g.normal * h * 5) (g.max * h * 5)
            t.composer.line = { next with
              items := next.items ++ [i], sums := next.sums.add next.items.getLast? i }))
  -- a character wider than the measure on an empty line
  ∧ ∀ (s : State) (w : Word) (f : CurrentFont) (r : WidthRecord) (u : Nat) (a : Attr) (e : LineEntry),
    WordNext s w →
    ReadyToSet s → 0x21 ≤ w.toNat → w.toNat ≤ 0x7E → isLetter w.toNat = false → s.composer.current = some f →
    s.currentReady f = true → s.font.widths[f.pos] = some r → s.composer.line.items = [] →
    u = r.widths.getD (w.toNat - 0x20) 0 → u ≠ 0 → s.composer.measure * 32 < u * s.composer.lensSize * 5 →
    s.queue.length < 6 →
    a = { pos := f.pos, lens := s.composer.lens, size := s.composer.lensSize, fontSub := s.composer.fontSub,
          sizeSub := s.composer.sizeSub } →
    e = emptyLineEntry s.intake.job.number (nextCount s.intake.job.linesSet) .left s.composer.lead
      s.composer.lensSize true →
    ∃ t, EndsIn (exec .character s) t ∧ LineFrame [e] s t ∧ InUseUpToDate t
      ∧ BreakStatus s t true [.char w.toNat a (u * s.composer.lensSize * 5)]
      ∧ t.queue = s.queue ++ [s.entryFor (.line e)]
      ∧ t.intake = { (s.consume w).intake with
          job.linesSet := nextCount s.intake.job.linesSet
          job.flags := { s.intake.job.flags with
            overset := true, fontSub := s.intake.job.flags.fontSub || a.fontSub
            sizeSub := s.intake.job.flags.sizeSub || a.sizeSub } }
      ∧ t.composer = { s.composer with
          line := Line.empty, word := WordRun.none, noFont := false, pendingMarks := [], ladder := 0 }

/-- On a line with items and a band, an interword space joins with the three widths of the band at the lens size in
effect (R2), a tie with the band's normal width, and a fixed space with its units times the size times 5 (R3), when
none of them overflows the line. Each ends the word. An interword space at the head of a line is dropped (R2); that it
ends the word all the same is the model's reading (log 54). One that overflows the line is dropped and ends it JUSTIFY
(R24). That a tie takes the band the line has, whatever now stands
in the position table, is the model's reading (log 16). One made through a substituted lens sets SIZE SUBSTITUTED in the
report (R56, R194). -/
def Obligations.SpacesJoinTheLine : Prop :=
  (∀ (s : State) (g : GovFont) (w : Word) (c : Instr) (i : Item) (u : State), ReadyToSet s →
    s.composer.line.items ≠ [] → s.composer.line.gov = some g → s.composer.line.sums.k < 160 →
    (let h := s.composer.lensSize
    (WordNext s w ∧ w = 0x20 ∧ c = .interwordSpace ∧ u = s.consume w
        ∧ i = .space h (g.min * h * 5) (g.normal * h * 5) (g.max * h * 5)
        ∧ s.composer.line.sums.minWidth + g.min * h * 5 ≤ s.composer.line.measure * 32)
      ∨ (WordNext s w ∧ w = 0x1F ∧ c = .tie ∧ u = s.consume w ∧ i = .tie h (g.normal * h * 5)
        ∧ s.composer.line.sums.minWidth + g.normal * h * 5 ≤ s.composer.line.measure * 32)
      ∨ (CommandNext s .fixspace w ∧ c = .fixspace ∧ u = s.decoded w ∧ 1 ≤ (s.completedBy w).inline
        ∧ (s.completedBy w).inline ≤ 127
        ∧ i = .fixed (s.completedBy w).inline h ((s.completedBy w).inline * h * 5)
        ∧ s.composer.line.sums.minWidth + (s.completedBy w).inline * h * 5 ≤ s.composer.line.measure * 32)) →
    ∃ t, EndsIn (exec c s) t ∧ CopyFrame s t ∧ t.queue = s.queue ∧ InUseUpToDate t
      ∧ t.intake = { u.intake with
          job.flags.sizeSub := s.intake.job.flags.sizeSub || s.composer.sizeSub }
      ∧ t.composer = { s.composer with
          line := { s.composer.line with
            items := s.composer.line.items ++ [i]
            sums := s.composer.line.sums.add s.composer.line.items.getLast? i }
          word := WordRun.none })
  -- at the head of a line
  ∧ (∀ s : State, WordNext s 0x20 → ReadyToSet s → s.composer.line.items = [] →
    ∃ t, EndsIn (exec .interwordSpace s) t ∧ CopyFrame s t ∧ t.queue = s.queue
      ∧ t.intake = (s.consume 0x20).intake ∧ t.composer = { s.composer with word := WordRun.none })
  -- past the measure
  ∧ ∀ (s : State) (g : GovFont) (e : LineEntry), WordNext s 0x20 → ReadyToSet s → s.queue.length < 6 →
    s.composer.line.gov = some g → stripSpaces s.composer.line.items ≠ [] →
    (s.composer.line.measure * 32 < s.composer.line.sums.minWidth + g.min * s.composer.lensSize * 5
      ∨ 160 ≤ s.composer.line.sums.k) →
    e = lineEntry s.intake.job.number (nextCount s.intake.job.linesSet)
      (s.composer.line.over (stripSpaces s.composer.line.items)) .justify false false false →
    ∃ t, EndsIn (exec .interwordSpace s) t ∧ LineFrame [e] s t ∧ StatusStands s t ∧ InUseUpToDate t
      ∧ t.queue = s.queue ++ [s.entryFor (.line e)]
      ∧ t.intake = { (s.consume 0x20).intake with job.linesSet := nextCount s.intake.job.linesSet }
      ∧ t.composer = { s.composer with
          line := Line.empty, noFont := false, word := WordRun.none, pendingMarks := [], ladder := 0 }

/-- JOB with a number outside a job, or in DISCARDING, begins a job: its serial is one more, its counts, sum and flags
are clear, and the format state is at its power-on values (R87, R88). JOB inside a job, and ENDJOB, end the line under
composition LEFT, after the break of a word in LOOKAHEAD (R11, R26), and queue a JOBEND: UNTERMINATED, after which the
new job begins, or COMPLETE with both sums and SUM MISMATCH when they differ, after which the Composer is OUTSIDE JOB
(R87, R89). When one of these entries finds the queue full it is held in QUEUE WAIT and the job is in progress still
(R99, R105). JOB 0 is refused in every state (R87); inside a job its two words enter the galley sum after the refusal,
by the model's reading (log 20). That the sums are compared once the line has been accepted is the model's reading too
(log 44), and so are the marks that a hyphen glyph of that break brings to the report (log 43). A JOB whose operand was still expected at a job abort is dropped (R86, R100). -/
def Obligations.JobsBeginAndEnd : Prop :=
  -- dropped, and refused
  (∀ (s : State) (w : Word), CommandNext s .job w →
    ((s.completedBy w).dropped = true → EndsIn (exec .job s) (s.decoded w))
    ∧ ((s.completedBy w).dropped = false → (s.completedBy w).operand = 0 →
      EndsIn (exec .job s)
        (State.copyError { s.decoded w with
            intake.job.sum :=
              if s.intake.job.inProgress then
                (s.intake.job.sum.rotateLeft 1 + (s.completedBy w).word).rotateLeft 1 + (s.completedBy w).operand
              else s.intake.job.sum }
          .badOperand (s.completedBy w).offset)))
  -- a job begins outside a job
  ∧ (∀ (s : State) (w n : Word), CommandNext s .job w → (s.completedBy w).dropped = false →
    n = (s.completedBy w).operand → n ≠ 0 → s.composer.todo = [] →
    s.composer.state = .outsideJob ∨ s.composer.state = .discarding →
    ∃ t, EndsIn (exec .job s) t ∧ CopyFrame s t ∧ InUseUpToDate t ∧ JobBegun s t n
      ∧ t.queue = s.queue ∧ t.intake = { (s.decoded w).intake with job := t.intake.job })
  -- a job ends
  ∧ ∀ (s : State) (w n : Word) (c : Instr) (o : JobOutcome) (given : Word) (last : Task) (lines : List LineEntry)
      (overset : Bool) (broken : JobFlags), s.composer.todo = [] →
    ((CommandNext s .job w ∧ c = .job ∧ (s.completedBy w).dropped = false ∧ n = (s.completedBy w).operand ∧ n ≠ 0
        ∧ o = .unterminated ∧ given = 0 ∧ last = .beginJob n)
      ∨ (CommandNext s .endjob w ∧ c = .endjob ∧ o = .complete ∧ given = (s.completedBy w).operand
        ∧ last = .leaveJob)) →
    (let left (l : Line) (count : Nat) : List LineEntry :=
      if stripSpaces l.items = [] then []
      else [lineEntry s.intake.job.number (nextCount count) (l.over (stripSpaces l.items)) .left false false false]
    ((s.composer.state = .setting ∧ overset = false ∧ broken = s.intake.job.flags ∧ lines = left s.composer.line s.intake.job.linesSet)
      ∨ (s.composer.state = .lookahead ∧ s.composer.line.items ≠ [] ∧ ∃ b, s.BreakChoice false b ∧ overset = b.overset
        ∧ broken = s.intake.job.flags.afterBreak b ∧ (let next := s.carriedLine b.carried s.composer.line.gov
          next.sums.minWidth ≤ next.measure * 32
            ∧ lines = b.entry :: left next (nextCount s.intake.job.linesSet))))) →
    let flags : JobFlags := { broken with sumMismatch := decide (o = .complete ∧ given ≠ s.intake.job.sum) }
    let count := lines.foldl (fun k _ => nextCount k) s.intake.job.linesSet
    let kinds : List EntryKind := lines.map .line ++ [.jobEnd {
      job := s.intake.job.number, outcome := o, linesSet := count, sumComputed := s.intake.job.sum, sumGiven := given,
      flags := flags }]
    -- the queue has room for all of them
    (s.queue.length + lines.length < 6 →
      ∃ t, EndsIn (exec c s) t ∧ LineFrame lines s t ∧ BreakStatus s t overset s.composer.line.items ∧ InUseUpToDate t
        ∧ t.queue = s.queue ++ s.entriesFor kinds ∧ t.intake = { (s.decoded w).intake with job := t.intake.job }
        ∧ (c = .job → JobBegun s t n)
        ∧ (c = .endjob →
          t.composer = { s.composer with
            state := .outsideJob, line := Line.empty, word := WordRun.none, noFont := false, pendingMarks := [],
            ladder := ladderAfter s.composer.ladder lines }
          ∧ t.intake.job = { s.intake.job with inProgress := false, linesSet := count, flags := flags }))
    -- entry `k` of them finds it full
    ∧ ∀ (k : Nat) (held : EntryKind), kinds[k]? = some held → 6 ≤ s.queue.length + k →
      (k = 0 ∨ s.queue.length + k = 6) →
      ∃ t, EndsIn (exec c s) t ∧ LineFrame (lines.take k) s t ∧ BreakStatus s t overset s.composer.line.items
        ∧ InUseUpToDate t ∧ t.queue = s.queue ++ (s.entriesFor kinds).take k ∧ t.composer.state = .queueWait
        ∧ t.composer.held = some (.entry held) ∧ t.composer.todo.getLast? = some last
        ∧ t.composer.pendingMarks = (if k = 0 then s.composer.pendingMarks else [])
        ∧ t.composer.ladder = ladderAfter s.composer.ladder (lines.take k)
        ∧ t.intake.job.inProgress = s.intake.job.inProgress ∧ t.intake.job.number = s.intake.job.number
        ∧ t.intake.job.serial = s.intake.job.serial

/-- MEASURE and LEAD set the value in the format state and leave the line under composition alone; a value above the
range is clamped with CLAMPED set in the report, and a MEASURE of 0 is refused (R7, R91, R102). SIZE resolves the size
asked: a lens of that size, else the largest below it, else the smallest of all, with the substitution marked; a size
of 0 is refused (R73, R92). -/
def Obligations.MeasureLeadAndSize : Prop :=
  ∀ (s : State) (w : Word) (v : Nat), s.composer.state = .setting ∨ s.composer.state = .lookahead →
    (CommandNext s .measure w → v = (s.completedBy w).operand.toNat →
      EndsIn (exec .measure s)
        (if v = 0 then (s.decoded w).copyError .badOperand (s.completedBy w).offset
        else if v ≤ 10080 then { s.decoded w with composer.measure := v }
        else { s.decoded w with
          composer.measure := 10080
          intake.job.flags.clamped := s.intake.job.inProgress || s.intake.job.flags.clamped }))
    ∧ (CommandNext s .lead w → v = (s.completedBy w).operand.toNat →
      EndsIn (exec .lead s)
        (if v ≤ 2880 then { s.decoded w with composer.lead := v }
        else { s.decoded w with
          composer.lead := 2880
          intake.job.flags.clamped := s.intake.job.inProgress || s.intake.job.flags.clamped }))
    ∧ (CommandNext s .size w → v = (s.completedBy w).inline →
      if v = 0 then EndsIn (exec .size s) ((s.decoded w).copyError .badOperand (s.completedBy w).offset)
      else ∃ (i : Fin 8) (sub : Bool),
        EndsIn (exec .size s) { s.decoded w with
          composer.sizeAsked := v
          composer.lens := i
          composer.lensSize := s.font.lenses[i]
          composer.sizeSub := sub }
        ∧ LensServes s.font.lenses v i sub)

/-- QUAD ends the line with its alignment: the line's items, without the interword spaces at their end, make a LINE
entry (R11, R20, R93, R105); a line without items makes an empty one with the lead and size in effect (R11). The entry
takes the pending marks, the lines set go up, the ladder count is 0 (R36), the line under composition is empty, and the
ages of the MOUNTED and FIXED entries follow (R50), with the rest of the position table as it was. With six entries in the queue
the entry is held in QUEUE WAIT (R105). An inline value above 3 is refused (R93). How an ended line is set is stated of
every LINE entry made from items, whatever ends the line: the alignment set (R12), the letterspace (R13, R16), the widths
of the interword spaces (R14), the start offset (R17), the LOOSE and TIGHT flags (R15, R16), the escapement position of
each item and the right edge (R18, R19), and the fields and flags handed on (R20), each from sums counted afresh over the
items (R8, R9). -/
def Obligations.QuadEndsTheLine : Prop :=
  (∀ (s : State) (w : Word) (a : Align), CommandNext s .quad w → ReadyToSet s →
    quadAlign (s.completedBy w).inline = some a →
    (let e := s.endedLine s.composer.line (nextCount s.intake.job.linesSet) a
    (s.queue.length < 6 →
      ∃ t, EndsIn (exec .quad s) t ∧ LineFrame [e] s t ∧ StatusStands s t ∧ InUseUpToDate t
        ∧ t.queue = s.queue ++ [s.entryFor (.line e)]
        ∧ t.composer = { s.composer with
            line := Line.empty, noFont := false, word := WordRun.none, pendingMarks := [], ladder := 0 }
        ∧ t.intake = { (s.decoded w).intake with job.linesSet := nextCount s.intake.job.linesSet })
    ∧ (6 ≤ s.queue.length →
      ∃ t, EndsIn (exec .quad s) t ∧ CopyFrame s t ∧ InUseUpToDate t ∧ t.queue = s.queue
        ∧ t.intake = (s.decoded w).intake
        ∧ t.composer = { s.composer with
            line := Line.empty
            noFont := false
            word := WordRun.none
            state := .queueWait
            held := some (.entry (.line e)) })))
  ∧ (∀ (s : State) (w : Word), CommandNext s .quad w → s.composer.state = .setting ∨ s.composer.state = .lookahead →
    3 < (s.completedBy w).inline →
    EndsIn (exec .quad s) ((s.decoded w).copyError .badOperand (s.completedBy w).offset))
  -- the interword spaces at a line's end (R11)
  ∧ (∀ items : List Item, ∃ tail, items = stripSpaces items ++ tail ∧ (∀ x ∈ tail, x.isSpace = true)
    ∧ ∀ x, (stripSpaces items).getLast? = some x → x.isSpace = false)
  -- how a line is set
  ∧ (∀ (job : Word) (number : Nat) (l : Line) (items : List Item) (a : Align) (overset hyphenated loose : Bool),
    let spaces := items.filterMap (fun i => match i with
      | .space _ mn nrm mx => some (mn, nrm, mx)
      | _ => none)
    let n := spaces.length
    let mn := (spaces.map (fun x => x.1)).sum
    let nrm := (spaces.map (fun x => x.2.1)).sum
    let mx := (spaces.map (fun x => x.2.2)).sum
    let c := (items.map Item.fixedWidth).sum
    let pairs (j : Nat) : Nat := ((List.range j).filter (fun i =>
      (items[i]?).any Item.isChar && (items[i + 1]?).any Item.isChar)).length
    let g := pairs items.length
    let extra : Int := (l.measure * 32 : Nat) - (c + nrm : Nat)
    let stretch : Int := mx - nrm
    let limit : Int := match l.gov with
      | some f => f.limit * l.govSize * 5
      | none => 0
    let al : Align := if overset then .left else if extra < 0 then .justify else a
    let ls : Int :=
      if al ≠ .justify then 0
      else if 0 < n then (if stretch < extra ∧ 0 < limit ∧ 0 < g then min limit ((extra - stretch) / g) else 0)
      else if 0 < g then min limit (extra / g) else 0
    let left : Int := extra - ls * g
    let start : Int := match al with
      | .left | .justify => 0
      | .right => extra
      | .centre => extra / 2
    let width (j : Nat) : Int := match items[j]? with
      | some (.space _ _ w _) =>
        if al = .justify then
          w + left / n + (if (((items.take j).filter Item.isSpace).length : Int) < left % n then 1 else 0)
        else w
      | some i => i.fixedWidth
      | none => 0
    let at' (j : Nat) : Int := start + ((List.range j).map width).sum + ls * pairs j
    let edge := (setLine (l.over items) a overset).edge
    sumsOf items = { c := c, n := n, nrm := nrm, mn := mn, mx := mx, g := g, k := items.length }
      ∧ lineEntry job number (l.over items) a overset hyphenated loose =
        { job := job, number := number, align := al, lead := l.lead, gov := l.gov, govSize := l.govSize,
          items := items.mapIdx (fun j i => { item := i, pos := (at' j + 16) / 32, width := width j }),
          flags := {
            hyphenated := hyphenated
            loose := loose || decide (al = .justify ∧ if 0 < n then stretch < extra else 0 < left)
            tight := decide (al = .justify ∧ 0 < n ∧ extra < 0)
            overset := overset
            fontSub := items.any (fun i => i.attr?.any (·.fontSub))
            sizeSub := items.any (fun i => i.attr?.any (·.sizeSub))
            missing := items.any Item.isMissing } }
      ∧ edge = at' items.length
      ∧ (al = .justify → 0 < n → edge = (l.measure * 32 : Nat)))
  -- an empty LINE entry (R11)
  ∧ ∀ (job : Word) (number : Nat) (a : Align) (lead size : Nat) (overset : Bool),
    emptyLineEntry job number a lead size overset =
      { job := job, number := number, align := a, lead := lead, gov := none, govSize := size, items := [],
        flags := { hyphenated := false, loose := false, tight := false, overset := overset, fontSub := false,
                   sizeSub := false, missing := false } }

/-- FONT in a job, in SETTING and in LOOKAHEAD, when at most one entry holds its font (R26, R51 to R54, R92): selection
when that entry is MOUNTED or FIXED; FONT WAIT on it when it is REQUESTED or LOADING; substitution when it is REFUSED. With
no such entry, a call at the position R52 chooses, naming the font to remove, and FONT WAIT on it: the home position if it is
VACANT or REFUSED, else the lowest such position, else of the MOUNTED positions not in use the oldest, the home position
first among equals. With no position to choose, FONT WAIT for one while the queue can free one by draining, and else
substitution at once (R53). A number outside 1..999 is refused. That the call's ALARM goes out whether or not another call is
out is the model's reading (log 11). -/
def Obligations.FontResolves : Prop :=
  ∀ (s : State) (w : Word) (n : Nat), CommandNext s .font w →
    s.composer.state = .setting ∨ s.composer.state = .lookahead → n = (s.completedBy w).operand.toNat →
    let waiting (target : WaitTarget) : State :=
      State.mark { s.decoded w with
          composer.state := .fontWait
          composer.fontWait := some { font := n, target := target, char := none,
                                      inLookahead := decide (s.composer.state = .lookahead) } }
        [5]
    ((n = 0 ∨ 999 < n) → EndsIn (exec .font s) ((s.decoded w).copyError .badOperand (s.completedBy w).offset))
    ∧ (1 ≤ n → n ≤ 999 →
      -- an entry holds the font
      (∀ p : Fin 8, s.FontHeldAt n p →
        (s.font.table[p].ready = true →
          EndsIn (exec .font s)
            { s.decoded w with composer.current := some { font := n, pos := p }, composer.fontSub := false })
        ∧ (s.font.table[p].state = .requested ∨ s.font.table[p].state = .loading →
          EndsIn (exec .font s) (waiting (.entry p none))))
      -- a position is called
      ∧ (∀ p : Fin 8, s.FontPlace n p →
        ∃ t, EndsIn (exec .font s) t ∧ FontCalled s t n p
          ∧ (∀ q : Fin 8, t.font.table[q].inUse = s.font.table[q].inUse)
          ∧ t.composer = (waiting (.entry p none)).composer ∧ t.intake = (s.decoded w).intake)
      -- none can be called, or the font is barred
      ∧ (s.composer.held = none → s.composer.todo = [] →
        (s.FontNoPlace n → s.QueueCanFree → EndsIn (exec .font s) (waiting (.position false)))
        ∧ (s.FontSubstituted n → EndsIn (exec .font s) { s.decoded w with composer.fontSub := true })))

/-- HYPH sets the four settings, each clamped to its range with CLAMPED set inside a job when one is (R43, R102). EXCEPT
adds an entry for a new word after the last while there is room, and is refused DICTIONARY FULL when there is none; for a
word the dictionary holds it replaces the entry in its place, full or not. UNEXCEPT takes the word's entry out. An EXCEPT
or UNEXCEPT whose letter count is outside 2..24 or that has a character that is no letter is refused, and an EXCEPT with
positions beside the never mark, without it none or more than 23 of them, a position outside the word, or positions that do
not increase (R45, R46). -/
def Obligations.HyphenatorCommands : Prop :=
  (∀ (s : State) (w v : Word), CommandNext s .hyph w → v = (s.completedBy w).operand → s.composer.state ≠ .discarding →
    EndsIn (exec .hyph s)
      (let left := v.toNat / 256 % 16
      let right := v.toNat / 16 % 16
      let ladder := v.toNat % 16
      { s.decoded w with
        hyph := { s.hyph with
          on := v.getLsbD 15, leftMin := max 1 (min 7 left), rightMin := max 1 (min 7 right),
          ladderLimit := min 9 ladder }
        intake.job.flags.clamped := s.intake.job.flags.clamped ||
          (s.intake.job.inProgress && (left == 0 || 7 < left || right == 0 || 7 < right || 9 < ladder)) }))
  ∧ (∀ (s : State) (w : Word), s.composer.state ≠ .discarding →
    (CommandNext s .exceptWord w ∨ CommandNext s .unexcept w) →
    (let d := s.completedBy w
    let word := d.values.map foldLetter
    let bad := (s.decoded w).copyError .badOperand d.offset
    -- a word out of range
    let badWord : Prop := d.inline < 2 ∨ 24 < d.inline
      ∨ ∃ c ∈ d.values, ¬ (0x41 ≤ c ∧ c ≤ 0x5A ∨ 0x61 ≤ c ∧ c ≤ 0x7A)
    (badWord → CommandNext s .exceptWord w → EndsIn (exec .exceptWord s) bad)
    ∧ (badWord → CommandNext s .unexcept w → EndsIn (exec .unexcept s) bad)
    ∧ (¬ badWord → CommandNext s .unexcept w →
      EndsIn (exec .unexcept s)
        (State.markIf { s.decoded w with hyph.dictionary := s.hyph.dictionary.filter (fun e => e.word != word) }
          (s.hyph.dictionary.any (fun e => e.word == word)) [24]))
    -- EXCEPT of a word in range, with its never mark and its positions
    ∧ (∀ (count : Word) (n : Nat) (never : Bool) (positions : List Nat), ¬ badWord → CommandNext s .exceptWord w →
      count = (d.operands.drop ((d.inline + 1) / 2)).headD 0 → n = count.toNat % 32 → never = count.getLsbD 15 →
      positions = valuesOf (d.operands.drop ((d.inline + 1) / 2 + 1)) n →
      let badPositions : Prop := (never = true ∧ n ≠ 0) ∨ (never = false ∧ (n = 0 ∨ 23 < n))
        ∨ (∃ i ∈ positions, i = 0 ∨ d.inline ≤ i) ∨ ¬ positions.Pairwise (· < ·)
      let e : DictEntry := { word := word, never := never, positions := positions }
      (badPositions → EndsIn (exec .exceptWord s) bad)
      ∧ (¬ badPositions → (∀ x ∈ s.hyph.dictionary, x.word ≠ word) →
        EndsIn (exec .exceptWord s)
          (if s.hyph.dictionary.length < 512 then
            State.mark { s.decoded w with hyph.dictionary := s.hyph.dictionary ++ [e] } [24]
          else State.raise ((s.decoded w).copyError .dictionaryFull d.offset) .dictionaryFull))
      ∧ (∀ (before after : List DictEntry) (x : DictEntry), ¬ badPositions →
        s.hyph.dictionary = before ++ x :: after → x.word = word → (∀ y ∈ before ++ after, y.word ≠ word) →
        EndsIn (exec .exceptWord s) { s.decoded w with hyph.dictionary := before ++ e :: after }))))

/-- LENSES is refused while the queue or the line holds anything, and with a size outside 10..144; that BUSY comes first
when both hold is the model's reading (log 31). Otherwise the lens list takes the eight sizes and the size asked is
resolved again (R72, R73). MOUNT of a position outside 0..7 or a font number outside 1..999 is refused BAD OPERAND (R96),
before the position in use is looked at (log 50); of a position in use, or of a font that another position holds, REFUSED
MOUNT. Else it acts by the state of the entry (R63): MOUNTED or FIXED with the font becomes FIXED or MOUNTED by the FIX mark;
REQUESTED for it takes the marks, its call going on; LOADING it takes the FIX mark, its fetch going on; any other becomes
REQUESTED with the marks given, its call, its fetch and its width record gone, an entry REFUSED for the font elsewhere
VACANT, and a call is made that names the font to remove (R48, R57, R59, R61); that its ALARM goes out whether or not
another call is out is the model's reading (log 11). RELEASE of a position outside 0..7 is refused
BAD OPERAND, of a position in use REFUSED RELEASE; a VACANT one is left as it is, and any other becomes VACANT, its call and
its fetch gone (R61, R64). -/
def Obligations.LensesMountAndRelease : Prop :=
  (∀ (s : State) (w : Word), CommandNext s .lenses w → s.composer.state ≠ .discarding →
    (s.queue ≠ [] ∨ s.composer.line.items ≠ [] →
      EndsIn (exec .lenses s) ((s.decoded w).copyError .lensesBusy (s.completedBy w).offset))
    ∧ (s.queue = [] → s.composer.line.items = [] →
      (let sizes := valuesOf (s.completedBy w).operands 8
      ((∃ h ∈ sizes, h < 10 ∨ 144 < h) →
        EndsIn (exec .lenses s) ((s.decoded w).copyError .badOperand (s.completedBy w).offset))
      ∧ ((∀ h ∈ sizes, 10 ≤ h ∧ h ≤ 144) →
        ∃ t, EndsIn (exec .lenses s) t ∧ (∀ i : Fin 8, t.font.lenses[i] = sizes.getD i.val 0)
          ∧ t.composer.sizeAsked = s.composer.sizeAsked ∧ t.composer.lensSize = t.font.lenses[t.composer.lens]
          ∧ LensServes t.font.lenses s.composer.sizeAsked t.composer.lens t.composer.sizeSub
          ∧ t.font.table = s.font.table ∧ t.font.widths = s.font.widths ∧ t.mem = s.mem ∧ t.seq = s.seq
          ∧ t.panel = s.panel ∧ t.proof = s.proof ∧ t.hyph = s.hyph ∧ t.intake = (s.decoded w).intake))))
  -- MOUNT
  ∧ (∀ (s : State) (w v : Word) (n : Nat), CommandNext s .mount w → s.composer.state ≠ .discarding →
    v = (s.completedBy w).operand → n = v.toNat % 1024 →
    let d := s.completedBy w
    ((8 ≤ d.inline ∨ n = 0 ∨ 999 < n) → EndsIn (exec .mount s) ((s.decoded w).copyError .badOperand d.offset))
    ∧ ∀ p : Fin 8, p.val = d.inline → 1 ≤ n → n ≤ 999 →
      let e := s.font.table[p]
      let fix := v.getLsbD 15
      let wait := v.getLsbD 14
      let holds (q : Fin 8) : Prop :=
        s.font.table[q].font = n ∧ (s.font.table[q].state = .requested ∨ s.font.table[q].state = .loading
          ∨ s.font.table[q].state = .mounted ∨ s.font.table[q].state = .fixed)
      let withEntry (x : Position) : State := { s.decoded w with font.table := s.font.table.set p x }
      ((0 < e.inUse ∨ ∃ q, q ≠ p ∧ holds q) →
        EndsIn (exec .mount s) ((s.decoded w).copyError .refusedMount d.offset))
      ∧ (e.inUse = 0 → (∀ q, q ≠ p → ¬ holds q) →
        (e.font = n → e.state = .mounted ∨ e.state = .fixed →
          ∃ t, EndsIn (exec .mount s) t
            ∧ t = { withEntry { e with state := if fix then .fixed else .mounted } with
                composer.fontWait := t.composer.fontWait
                status.marks := t.status.marks }
            ∧ (s.composer.fontWait = none → t.composer.fontWait = none))
        ∧ (e.font = n → e.state = .requested →
          EndsIn (exec .mount s) (withEntry { e with fix := fix, wait := wait, origin := some .mount }))
        ∧ (e.font = n → e.state = .loading →
          EndsIn (exec .mount s) (withEntry { e with fix := fix, origin := some .mount }))
        -- any other
        ∧ (¬ holds p → (e.state = .loading → s.port.disabled.library = false) →
          let fetches := s.font.fetchList.filter (· ≠ p)
          let inFlight : Prop := e.state = .loading ∧ s.font.fetchList.head? = some p
          let remove := e.toRemove
          ∃ t, EndsIn (exec .mount s) t
            ∧ t.font.table[p] =
              { font := n, state := .requested, reason := none, age := 0, inUse := 0, callStep := 0, wait := wait,
                fix := fix, remove := remove, timer := some 5, origin := some .mount }
            ∧ t.font.widths[p] = none
            ∧ (∀ q : Fin 8, q ≠ p →
              let cleared : Prop := s.font.table[q].state = .refused ∧ s.font.table[q].font = n
              (cleared → t.font.table[q] = { Position.vacant with inUse := s.font.table[q].inUse }
                ∧ t.font.widths[q] = none)
              ∧ (¬ cleared → t.font.table[q] = s.font.table[q] ∧ t.font.widths[q] = s.font.widths[q]))
            ∧ t.font.lenses = s.font.lenses
            ∧ t.font.fetchList = (if e.state = .loading then fetches else s.font.fetchList)
            ∧ t.font.fetch = (if inFlight then if fetches = [] then none else some (.search 0) else s.font.fetch)
            ∧ t.port.requests = (if inFlight then { s.port.requests with
                library := s.port.requests.library.map (fun q => { q with stale := true }) } else s.port.requests)
            ∧ t.panel.calls = s.panel.calls.filter (· ≠ p) ++ [p] ∧ t.panel.alarm = .sounding
            ∧ t.flagSet .mountCall = true ∧ .mountCall p n remove ∈ t.panel.unsent ∧ .alarm .sound ∈ t.panel.unsent
            ∧ t.panel.ownership = s.panel.ownership ∧ t.queue = s.queue ∧ t.mem = s.mem ∧ t.seq = s.seq
            ∧ t.intake = (s.decoded w).intake ∧ t.hyph = s.hyph ∧ t.proof = s.proof ∧ t.exposure = s.exposure)))
  -- RELEASE
  ∧ (∀ (s : State) (w : Word), CommandNext s .release w → s.composer.state ≠ .discarding →
    let d := s.completedBy w
    (8 ≤ d.inline → EndsIn (exec .release s) ((s.decoded w).copyError .badOperand d.offset))
    ∧ ∀ p : Fin 8, p.val = d.inline →
      let e := s.font.table[p]
      let fetches := s.font.fetchList.filter (· ≠ p)
      let inFlight : Prop := e.state = .loading ∧ s.font.fetchList.head? = some p
      let called : Prop := e.state = .requested ∧ p ∈ s.panel.calls
      (0 < e.inUse → EndsIn (exec .release s) ((s.decoded w).copyError .refusedRelease d.offset))
      ∧ (e.inUse = 0 → e.state = .vacant → EndsIn (exec .release s) (s.decoded w))
      ∧ (e.inUse = 0 → e.state ≠ .vacant → (e.state = .loading → s.port.disabled.library = false) →
        ∃ t, EndsIn (exec .release s) t ∧ t.font.table = s.font.table.set p Position.vacant
          ∧ t.font.widths = s.font.widths.set p none ∧ t.font.lenses = s.font.lenses
          ∧ t.font.fetchList = (if e.state = .loading then fetches else s.font.fetchList)
          ∧ t.font.fetch = (if inFlight then if fetches = [] then none else some (.search 0) else s.font.fetch)
          ∧ t.port.requests = (if inFlight then { s.port.requests with
              library := s.port.requests.library.map (fun q => { q with stale := true }) } else s.port.requests)
          ∧ (called → t.panel.calls = s.panel.calls.filter (· ≠ p)
            ∧ t.panel.alarm = (if t.panel.calls = [] then .silent else s.panel.alarm)
            ∧ (∀ n remove, .mountCall p n remove ∉ t.panel.outbound)
            ∧ (∃ line1, ReadsOnLine1 t none line1 ∧ .display line1 s.panel.hostLine ∈ t.panel.unsent))
          ∧ (¬ called → t.panel = s.panel)
          ∧ t.status.flags = s.status.flags ∧ t.queue = s.queue ∧ t.mem = s.mem ∧ t.seq = s.seq
          ∧ t.intake = (s.decoded w).intake ∧ t.hyph = s.hyph ∧ t.proof = s.proof ∧ t.exposure = s.exposure))

/-- ADVANCE and REVERSE queue a MOVE of plus or minus their operand and CUT a CUT, outside a job or on a line without
items (R97, R105). An operand above 14,400 is clamped, with CLAMPED set inside a job; an operand of 0 is refused. -/
def Obligations.FilmCommandsQueueEntries : Prop :=
  ∀ (s : State) (w : Word) (v : Nat) (k : EntryKind) (c : Instr),
    (s.composer.state = .outsideJob ∨ s.composer.state = .setting) → s.composer.todo = [] →
    ((CommandNext s .advance w ∧ c = .advance ∧ v = (s.completedBy w).operand.toNat ∧ k = .move (min 14400 v : Nat))
      ∨ (CommandNext s .reverse w ∧ c = .reverse ∧ v = (s.completedBy w).operand.toNat
        ∧ k = .move (-(min 14400 v : Nat)))
      ∨ (CommandNext s .cut w ∧ c = .cut ∧ v = 1 ∧ k = .cut)) →
    (v = 0 → EndsIn (exec c s) ((s.decoded w).copyError .badOperand (s.completedBy w).offset))
    ∧ (v ≠ 0 → s.composer.line.items = [] → s.queue.length < 6 →
      ∃ t, EndsIn (exec c s) t ∧ CopyFrame s t ∧ t.queue = s.queue ++ [s.entryFor k]
        ∧ t.composer.state = s.composer.state ∧ t.composer.pendingMarks = [] ∧ t.composer.line = Line.empty
        ∧ t.intake = { (s.decoded w).intake with
            job.flags.clamped := s.intake.job.flags.clamped || (s.intake.job.inProgress && decide (14400 < v)) })

/-- PROOF sets the mode for the entries queued from now on and a value above 2 is refused (R98, R152). DISPLAY replaces
the host line, a character that is no text code by a question mark, and makes a SHOW; a length above 32 is refused
(R98, R146). Line 1 reads as R144 says; that a SHOW made on a free link begins at once, and that one being sent is not
replaced, is the model's reading (log 10). MARK inside a job joins the pending marks while there are fewer than four. A fifth
first ends the line under composition LEFT, which takes the four, with an entry even of a line without items, and is then the
single pending mark; a full queue holds that line in QUEUE WAIT, with the fifth mark to be added (R106). In LOOKAHEAD it ends
the word first (R26): that it then also ends the line that the carried items begin, as R106 says and R26 does not, is the
model's reading (log 17), and so are the marks that a hyphen glyph of the break brings to the report (log 43). A MARK outside a job goes to the end of the mark list of the last entry queued, or is held in QUEUE
WAIT when that list holds four, unless the entry is EXPOSED or the queue is empty: then it is posted at once (R106, R109). -/
def Obligations.ProofDisplayAndMark : Prop :=
  (∀ (s : State) (w : Word), CommandNext s .proofMode w → s.composer.state ≠ .discarding →
    EndsIn (exec .proofMode s)
      (match (s.completedBy w).inline with
      | 0 => State.markIf { s.decoded w with proof.mode := .off } (s.proof.mode != .off) [229]
      | 1 => State.markIf { s.decoded w with proof.mode := .attached } (s.proof.mode != .attached) [229]
      | 2 => State.markIf { s.decoded w with proof.mode := .detached } (s.proof.mode != .detached) [229]
      | _ => (s.decoded w).copyError .badOperand (s.completedBy w).offset))
  ∧ (∀ (s : State) (w : Word), CommandNext s .display w → s.composer.state ≠ .discarding →
    (32 < (s.completedBy w).inline →
      EndsIn (exec .display s) ((s.decoded w).copyError .badOperand (s.completedBy w).offset))
    ∧ ((s.completedBy w).inline ≤ 32 →
      let text := (s.completedBy w).values.map (fun c => if 0x20 ≤ c ∧ c ≤ 0x7E then c else 0x3F)
      ∃ line1, ReadsOnLine1 s none line1 ∧ EndsIn (exec .display s)
        (State.linked { s.decoded w with
          panel.hostLine := text
          panel.outbound := s.panel.outbound.filter (fun m => !m.isDisplay) ++ [.display line1 text] })))
  ∧ ∀ (s : State) (w v : Word), CommandNext s .mark w → v = (s.completedBy w).operand →
    (s.composer.state = .setting ∨ s.composer.state = .lookahead → s.composer.pendingMarks.length < 4 →
      EndsIn (exec .mark s) { s.decoded w with composer.pendingMarks := s.composer.pendingMarks ++ [v] })
    -- a fifth pending mark
    ∧ (4 ≤ s.composer.pendingMarks.length → s.composer.todo = [] →
      let number := nextCount s.intake.job.linesSet
      let ended : Composer := { s.composer with line := Line.empty, noFont := false, word := WordRun.none }
      (s.composer.state = .setting →
        let e := s.endedLine s.composer.line number .left
        (s.queue.length < 6 →
          ∃ t, EndsIn (exec .mark s) t ∧ LineFrame [e] s t ∧ StatusStands s t ∧ InUseUpToDate t
            ∧ t.queue = s.queue ++ [s.entryFor (.line e)] ∧ t.composer = { ended with pendingMarks := [v], ladder := 0 }
            ∧ t.intake = { (s.decoded w).intake with job.linesSet := number })
        ∧ (6 ≤ s.queue.length →
          ∃ t, EndsIn (exec .mark s) t ∧ CopyFrame s t ∧ InUseUpToDate t ∧ t.queue = s.queue
            ∧ t.intake = (s.decoded w).intake
            ∧ t.composer = { ended with
                state := .queueWait, held := some (.entry (.line e)), todo := [.addMark v] }))
      ∧ (s.composer.state = .lookahead → s.composer.line.items ≠ [] → ∀ b, s.BreakChoice false b →
        let next := s.carriedLine b.carried s.composer.line.gov
        let lines := [b.entry, s.endedLine next (nextCount number) .left]
        next.sums.minWidth ≤ next.measure * 32 → s.queue.length < 5 →
        ∃ t, EndsIn (exec .mark s) t ∧ LineFrame lines s t ∧ BreakStatus s t b.overset s.composer.line.items
          ∧ InUseUpToDate t ∧ t.queue = s.queue ++ s.entriesFor (lines.map .line)
          ∧ t.composer = { ended with
              state := .setting, pendingMarks := [v], ladder := ladderAfter s.composer.ladder lines }
          ∧ t.intake = { (s.decoded w).intake with
              job.linesSet := nextCount number, job.flags := s.intake.job.flags.afterBreak b }))
    -- outside a job
    ∧ (s.composer.state = .outsideJob →
      ((∀ e, s.queue.getLast? = some e → e.photo = .exposed) →
        EndsIn (exec .mark s)
          (State.raise
            (State.mark { s.decoded w with
                status.markValue := v
                status.markCount := s.status.markCount + 1 }
              [80, 81])
            .markReached))
      ∧ ∀ (before : List Entry) (e : Entry), s.queue = before ++ [e] → e.photo ≠ .exposed →
        (e.marks.length < 4 →
          EndsIn (exec .mark s) { s.decoded w with queue := before ++ [{ e with marks := e.marks ++ [v] }] })
        ∧ (4 ≤ e.marks.length →
          EndsIn (exec .mark s)
            (State.mark { s.decoded w with composer.state := .queueWait, composer.held := some (.mark v) } [5])))


/-! ### The ends of waits (Chapters 3 and 5) -/

/-- An entry held in QUEUE WAIT is accepted once the queue has room, with the pending marks, and the Composer goes on
(R99, R105). A LINE brings the ages of the MOUNTED and FIXED entries (R50) and the ladder count (R36) with it, past 255 a free value (log 13); any other
entry leaves both as they were. A MARK held outside a job is posted once the last entry queued is exposed, and the Composer is OUTSIDE JOB
again (R106, R109). -/
def Obligations.HeldWorkGoesOn : Prop :=
  (∀ (s : State) (k : EntryKind), Quiet s → s.composer.held = some (.entry k) → s.queue.length < 6 →
    s.composer.todo = [] →
    ∀ lines : List LineEntry, ((∃ l, k = .line l ∧ lines = [l]) ∨ ((∀ l, k ≠ .line l) ∧ lines = [])) →
    ∃ t, EndsIn (exec .heldEntryAccepted s) t ∧ LineFrame lines s t ∧ StatusStands s t ∧ InUseUpToDate t
      ∧ t.queue = s.queue ++ [s.entryFor k]
      ∧ t.composer = { s.composer with
          held := none, pendingMarks := [], ladder := ladderAfter s.composer.ladder lines
          state := if s.intake.job.inProgress then .setting else .outsideJob }
      ∧ t.intake = { s.intake with
          job.linesSet := if lines = [] then s.intake.job.linesSet else nextCount s.intake.job.linesSet })
  ∧ ∀ (s : State) (v : Word), Quiet s → s.composer.held = some (.mark v) → s.composer.state = .queueWait →
    s.intake.job.inProgress = false → (∀ e, s.queue.getLast? = some e → e.photo = .exposed) →
    EndsIn (exec .markWaitEnd s)
      (State.mark
        { State.raise
            (State.mark { s with
                composer.held := none
                status.markValue := v
                status.markCount := s.status.markCount + 1 }
              [80, 81])
            .markReached with
          composer.state := .outsideJob }
        [5])

/-- A FONT WAIT of a FONT command ends (R53 to R56): in selection, which makes the font current and ends the FONT
SUBSTITUTED marking, or in substitution, which keeps the current font and begins the marking. The Composer returns to
the state the wait began in. A wait for a position that is resolved again selects the font when one position holds it
MOUNTED or FIXED. How a wait ended is fixed when its entry leaves REQUESTED and LOADING (logs 21, 36). -/
def Obligations.FontWaitEnds : Prop :=
  ∀ (s : State) (w : FontWait) (p : Fin 8) (selected : Bool) (c : Instr), Quiet s → s.composer.fontWait = some w →
    w.char = none → s.composer.todo = [] →
    ((c = .fontWaitEnd ∧ w.target = .entry p (some selected))
      ∨ (c = .fontPositionRerun ∧ w.target = .position true ∧ selected = true ∧ s.font.table[p].font = w.font
        ∧ s.font.table[p].ready = true
        ∧ ∀ q : Fin 8, q ≠ p → s.font.table[q].font = w.font → s.font.table[q].state = .vacant)) →
    ∃ t, EndsIn (exec c s) t ∧ CopyFrame s t ∧ t.queue = s.queue ∧ t.intake = s.intake ∧ InUseUpToDate t
      ∧ t.composer = { s.composer with
          fontWait := none
          current := if selected then some { font := w.font, pos := p } else s.composer.current
          fontSub := !selected
          state := if w.inLookahead then .lookahead else .setting }

/-- The call timer of a REQUESTED entry (R58): before step 4 the call is shown again and the next step's interval is
twice the last; at step 4 with the WAIT mark it is shown again and stays at step 4; at step 4 without it the entry
becomes REFUSED, TIMEOUT, the call ends and MOUNT REFUSED is raised. That ALARM goes out with every repeat is the model's
reading (log 11), and so is that a message made on a free link begins at once and that one being sent is not replaced
(log 10). -/
def Obligations.CallTimerExpires : Prop :=
  ∀ (s : State) (p : Fin 8), Quiet s → s.font.table[p].state = .requested →
    let e := s.font.table[p]
    let called := State.linked { s with
      panel.outbound := s.panel.outbound.filter (fun m => !PanelMessage.isCallFor p m) ++ [.mountCall p e.font e.remove] }
    let shown := State.linked { called with
      panel.outbound := called.panel.outbound.filter (fun m => !m.isAlarm) ++ [.alarm .sound] }
    (e.callStep < 4 →
      EndsIn (exec (.callTimerExpiry p) s)
        { shown with
          font.table := s.font.table.set p
            { e with callStep := e.callStep + 1, timer := some (5 * 2 ^ (e.callStep + 1)) } })
    ∧ (e.callStep = 4 → e.wait = true →
      EndsIn (exec (.callTimerExpiry p) s)
        { shown with font.table := s.font.table.set p { e with callStep := 4, timer := some 80 } })
    ∧ (e.callStep = 4 → e.wait = false →
      ∃ t, EndsIn (exec (.callTimerExpiry p) s) t
        ∧ t.font = { s.font with table := s.font.table.set p { e with
            state := .refused, reason := some .timeout, age := 0, callStep := 0, wait := false, fix := false,
            origin := none, remove := none, timer := none } }
        ∧ t.flagSet .mountRefused = true ∧ t.panel.calls = s.panel.calls.filter (· ≠ p) ∧ t.queue = s.queue
        ∧ t.mem = s.mem ∧ t.seq = s.seq ∧ t.intake = s.intake ∧ t.proof = s.proof)

/-! ### The photounit (Chapter 6) -/

/-- An entry is started when the Sequencer is IDLE in COPY and one is WAITING (R116): it is IN EXPOSURE, and its film
work is ordered with the deadline of the motion (R117, R119, R120), a forward move when the film is long enough (R127),
a reverse move no further than the last cut (R128). A forward move longer than the film remaining, for a LINE's lead or
a MOVE, halts FILM LOW in PANEL ownership and orders nothing (R123, R127, R137). A LINE of lead 0 goes straight to its
first character item, with the shift, lens change or step it needs (R117). A LINE of lead 0 without character items, a
reverse MOVE with nothing to run back, and a JOBEND, with the report written from it, are completed as they are started
(R109, R112, R116, R119). -/
def Obligations.EntryStarts : Prop :=
  ∀ (s : State) (e : Entry), Quiet s → s.seq.state = .idle → s.panel.ownership = .copy → s.queue = [e] →
    e.photo = .waiting →
    ∃ t, EndsIn (exec .entryStart s) t
      ∧ (∀ (a : Action) (o : Order) (x : SeqState) (d : Nat),
        ((∃ l, e.kind = .line l ∧ 0 < l.lead ∧ (l.lead : Int) ≤ s.seq.film.remaining ∧ a = .leadMove
            ∧ o = .move l.lead false ∧ x = .moving ∧ d = 10)
          ∨ (∃ m, e.kind = .move m ∧ 0 < m ∧ m ≤ s.seq.film.remaining ∧ a = .filmMove ∧ o = .move m false
            ∧ x = .moving ∧ d = 10)
          ∨ (∃ m, e.kind = .move m ∧ m < 0 ∧ 0 < s.seq.film.position ∧ a = .filmMove
            ∧ o = .move (-(min (-m) s.seq.film.position)) (decide (s.seq.film.position < -m)) ∧ x = .moving ∧ d = 10)
          ∨ (e.kind = .cut ∧ a = .cut ∧ o = .cut ∧ x = .cutting ∧ d = 5)) →
        t.queue = [{ e with photo := .inExposure }]
          ∧ t.seq = { s.seq with state := x, action := some a, order := some o, deadline := some d, expiry := 0 }
          ∧ t.panel.ownership = .copy ∧ t.mem = s.mem ∧ t.font = s.font ∧ t.composer = s.composer
          ∧ t.intake = s.intake ∧ t.proof = s.proof
          ∧ t.exposure = (if e.tag = none ∨ e.tag = s.exposure.tag then s.exposure
              else { Exposure.none with tag := e.tag }))
      -- too little film
      ∧ (∀ (m : Int) (a : Action), 0 < m → s.seq.film.remaining < m →
        (e.kind = .move m ∧ a = .filmMove ∨ ∃ l, e.kind = .line l ∧ (l.lead : Int) = m ∧ a = .leadMove) →
        t.queue = [{ e with photo := .inExposure }] ∧ t.seq.state = .halted ∧ t.seq.halt = some .filmLow
          ∧ t.seq.failed = some a ∧ t.seq.order = none ∧ t.seq.film = s.seq.film
          ∧ t.panel.ownership = .panel ∧ t.flagSet .filmLow = true)
      -- a LINE of lead 0 with a character item
      ∧ (∀ (l : LineEntry) (j : Nat) (p i : Fin 8) (x : Int), e.kind = .line l → l.lead = 0 →
        nextCharFrom 0 l.items = some j →
        (∃ c a w wide, l.items[j]? = some { item := .char c a w, pos := x, width := wide } ∧ a.pos = p ∧ a.lens = i) →
        t.queue = [{ e with photo := .inExposure }]
          ∧ t.seq = { s.seq with
              item := some j, miss := 0, expiry := 0, deadline := some 2,
              state := if s.seq.shifted ≠ some p then .shifting else if s.seq.lens ≠ some i then .lens
                else if s.seq.escapement ≠ some x then .stepping else .flashing,
              action := some (if s.seq.shifted ≠ some p then .shift else if s.seq.lens ≠ some i then .lens
                else if s.seq.escapement ≠ some x then .step else .flash),
              order := some (if s.seq.shifted ≠ some p then .shift p else if s.seq.lens ≠ some i then .lens i
                else if s.seq.escapement ≠ some x then .step x else .flash) })
      -- entries completed as they are started
      ∧ (s.waitingReport = none →
        (∃ l, e.kind = .line l ∧ l.lead = 0 ∧ nextCharFrom 0 l.items = none)
          ∨ (∃ m, e.kind = .move m ∧ m < 0 ∧ s.seq.film.position = 0) ∨ (∃ j, e.kind = .jobEnd j) →
        t.queue = (if e.proof = .proofed then [] else [{ e with photo := .exposed }]) ∧ t.seq.state = .idle
          ∧ t.seq.item = none ∧ t.seq.order = none ∧ t.seq.film = s.seq.film
          ∧ t.status.markCount = s.status.markCount + BitVec.ofNat 16 e.marks.length ∧ t.mem = s.mem
          ∧ t.panel.ownership = .copy
          ∧ (let own := if e.tag = none ∨ e.tag = s.exposure.tag then s.exposure
              else { Exposure.none with tag := e.tag }
            (∀ l, e.kind = .line l → t.exposure = if e.tag = none then own else { own with lines := nextCount own.lines })
            ∧ (∀ m, e.kind = .move m → t.exposure = if e.tag = none then own else { own with clamped := true })
            ∧ ∀ j, e.kind = .jobEnd j → t.exposure = Exposure.none ∧ t.flagSet .jobReport = true
              ∧ t.status.nextSlot = s.status.nextSlot + 1
              ∧ t.status.reports = s.status.reports.set s.status.nextSlot
                { job := j.job, outcome := some j.outcome, linesSet := j.linesSet, sumComputed := j.sumComputed,
                  sumGiven := j.sumGiven
                  linesExposed := if e.tag = none then 0 else own.lines
                  film := if e.tag = none then 0 else own.film
                  flags := { j.flags with
                    clamped := j.flags.clamped || (decide (e.tag ≠ none) && own.clamped) } }))

/-- A completion report confirms the motion outstanding (R118, R120, R121). A shift, lens change or step becomes the
value held, and the character's next action is ordered: a lens change or a step where one is needed, then the flash (R117).
A film move or a cut changes the account as R127 to R129 say. The distance of a film move is added to the film used of the
entry's own job and a clamp marked for it (R110, R128, R133). A MOVE, a CUT and a LINE without character items are then
complete: the entry is EXPOSED, its marks posted, its line counted, the Sequencer IDLE, and TAKING ends in PANEL (R109, R116,
R119, R125); a LINE goes on to its first character item (R117). A manual motion changes the account too, reaches no exposure
record, and is shown (R131, R145): with its result when the machine is not HALTED and no call is out, as R144 has line 1,
where R131 makes no exception (log 53). -/
def Obligations.MotionsAreConfirmed : Prop :=
  ∀ s : State, Quiet s →
    let moved (d : Int) : Film :=
      { s.seq.film with remaining := s.seq.film.remaining - d, position := s.seq.film.position + d }
    let cut : Film := { s.seq.film with cutTotal := s.seq.film.cutTotal + s.seq.film.position, position := 0 }
    -- a shift, a lens change and a step
    (∀ (j : Nat) (p i : Fin 8) (x : Int), s.seq.manual = none → s.seq.item = some j → s.charAt j = some (p, i, x) →
      let goesOn (q : Sequencer) : Prop :=
        EndsIn (exec .motionComplete s) (State.mark { s with seq := q.ordering p i x } [3])
      (s.seq.order = some (.shift p) → s.seq.state = .shifting → goesOn { s.seq with shifted := some p })
      ∧ (s.seq.order = some (.lens i) → s.seq.state = .lens → s.seq.shifted = some p →
        goesOn { s.seq with lens := some i })
      ∧ (s.seq.order = some (.step x) → s.seq.state = .stepping → s.seq.shifted = some p → s.seq.lens = some i →
        goesOn { s.seq with escapement := some x }))
    -- the account
    ∧ (∀ (d : Int) (c : Bool), s.seq.manual = none → s.seq.order = some (.move d c) →
      ∃ t, EndsIn (exec .motionComplete s) t ∧ t.mem = s.mem ∧ t.seq.film = moved d)
    ∧ (s.seq.manual = none → s.seq.order = some .cut →
      ∃ t, EndsIn (exec .motionComplete s) t ∧ t.mem = s.mem ∧ t.seq.film = cut)
    -- the entry of a film move or a cut
    ∧ (∀ (e : Entry) (o : Order), s.seq.manual = none → s.seq.order = some o → s.inExposure = some e →
      let own : Prop := e.tag ≠ none ∧ e.tag = s.exposure.tag
      let used (d : Int) (c : Bool) : Exposure :=
        if own then { s.exposure with film := s.exposure.film + d, clamped := s.exposure.clamped || c } else s.exposure
      (∀ (d : Int) (c : Bool) (l : LineEntry) (before after : List SetItem) (code : Nat) (a : Attr) (w : Nat) (x wide : Int),
        o = .move d c → s.seq.action = some .leadMove → e.kind = .line l →
        l.items = before ++ { item := .char code a w, pos := x, width := wide } :: after →
        (∀ y ∈ before, ∀ code a w, y.item ≠ .char code a w) →
        ∃ t, EndsIn (exec .motionComplete s) t
          ∧ t = { s with
              seq := ({ s.seq with film := moved d, item := some before.length, miss := 0 } : Sequencer).ordering
                a.pos a.lens x
              exposure := used d c
              status.marks := t.status.marks })
      ∧ (∀ (f : Film) (x : Exposure), s.queue = [e] → s.waitingReport = none →
        ((∃ d c, o = .move d c ∧ f = moved d
            ∧ ((s.seq.action = some .leadMove ∧ (∃ l, e.kind = .line l ∧ ∀ y ∈ l.items, ∀ code a w, y.item ≠ .char code a w)
                ∧ x = if own then { used d c with lines := nextCount s.exposure.lines } else s.exposure)
              ∨ (s.seq.action = some .filmMove ∧ (∃ m, e.kind = .move m) ∧ x = used d c)))
          ∨ (o = .cut ∧ e.kind = .cut ∧ f = cut ∧ x = s.exposure)) →
        ∃ t, EndsIn (exec .motionComplete s) t
          ∧ t.seq = { s.seq with
              film := f, state := .idle, item := none, action := none, order := none, deadline := none, expiry := 0 }
          ∧ t.exposure = x ∧ t.queue = (if e.proof = .proofed then [] else [{ e with photo := .exposed }])
          ∧ t.panel.ownership = (if s.panel.ownership = .taking then .panel else s.panel.ownership)
          ∧ t.status.markCount = s.status.markCount + BitVec.ofNat 16 e.marks.length
          ∧ t.status.markValue = e.marks.getLast?.getD s.status.markValue
          ∧ t.mem = s.mem ∧ t.intake = s.intake ∧ t.proof = s.proof ∧ t.hyph = s.hyph))
    -- a manual motion
    ∧ (∀ m, s.seq.manual = some m → s.panel.ownership = .panel →
      ∃ t, EndsIn (exec .motionComplete s) t ∧ t.seq.manual = none
        ∧ t.seq.state = (if m.leftHalted then .halted else .idle) ∧ t.panel.ownership = .panel ∧ t.queue = s.queue
        ∧ t.exposure = s.exposure ∧ t.mem = s.mem ∧ t.seq.halt = s.seq.halt ∧ t.seq.failed = s.seq.failed
        ∧ t.seq.film = (match m.motion with
          | .move d => moved d
          | .cut => cut)
        ∧ ∃ line1, ReadsOnLine1 t (some (match m.motion with
            | .move d => .moved d
            | .cut => .cut)) line1
          ∧ .display line1 s.panel.hostLine ∈ t.panel.unsent)

/-- A motion's deadline (R120, R123): at the first expiry the order is sent again with a fresh deadline, at the second
the Sequencer halts, the value of the failed motion becomes UNKNOWN, ownership is PANEL and UNIT FAULT is raised. A
manual motion has its own count: at the second expiry it is abandoned with the account as it stood (R132). -/
def Obligations.DeadlinesRetryThenHalt : Prop :=
  ∀ s : State, Quiet s →
    (∀ (o : Order) (d : Nat) (k : HaltKind), s.seq.order = some o →
      ((∃ p, o = .shift p) ∧ d = 2 ∧ k = .shift ∨ (∃ i, o = .lens i) ∧ d = 2 ∧ k = .lens
        ∨ (∃ x, o = .step x) ∧ d = 2 ∧ k = .step ∨ (∃ m c, o = .move m c) ∧ d = 10 ∧ k = .filmDrive
        ∨ o = .cut ∧ d = 5 ∧ k = .cutter) →
      (s.seq.expiry = 0 →
        EndsIn (exec .motionDeadlineExpiry s) { s with seq.expiry := 1, seq.deadline := some d })
      ∧ (s.seq.expiry ≠ 0 →
        ∃ t, EndsIn (exec .motionDeadlineExpiry s) t ∧ t.seq.state = .halted ∧ t.seq.halt = some k
          ∧ t.seq.failed = some (s.seq.action.getD .step) ∧ t.seq.order = none ∧ t.seq.film = s.seq.film
          ∧ (k = .shift → t.seq.shifted = none) ∧ (k = .lens → t.seq.lens = none)
          ∧ (k = .step → t.seq.escapement = none) ∧ t.seq.item = s.seq.item ∧ t.queue = s.queue
          ∧ t.panel.ownership = .panel ∧ t.flagSet .unitFault = true ∧ t.mem = s.mem ∧ t.intake = s.intake))
    ∧ (∀ m, s.seq.manual = some m →
      (m.expiry = 0 →
        EndsIn (exec .manualDeadlineExpiry s)
          { s with seq.manual := some { m with
              expiry := 1
              deadline := match m.motion with
                | .move _ => 10
                | .cut => 5 } })
      ∧ (m.expiry ≠ 0 → s.panel.ownership = .panel →
        ∃ t, EndsIn (exec .manualDeadlineExpiry s) t ∧ t.seq.manual = none ∧ t.seq.film = s.seq.film
          ∧ t.seq.state = (if m.leftHalted then .halted else .idle) ∧ t.flagSet .unitFault = true
          ∧ (.refused (match m.motion with
              | .move _ => .driveFault
              | .cut => .cutterFault)) ∈ t.panel.unsent
          ∧ t.panel.ownership = .panel ∧ t.queue = s.queue ∧ t.mem = s.mem))

/-- A flash (R122): seen, the Sequencer takes up the next character, or completes the entry after the last; missed, or
without a report in 2 s, it is sent again once; missed a second time, the Sequencer halts LAMP and keeps the values it
holds (R123). -/
def Obligations.FlashesAreSeenOrMissed : Prop :=
  ∀ (s : State) (e : Entry) (j : Nat), Quiet s → s.seq.order = some .flash → s.seq.state = .flashing →
    s.queue = [e] → e.photo = .inExposure → s.seq.item = some j →
    (nextCharFrom (j + 1) (e.kind.items.drop (j + 1)) = none → s.panel.ownership = .copy → s.waitingReport = none →
      e.proof ≠ .proofed → (∃ l, e.kind = .line l) →
      ∃ t, EndsIn (exec .flashSeen s) t ∧ t.queue = [{ e with photo := .exposed }] ∧ t.seq.state = .idle
        ∧ t.seq.item = none ∧ t.seq.order = none ∧ t.seq.film = s.seq.film
        ∧ t.exposure.lines = (if e.tag ≠ none ∧ e.tag = s.exposure.tag then nextCount s.exposure.lines
            else s.exposure.lines)
        ∧ t.status.markCount = s.status.markCount + BitVec.ofNat 16 e.marks.length ∧ t.mem = s.mem)
    ∧ (∀ (j' : Nat) (p i : Fin 8) (x : Int), nextCharFrom (j + 1) (e.kind.items.drop (j + 1)) = some j' →
      s.charAt j' = some (p, i, x) → s.seq.shifted = some p → s.seq.lens = some i → s.seq.escapement ≠ some x →
      EndsIn (exec .flashSeen s)
        (State.mark { s with
            seq.item := some j', seq.miss := 0, seq.state := .stepping, seq.action := some .step,
            seq.order := some (.step x), seq.deadline := some 2, seq.expiry := 0 } [3]))
    ∧ ∀ c ∈ [Instr.flashMissed, .flashTimeout],
      (s.seq.miss = 0 → EndsIn (exec c s) { s with seq.miss := 1, seq.deadline := some 2 })
      ∧ (s.seq.miss ≠ 0 →
        ∃ t, EndsIn (exec c s) t ∧ t.seq.state = .halted ∧ t.seq.halt = some .lamp ∧ t.seq.failed = some .flash
          ∧ t.seq.order = none ∧ t.seq.shifted = s.seq.shifted ∧ t.seq.lens = s.seq.lens
          ∧ t.seq.escapement = s.seq.escapement ∧ t.seq.item = s.seq.item ∧ t.queue = s.queue
          ∧ t.panel.ownership = .panel ∧ t.flagSet .unitFault = true ∧ t.mem = s.mem)

/-! ### The operator's panel (Chapter 7) -/

/-- TAKE in COPY gives TAKING with an entry in exposure and PANEL without one (R136); RETURN in PANEL gives COPY, and
outside it is refused NOT TAKEN (R138). Each change raises OWNERSHIP and marks the posted ownership (R139). RETURN of a
machine that is IDLE with nothing waiting does nothing more; of one HALTED at a CUT it sends the cut again (R124). That
the refusal begins at once on a free link is the model's reading (log 10). RETURN of one HALTED with the film still too
short halts it FILM LOW again: two changes of ownership, each with its SHOW (R124, R127, R138, R139); that the first SHOW is
composed with the Sequencer in the state of the action taken up, and serves the leaving of HALTED too, as the second
serves the new halt, is the model's reading (logs 29, 51). -/
def Obligations.OwnershipIsTakenAndReturned : Prop :=
  ∀ s : State, Quiet s →
    (s.panel.ownership = .copy →
      ∃ t, EndsIn (exec .take s) t ∧ t.panel.ownership = (if s.inExposure = none then .panel else .taking)
        ∧ t.flagSet .ownership = true ∧ 2 ∈ t.status.marks ∧ t.seq = s.seq ∧ t.queue = s.queue ∧ t.mem = s.mem
        ∧ t.intake = s.intake ∧ t.composer = s.composer ∧ t.font = s.font ∧ t.proof = s.proof)
    ∧ (s.panel.ownership ≠ .panel → (s.panel.outbound.filter PanelMessage.isRefused).length < 8 →
      EndsIn (exec .returnMachine s)
        (State.linked { s with panel.outbound := s.panel.outbound ++ [.refused .notTaken] }))
    ∧ (s.panel.ownership = .panel → s.seq.state = .idle → (∀ e ∈ s.queue, e.photo ≠ .waiting) →
      ∃ t, EndsIn (exec .returnMachine s) t ∧ t.panel.ownership = .copy ∧ t.flagSet .ownership = true
        ∧ 2 ∈ t.status.marks ∧ t.seq = s.seq ∧ t.queue = s.queue ∧ t.mem = s.mem ∧ t.font = s.font)
    ∧ (∀ e, s.panel.ownership = .panel → s.seq.state = .halted → s.seq.failed = some .cut → s.inExposure = some e →
      e.kind = .cut →
      ∃ t, EndsIn (exec .returnMachine s) t ∧ t.panel.ownership = .copy ∧ t.seq.state = .cutting
        ∧ t.seq.order = some .cut ∧ t.seq.halt = none ∧ t.seq.deadline = some 5 ∧ t.seq.expiry = 0 ∧ t.seq.miss = 0
        ∧ t.queue = s.queue ∧ t.seq.film = s.seq.film ∧ t.mem = s.mem)
    ∧ (∀ (e : Entry) (m : Int) (a : Action), s.panel.ownership = .panel → s.seq.state = .halted → s.inExposure = some e →
      s.seq.failed = some a → 0 < m → s.seq.film.remaining < m →
      (e.kind = .move m ∧ a = .filmMove ∨ ∃ l, e.kind = .line l ∧ (l.lead : Int) = m ∧ a = .leadMove) →
      ∃ t, EndsIn (exec .returnMachine s) t ∧ t.panel.ownership = .panel ∧ t.flagSet .ownership = true
        ∧ t.flagSet .filmLow = true ∧ 2 ∈ t.status.marks
        ∧ t.seq = { s.seq with
            halt := some .filmLow, action := none, order := none, deadline := none, expiry := 0, miss := 0 }
        ∧ t.queue = s.queue ∧ t.exposure = s.exposure ∧ t.mem = s.mem ∧ t.font = s.font
        ∧ .display (.halted (some .filmLow) (some a) s.heldSubject) s.panel.hostLine ∈ t.panel.unsent
        ∧ (s.panel.sending = none → s.panel.outbound = [] → s.panel.calls = [] →
          t.panel.sending = some
            (.display (.status .copy .moving (s.exposure.tag.map (·.number)) (s.seq.film.remaining / 1440) none)
              s.panel.hostLine)
          ∧ t.panel.outbound.filter PanelMessage.isDisplay =
            [.display (.halted (some .filmLow) (some a) s.heldSubject) s.panel.hostLine]))

/-- The operator's reports on the disc. MOUNTED of the font called for makes the entry LOADING, with its FIX mark and
origin kept, and ends its call; a MOUNTED that no entry calls for makes an entry that is not in use LOADING, of origin
PANEL and without the FIX mark, whatever it held, and any entry REFUSED for the font elsewhere VACANT; in both its width
record is dropped and it joins the fetch list (R48, R60, R66), or, with LIBRARY disabled, becomes REFUSED at once when its
fetch comes to the head (R71). Of another font than the one called for it is refused WRONG FONT; in LOADING, LOADING; of a
position in use, IN USE; of a font another position has, DUPLICATE; with a value out of range, BAD VALUE (R60, R140).
EMPTIED makes a position that is not in use VACANT, ending its call or its fetch, and is refused IN USE otherwise (R61).
DECLINE refuses the font of a REQUESTED entry, and is refused NOT CALLED otherwise (R62). That a refusal made on a free
link begins at once is the model's reading (log 10). -/
def Obligations.OperatorReportsOnTheDisc : Prop :=
  ∀ s : State, Quiet s → (s.panel.outbound.filter PanelMessage.isRefused).length < 8 →
    let refusing (r : ReasonWord) : State := State.linked { s with panel.outbound := s.panel.outbound ++ [.refused r] }
    (∀ p n : Nat, 8 ≤ p ∨ n = 0 ∨ 999 < n → EndsIn (exec (.mounted p n) s) (refusing .badValue))
    ∧ (∀ p : Nat, 8 ≤ p →
      EndsIn (exec (.emptied p) s) (refusing .badValue) ∧ EndsIn (exec (.decline p) s) (refusing .badValue))
    ∧ ∀ p : Fin 8,
      let called : Prop := s.font.table[p].state = .requested
      let loading : Prop := s.font.table[p].state = .loading
      let held (q : Fin 8) (n : Nat) : Prop :=
        s.font.table[q].font = n ∧ (s.font.table[q].state = .requested ∨ s.font.table[q].state = .loading
          ∨ s.font.table[q].state = .mounted ∨ s.font.table[q].state = .fixed)
      let fetches := s.font.fetchList.filter (· ≠ p)
      (∀ n : Nat, 1 ≤ n → n ≤ 999 →
        -- the font called for, and an unsolicited mount
        (∀ e : Position,
          ((called ∧ s.font.table[p].font = n
              ∧ e = { s.font.table[p] with state := .loading, reason := none, age := 0, remove := none, timer := none })
            ∨ (¬ called ∧ ¬ loading ∧ s.font.table[p].inUse = 0 ∧ (∀ q, q ≠ p → ¬ held q n)
              ∧ e = { s.font.table[p] with
                  font := n, state := .loading, reason := none, age := 0, fix := false, origin := some .panel,
                  remove := none, timer := none })) →
          (s.port.disabled.library = true → fetches = [] ∧ s.font.fetch = none) →
          ∃ t, EndsIn (exec (.mounted p n) s) t
            ∧ t.font.widths[p] = none
            ∧ (∀ q : Fin 8, q ≠ p →
              let cleared : Prop := s.font.table[q].state = .refused ∧ s.font.table[q].font = n
              (cleared → t.font.table[q] = { Position.vacant with inUse := s.font.table[q].inUse }
                ∧ t.font.widths[q] = none)
              ∧ (¬ cleared → t.font.table[q] = s.font.table[q] ∧ t.font.widths[q] = s.font.widths[q]))
            ∧ (s.port.disabled.library = false →
              t.font.table[p] = e ∧ t.font.fetchList = fetches ++ [p]
                ∧ t.font.fetch = (if s.font.fetch = none then some (.search 0) else s.font.fetch))
            ∧ (s.port.disabled.library = true →
              t.font.table[p] = e.refusedFor .memoryError ∧ t.font.fetchList = [] ∧ t.font.fetch = none
                ∧ t.flagSet .mountRefused = true)
            ∧ t.font.lenses = s.font.lenses ∧ t.panel.calls = (if called then s.panel.calls.filter (· ≠ p)
              else s.panel.calls)
            ∧ (¬ called → t.panel = s.panel) ∧ t.queue = s.queue ∧ t.mem = s.mem ∧ t.seq = s.seq
            ∧ t.intake = s.intake ∧ t.proof = s.proof)
        -- refused
        ∧ (called → s.font.table[p].font ≠ n →
          EndsIn (exec (.mounted p n) s) (refusing (.wrongFont s.font.table[p].font)))
        ∧ (loading → EndsIn (exec (.mounted p n) s) (refusing .loading))
        ∧ (¬ called → ¬ loading →
          (0 < s.font.table[p].inUse → EndsIn (exec (.mounted p n) s) (refusing .inUse))
          ∧ (∀ q : Fin 8, q ≠ p → held q n → s.font.table[p].inUse = 0 →
            EndsIn (exec (.mounted p n) s) (refusing .duplicate))))
      -- EMPTIED
      ∧ (0 < s.font.table[p].inUse → EndsIn (exec (.emptied p) s) (refusing .inUse))
      ∧ (s.font.table[p].inUse = 0 → s.font.table[p].state = .vacant → EndsIn (exec (.emptied p) s) s)
      ∧ (s.font.table[p].inUse = 0 → s.font.table[p].state ≠ .vacant → (loading → s.port.disabled.library = false) →
        ∃ t, EndsIn (exec (.emptied p) s) t ∧ t.font.table = s.font.table.set p Position.vacant
          ∧ t.font.widths = s.font.widths.set p none ∧ t.font.lenses = s.font.lenses
          ∧ t.panel.calls = (if called then s.panel.calls.filter (· ≠ p) else s.panel.calls)
          ∧ (¬ called → t.panel = s.panel)
          ∧ (¬ loading → t.font.fetchList = s.font.fetchList ∧ t.font.fetch = s.font.fetch)
          ∧ (loading →
            t.font.fetchList = fetches
              ∧ t.font.fetch = (if s.font.fetchList.head? = some p then if fetches = [] then none else some (.search 0)
                else s.font.fetch))
          ∧ t.queue = s.queue ∧ t.mem = s.mem ∧ t.seq = s.seq ∧ t.intake = s.intake ∧ t.proof = s.proof)
      -- DECLINE
      ∧ (¬ called → EndsIn (exec (.decline p) s) (refusing .notCalled))
      ∧ (called →
        ∃ t, EndsIn (exec (.decline p) s) t
          ∧ t.font = { s.font with table := s.font.table.set p (s.font.table[p].refusedFor .declined) }
          ∧ t.panel.calls = s.panel.calls.filter (· ≠ p) ∧ t.flagSet .mountRefused = true ∧ t.queue = s.queue
          ∧ t.mem = s.mem ∧ t.seq = s.seq)

/-- The operator's film messages (R130, R131, R140), each refused BAD VALUE for a value out of range, NOT TAKEN outside
PANEL, BUSY with a manual motion outstanding. FILM LOADED sets the account. A manual advance the film is long enough for
is ordered, a longer one refused FILM LOW; a manual reverse goes no further than the last cut, and one with nothing to
run back is confirmed at once with a SHOW (R128, R144); a manual cut is ordered. A manual motion is made for no entry, and
the state it leaves is kept. That the SHOW of a reverse with nothing to run back has the distance on line 1 only where R144
has the result is the model's reading (log 53). That a message made on a free link begins at once, and that one being sent is not replaced,
is the model's reading (log 10). -/
def Obligations.OperatorMovesTheFilm : Prop :=
  ∀ s : State, Quiet s →
    ((s.panel.outbound.filter PanelMessage.isRefused).length < 8 →
      let refusing (r : ReasonWord) : State := State.linked { s with panel.outbound := s.panel.outbound ++ [.refused r] }
      (∀ x : Nat, x = 0 ∨ 1200 < x → EndsIn (exec (.filmLoaded x) s) (refusing .badValue))
      ∧ (∀ t : Int, t = 0 ∨ 14400 < t.natAbs → EndsIn (exec (.panelAdvance t) s) (refusing .badValue))
      ∧ (s.panel.ownership ≠ .panel →
        (∀ x : Nat, 1 ≤ x → x ≤ 1200 → EndsIn (exec (.filmLoaded x) s) (refusing .notTaken))
          ∧ (∀ t : Int, t ≠ 0 → t.natAbs ≤ 14400 → EndsIn (exec (.panelAdvance t) s) (refusing .notTaken))
          ∧ EndsIn (exec .panelCut s) (refusing .notTaken))
      ∧ (∀ t : Int, s.panel.ownership = .panel → s.seq.manual = none → s.seq.film.remaining < t → 0 < t → t ≤ 14400 →
        EndsIn (exec (.panelAdvance t) s) (refusing .filmLow))
      ∧ (s.panel.ownership = .panel → s.seq.manual ≠ none →
        (∀ x : Nat, 1 ≤ x → x ≤ 1200 → EndsIn (exec (.filmLoaded x) s) (refusing .busy))
          ∧ (∀ t : Int, t ≠ 0 → t.natAbs ≤ 14400 → EndsIn (exec (.panelAdvance t) s) (refusing .busy))
          ∧ EndsIn (exec .panelCut s) (refusing .busy)))
    ∧ (s.panel.ownership = .panel → s.seq.manual = none →
      (∀ x : Nat, 1 ≤ x → x ≤ 1200 →
        ∃ t, EndsIn (exec (.filmLoaded x) s) t
          ∧ t.seq = { s.seq with
              film := { loaded := 1440 * x, remaining := 1440 * x, position := 0, cutTotal := 0 } }
          ∧ t.queue = s.queue ∧ t.mem = s.mem ∧ t.exposure = s.exposure ∧ t.panel.ownership = .panel)
      ∧ (∀ t : Int, 0 < t → t ≤ 14400 → s.seq.film.position = 0 →
        ∃ line1, ReadsOnLine1 s (some (.moved 0)) line1
          ∧ EndsIn (exec (.panelAdvance (-t)) s)
            (State.linked { s with
              panel.outbound := s.panel.outbound.filter (fun m => !m.isDisplay)
                ++ [.display line1 s.panel.hostLine] }))
      ∧ ∀ (c : Instr) (m : ManualMotion) (x : SeqState) (d : Nat),
        ((∃ t : Int, c = .panelAdvance t ∧ 0 < t ∧ t ≤ 14400 ∧ t ≤ s.seq.film.remaining ∧ m = .move t ∧ x = .moving
            ∧ d = 10)
          ∨ (∃ t : Int, c = .panelAdvance (-t) ∧ 0 < t ∧ t ≤ 14400 ∧ 0 < s.seq.film.position
            ∧ m = .move (-(min t s.seq.film.position)) ∧ x = .moving ∧ d = 10)
          ∨ (c = .panelCut ∧ m = .cut ∧ x = .cutting ∧ d = 5)) →
        EndsIn (exec c s)
          (State.markIf { s with
              seq.manual := some { motion := m, expiry := 0, deadline := d, leftHalted := s.seq.state == .halted }
              seq.state := x }
            (s.seq.state != x) [3]))

/-- A MESSAGE in range is placed in an empty inbox, and INBOX raised; it is refused INBOX FULL when one is there and BAD
VALUE out of range (R140, R148). CANCEL with no job is refused NO JOB (R141), and a message of no known kind UNKNOWN
(R140). A message made while another is being sent waits at the end of the list (R142): a SHOW in place of a SHOW that
waits, an ALARM in place of an ALARM, a MOUNT CALL in place of one for its position, and a ninth REFUSED in place of the
oldest; every other message that waits stands, in its order. Made on a free link with nothing waiting, it begins at
once; when a message has been sent the next one begins (R142). That the message being sent stands apart from those that wait, and that the bounds of R142 count those that wait,
at most one SHOW, one ALARM and eight REFUSED, is the model's reading (log 10). -/
def Obligations.MessagesBothWays : Prop :=
  (∀ s : State, Quiet s → (s.panel.outbound.filter PanelMessage.isRefused).length < 8 →
    let refusing (r : ReasonWord) : State := State.linked { s with panel.outbound := s.panel.outbound ++ [.refused r] }
    (∀ text : List Nat, text.length = 0 ∨ 32 < text.length ∨ (∃ c ∈ text, c < 0x20 ∨ 0x7E < c) →
      EndsIn (exec (.message text) s) (refusing .badValue))
    ∧ (∀ text : List Nat, 1 ≤ text.length → text.length ≤ 32 → (∀ c ∈ text, 0x20 ≤ c ∧ c ≤ 0x7E) →
      (s.panel.inbox ≠ none → EndsIn (exec (.message text) s) (refusing .inboxFull))
      ∧ (s.panel.inbox = none →
        EndsIn (exec (.message text) s)
          (State.raise (State.mark { s with panel.inbox := some text } (List.range' 128 17)) .inbox)))
    ∧ (s.intake.job.inProgress = false → EndsIn (exec .cancel s) (refusing .noJob))
    ∧ EndsIn (exec .unknownPanelMessage s) (refusing .unknown))
  ∧ (∀ s : State, Quiet s →
    EndsIn (exec .panelMessageSent s)
      { s with panel.sending := s.panel.outbound.head?, panel.outbound := s.panel.outbound.tail })
  ∧ (∀ s : State,
    (s.panel.sending ≠ none → s.linked = s)
    ∧ (s.panel.sending = none →
      s.linked = { s with panel.sending := s.panel.outbound.head?, panel.outbound := s.panel.outbound.tail }))
  -- the list
  ∧ (∀ s : State, s.panel.sending ≠ none →
    let waiting := s.panel.outbound
    let joined (l : List PanelMessage) (m : PanelMessage) : State := { s with panel.outbound := l ++ [m] }
    (∀ line1 hostLine,
      s.toPanel (.display line1 hostLine) = joined (waiting.filter (fun m => !m.isDisplay)) (.display line1 hostLine))
    ∧ (∀ order, s.toPanel (.alarm order) = joined (waiting.filter (fun m => !m.isAlarm)) (.alarm order))
    ∧ (∀ (p : Fin 8) n remove, s.toPanel (.mountCall p n remove) =
      joined (waiting.filter (fun m => !PanelMessage.isCallFor p m)) (.mountCall p n remove))
    ∧ ∀ r, ((waiting.filter PanelMessage.isRefused).length < 8 → s.toPanel (.refused r) = joined waiting (.refused r))
      ∧ ∀ before oldest after, 8 ≤ (waiting.filter PanelMessage.isRefused).length →
        waiting = before ++ .refused oldest :: after → (∀ m ∈ before, m.isRefused = false) →
        s.toPanel (.refused r) = joined (before ++ after) (.refused r))
  ∧ ∀ (s : State) (m : PanelMessage), OutboundInv s →
    OutboundInv (s.toPanel m) ∧ m ∈ (s.toPanel m).panel.unsent
      ∧ (s.panel.sending ≠ none → (s.toPanel m).panel.sending = s.panel.sending)
      ∧ (s.panel.sending = none →
        s.toPanel m = { s with panel.sending := some m })

/-! ### Proofs and justification (Chapters 8 and 1) -/

/-- The print records of an entry (R154): the gap record when the gap count is above 0, the header of a LINE whose job is
not the proof job, and the entry's own: for a LINE one to three of 119 columns of text behind the margin or thirteen spaces,
a text over 357 characters cut at 354 with `...` (R155 to R157); for a MOVE, a CUT and a JOBEND one behind thirteen spaces
(R157). Numbers are printed in decimal without leading zeros, and a margin has 13 columns.
The Proof Unit begins the first WAITING entry: its records are formed and it is IN PROOF; a DETACHED entry whose
records cannot all be placed at once, with SPOOL disabled or with too little room left in a half that is not FULL and the
other half not EMPTY, counts as a gap and is PROOFED (R153, R154, R160). The printer port (R165, R166): an
acknowledge awaited sends the character, and the port takes up the next at once, HELD while BUSY or PAPER OUT is
asserted; after the line feed the print buffer is empty. A change of the status lines presents a held character once
neither is asserted. A character that stalls raises PRINTER STALLED, once. -/
def Obligations.ProofBeginsAndPrinterPort : Prop :=
  -- the print records of an entry
  (∀ s : State,
    let gap : List PrintRecord :=
      if s.proof.gap = 0 then []
      else [{ role := .gap
              chars := codesOf ['*', '*', '*', ' '] ++ decimal s.proof.gap
                ++ codesOf [' ', 'E', 'N', 'T', 'R', 'I', 'E', 'S', ' ', 'N', 'O', 'T', ' ', 'P', 'R', 'O', 'O', 'F', 'E', 'D',
                  ' ', '*', '*', '*'] }]
    let blank := List.replicate 13 0x20
    let one (text : List Nat) : List PrintRecord := gap ++ [{ role := .own, chars := blank ++ text }]
    (∀ l : LineEntry,
      let text := s.printedText l
      let printed := if text.length ≤ 357 then text else text.take 354 ++ codesOf ['.', '.', '.']
      s.formRecords (.line l) =
        gap
          ++ (if s.proof.job = some l.job then []
            else [{ role := .header l.job, chars := codesOf ['J', 'O', 'B', ' '] ++ decimal l.job.toNat }])
          ++ (List.range (max 1 ((printed.length + 118) / 119))).map (fun k =>
            { role := .own
              chars := (if k = 0 then l.printedMargin else blank) ++ (printed.drop (119 * k)).take 119 }))
    ∧ (∀ d : Int, s.formRecords (.move d) =
      one (codesOf ['F', 'I', 'L', 'M', ' ', if d < 0 then '-' else '+'] ++ decimal d.natAbs))
    ∧ s.formRecords .cut = one (codesOf ['C', 'U', 'T'])
    ∧ ∀ j : JobEndEntry,
      let ending (result : List Char) : List PrintRecord :=
        one (codesOf ['E', 'N', 'D', ' ', 'J', 'O', 'B', ' '] ++ decimal j.job.toNat
          ++ codesOf [' ', 'L', 'I', 'N', 'E', 'S', ' '] ++ decimal j.linesSet ++ codesOf result)
      (j.outcome = .unterminated →
        s.formRecords (.jobEnd j) = ending [' ', 'U', 'N', 'T', 'E', 'R', 'M', 'I', 'N', 'A', 'T', 'E', 'D'])
      ∧ (j.outcome = .complete →
        s.formRecords (.jobEnd j) =
          ending (if j.flags.sumMismatch then [' ', 'S', 'U', 'M', ' ', 'M', 'I', 'S', 'M', 'A', 'T', 'C', 'H']
            else [' ', 'S', 'U', 'M', ' ', 'O', 'K'])))
  -- numbers, and the margin
  ∧ (∀ n : Nat, (decimal n).foldl (fun v c => 10 * v + (c - 0x30)) 0 = n ∧ (∀ c ∈ decimal n, 0x30 ≤ c ∧ c ≤ 0x39)
    ∧ decimal n ≠ [] ∧ (n ≠ 0 → (decimal n).head? ≠ some 0x30) ∧ decimal 0 = [0x30])
  ∧ (∀ l : LineEntry, l.number ≤ 65535 → l.printedMargin.length = 13)
  -- the Proof Unit
  ∧ (∀ (s : State) (before after : List Entry) (e : Entry), Quiet s → s.queue = before ++ e :: after →
      (∀ x ∈ before, x.proof = .proofed) → e.proof = .waiting → (∀ x ∈ after, x.proof ≠ .inProof) →
      let half := s.proof.writePoint.half
      let words := ((s.formRecords e.kind).map (fun r => 1 + (r.chars.length + 1) / 2)).sum
      let placed : Prop := s.port.disabled.spool = false
        ∧ ((s.proof.half half ≠ .full ∧ s.proof.writePoint.offset + words ≤ 4096) ∨ s.proof.half half.other = .empty)
      ((e.mode ≠ .detached ∨ placed) →
        EndsIn (exec .proofBeginEntry s)
          { s with
            queue := before ++ { e with proof := .inProof } :: after
            proof.records := s.formRecords e.kind
            proof.written := 0 })
      ∧ (e.mode = .detached → ¬ placed → (∀ x ∈ s.queue, x.photo ≠ .exposed) →
        EndsIn (exec .proofBeginEntry s)
          (State.markIf { s with
              queue := before ++ { e with proof := .proofed } :: after
              proof.records := []
              proof.written := 0
              proof.gap := min 65535 (s.proof.gap + 1) }
            (s.proof.gap != min 65535 (s.proof.gap + 1)) [228])))
  -- the printer port
  ∧ (∀ s : State, Quiet s →
      (∀ b : List Nat, s.proof.port = .awaiting → s.proof.buffer = some b →
        (s.proof.portIndex + 1 < b.length + 2 →
          EndsIn (exec .printerAcknowledge s)
            { s with
              proof.portIndex := s.proof.portIndex + 1
              proof.stalled := false
              proof.port := if s.proof.busy || s.proof.paperOut then .held else .awaiting })
        ∧ (s.proof.portIndex + 1 = b.length + 2 →
          EndsIn (exec .printerAcknowledge s)
            { s with
              proof.portIndex := 0, proof.stalled := false, proof.port := .idle, proof.buffer := none }))
      ∧ (∀ busy paperOut : Bool,
        EndsIn (exec (.printerStatusChange busy paperOut) s)
          { s with
            proof.busy := busy
            proof.paperOut := paperOut
            proof.port := if s.proof.port = .held ∧ busy = false ∧ paperOut = false then .awaiting else s.proof.port })
      ∧ (s.proof.port ≠ .idle → s.proof.stalled = false →
        EndsIn (exec .printerStalled s) (State.raise { s with proof.stalled := true } .printerStalled))
      ∧ (s.proof.stalled = true → exec .printerStalled s = .next s))

/-- A JUSTIFY line with n interword spaces (R14): with extra′ what is left for the spaces after letterspacing, q =
floor(extra′ / n) and r = extra′ − q × n, 0 ≤ r < n for negative extra′ as for positive; counting from the left, the
first r spaces are set at their normal width + q + 1 and the others at their normal width + q; together they take
exactly Nrm + extra′. -/
def Obligations.SpacesShareTheExtraExactly : Prop :=
  ∀ (l : Line) (a : Align) (overset : Bool), l.sums = sumsOf l.items → 0 < l.sums.n →
    (setLine l a overset).align = .justify →
    let extra := extraOf l.measure l.sums - letterspace l.sums l.limitFine (extraOf l.measure l.sums) * l.sums.g
    let q := extra / l.sums.n
    let r := extra - q * l.sums.n
    let spaces := (setLine l a overset).items.filter (fun x => x.item.isSpace)
    0 ≤ r ∧ r < l.sums.n ∧ spaces.length = l.sums.n
      ∧ (∀ (j h mn nrm mx : Nat) (pos width : Int),
        spaces[j]? = some { item := .space h mn nrm mx, pos := pos, width := width } →
        width = nrm + if (j : Int) < r then q + 1 else q)
      ∧ (spaces.map (·.width)).sum = l.sums.nrm + extra

/-! ### Hyphenation (Chapter 2) -/

/-- A candidate point at position i of a word of length L is kept exactly when at least the left minimum of letters
stand before it and at least the right minimum after it, whether the candidates are the discretionary points, the
dictionary entry's or the rule engine's; and every hyphen break is made at one of the word's points that was kept (R42). The
discretionary points of a word are its candidates when it has one; the dictionary's entry when it has none and the
dictionary holds the word; otherwise the rule engine gives them (R37, R39). -/
def Obligations.HyphenPointsKeepTheMinimums : Prop :=
  (∀ (h : Hyphenator) (word recorded : List Nat) (i : Nat),
    let kept : Prop := h.leftMin ≤ i ∧ h.rightMin ≤ word.length - i
    ((∃ p ∈ recorded, 1 ≤ p ∧ p < word.length) →
      (i ∈ h.points word recorded ↔ (i ∈ recorded ∧ 1 ≤ i ∧ i < word.length) ∧ kept))
    ∧ ((∀ p ∈ recorded, p = 0 ∨ word.length ≤ p) →
      (∀ (before after : List DictEntry) (e : DictEntry), h.dictionary = before ++ e :: after → e.word = word →
        (∀ x ∈ before, x.word ≠ word) →
        (i ∈ h.points word recorded ↔ (e.never = false ∧ i ∈ e.positions) ∧ kept))
      ∧ ((∀ x ∈ h.dictionary, x.word ≠ word) → (i ∈ h.points word recorded ↔ i ∈ rulePoints word ∧ kept))))
  ∧ ∀ (s : State) (l : Line) (r : Nat) (d : Division), s.hyphenBreak l r = some d →
    ∃ i : Nat, i ∈ s.hyph.points ((l.items.drop (l.items.length - r)).map Item.letter) s.composer.word.points
      ∧ s.hyph.leftMin ≤ i ∧ s.hyph.rightMin ≤ min r l.items.length - i
      ∧ d.carried = l.items.drop (l.items.length - r + i)
      ∧ ∃ g, d.ended = l.items.take (l.items.length - r + i) ++ [g]

/-- The rule engine's points (R40, R41): one for each run of consonants between two vowels. The vowels are a, e, i, o,
u, and y but as the first letter. The point stands before a run of one letter; after a tail pair (ck, ng) that begins
the run; before a lead pair (ch, gh, ph, sh, th, wh, wr, gn, kn) that ends it; else before its last letter. The points
come in increasing order. -/
def Obligations.RuleEnginePoints : Prop :=
  ∀ word : List Nat,
    let vowel (first : Bool) (c : Nat) : Prop := c ∈ [0x61, 0x65, 0x69, 0x6F, 0x75] ∨ (c = 0x79 ∧ first = false)
    let tail : List (List Nat) := [[0x63, 0x6B], [0x6E, 0x67]]
    let lead : List (List Nat) := [[0x63, 0x68], [0x67, 0x68], [0x70, 0x68], [0x73, 0x68], [0x74, 0x68], [0x77, 0x68],
      [0x77, 0x72], [0x67, 0x6E], [0x6B, 0x6E]]
    (rulePoints word).Pairwise (· < ·)
      ∧ ∀ i : Nat, i ∈ rulePoints word ↔
        ∃ (before run after : List Nat) (v u : Nat), word = before ++ [v] ++ run ++ [u] ++ after ∧ run ≠ []
          ∧ vowel before.isEmpty v ∧ vowel false u ∧ (∀ c ∈ run, ¬ vowel false c)
          -- the run's first letter is letter `first` of the word, its last letter `last`
          ∧ (let first := before.length + 2
            let last := before.length + 1 + run.length
            if run.length = 1 then i = first - 1
            else if run.take 2 ∈ tail then i = first + 1
            else if run.drop (run.length - 2) ∈ lead then i = last - 2
            else i = last - 1)
end

