-- ==== Sys2Proof/Laws/Breaking.lean ====
section
/-! SUPPORT. The line breaker's shared operations, each by what it can answer: sorted points, the points of a word, the
last break-space candidate, the word at a line's end, and one piece of the Composer's work after another. -/

namespace Sys2Proof.Machine

/-! ### Sorted points (R37) -/

theorem mem_insertOffset (a b : Nat) (l : List Nat) : b ∈ insertOffset a l ↔ b = a ∨ b ∈ l := by
  induction l with
  | nil => simp [insertOffset]
  | cons c l ih =>
    unfold insertOffset
    split
    · simp
    · split
      · rename_i h; subst h; simp
      · simp [ih]; tauto

theorem insertOffset_pairwise (a : Nat) (l : List Nat) (h : l.Pairwise (· < ·)) :
    (insertOffset a l).Pairwise (· < ·) := by
  induction l with
  | nil => simp [insertOffset]
  | cons c l ih =>
    rw [List.pairwise_cons] at h
    unfold insertOffset
    split
    · rename_i hac
      exact List.pairwise_cons.2 ⟨fun b hb => (List.mem_cons.1 hb).elim (· ▸ hac) (fun hb => hac.trans (h.1 b hb)),
        List.pairwise_cons.2 h⟩
    · split
      · exact List.pairwise_cons.2 h
      · refine List.pairwise_cons.2 ⟨fun b hb => ?_, ih h.2⟩
        rcases (mem_insertOffset a b l).1 hb with rfl | hb
        · omega
        · exact h.1 b hb

theorem foldl_insertOffset (l acc : List Nat) (h : acc.Pairwise (· < ·)) :
    (l.foldl (fun acc p => insertOffset p acc) acc).Pairwise (· < ·)
      ∧ ∀ b, b ∈ l.foldl (fun acc p => insertOffset p acc) acc ↔ b ∈ l ∨ b ∈ acc := by
  induction l generalizing acc with
  | nil => simp [h]
  | cons a l ih =>
    obtain ⟨hp, hm⟩ := ih (insertOffset a acc) (insertOffset_pairwise a acc h)
    refine ⟨hp, fun b => (hm b).trans ?_⟩
    rw [mem_insertOffset, List.mem_cons]
    tauto

@[simp] theorem mem_sortPoints (l : List Nat) (b : Nat) : b ∈ sortPoints l ↔ b ∈ l := by
  simpa [sortPoints] using (foldl_insertOffset l [] List.Pairwise.nil).2 b

theorem sortPoints_pairwise (l : List Nat) : (sortPoints l).Pairwise (· < ·) :=
  (foldl_insertOffset l [] List.Pairwise.nil).1

/-- A word's points come in increasing order with none repeated (R37). -/
theorem Hyphenator.points_pairwise (h : Hyphenator) (word recorded : List Nat) :
    (h.points word recorded).Pairwise (· < ·) := (sortPoints_pairwise _).filter _

/-! ### The last break-space candidate (R28) -/

/-- An item is a break-space candidate: an interword space, or an explicit hyphen that is not the line's first item. -/
def candidateAt (l : List Item) (i : Nat) : Bool := (l[i]?).any (fun x => x.isSpace || (x.isHyphen && i != 0))

theorem getLast?_filter_range (f : Nat → Bool) (n i : Nat) :
    ((List.range n).filter f).getLast? = some i ↔ i < n ∧ f i = true ∧ ∀ j, i < j → j < n → f j = false := by
  induction n with
  | zero => simp
  | succ n ih =>
    rw [List.range_succ, List.filter_append]
    cases hn : f n
    · rw [List.filter_cons_of_neg (by simp [hn]), List.filter_nil, List.append_nil, ih]
      refine ⟨fun ⟨h1, h2, h3⟩ => ⟨by omega, h2, fun j hj hj' => ?_⟩,
        fun ⟨h1, h2, h3⟩ => ⟨?_, h2, fun j hj hj' => h3 j hj (by omega)⟩⟩
      · rcases Nat.lt_succ_iff_lt_or_eq.1 hj' with hlt | rfl
        exacts [h3 j hj hlt, hn]
      · rcases Nat.lt_succ_iff_lt_or_eq.1 h1 with hlt | rfl
        exacts [hlt, absurd h2 (by simp [hn])]
    · rw [List.filter_cons_of_pos (by simp [hn]), List.filter_nil, List.getLast?_concat]
      refine ⟨fun h => ?_, fun ⟨h1, h2, h3⟩ => ?_⟩
      · cases h; exact ⟨by omega, hn, fun j hj hj' => by omega⟩
      · rcases Nat.lt_succ_iff_lt_or_eq.1 h1 with hlt | rfl
        · exact absurd (h3 n hlt (Nat.lt_succ_self n)) (by simp [hn])
        · rfl

theorem lastCandidate_eq_some (limit : Nat) (l : List Item) (i : Nat) :
    lastCandidate limit l = some i ↔
      i < limit ∧ candidateAt l i = true ∧ ∀ j, i < j → j < limit → candidateAt l j = false :=
  getLast?_filter_range (candidateAt l) limit i

theorem lastCandidate_eq_none (limit : Nat) (l : List Item) :
    lastCandidate limit l = none ↔ ∀ j, j < limit → candidateAt l j = false := by
  unfold lastCandidate
  rw [List.getLast?_eq_none_iff, List.filter_eq_nil_iff]
  simp [candidateAt]

/-! ### The word at a line's end (R22) -/

/-- The letter run at a line's end is its last word. -/
theorem endWord_letterRun (l : List Item) :
    EndWord l (l.take (l.length - letterRun l)) (l.drop (l.length - letterRun l)) := by
  have hr : letterRun l = (l.rtakeWhile Item.isLetterItem).length := by
    simp [letterRun, List.rtakeWhile]
  have hs : l = l.rdropWhile Item.isLetterItem ++ l.rtakeWhile Item.isLetterItem := by
    rw [List.rdropWhile, List.rtakeWhile, ← List.reverse_append, List.takeWhile_append_dropWhile, List.reverse_reverse]
  have hk : l.length - letterRun l = (l.rdropWhile Item.isLetterItem).length := by
    have := congrArg List.length hs
    rw [List.length_append] at this
    omega
  have ht : l.take (l.length - letterRun l) = l.rdropWhile Item.isLetterItem := by
    rw [hk]; nth_rewrite 2 [hs]; exact List.take_left
  have hd : l.drop (l.length - letterRun l) = l.rtakeWhile Item.isLetterItem := by
    rw [hk]; nth_rewrite 2 [hs]; exact List.drop_left
  rw [ht, hd]
  refine ⟨hs, fun i hi => List.mem_rtakeWhile_imp hi, fun i hi => ?_⟩
  have hne : l.rdropWhile Item.isLetterItem ≠ [] := by rintro h; simp [h] at hi
  have := List.rdropWhile_last_not Item.isLetterItem l hne
  rw [List.getLast?_eq_some_getLast hne, Option.some.injEq] at hi
  rw [← hi]
  simpa using this

/-- A line has one last word. -/
theorem EndWord.unique {l a w b v : List Item} (h : EndWord l a w) (h' : EndWord l b v) : a = b ∧ w = v := by
  obtain ⟨rfl, hw, ha⟩ := h
  obtain ⟨e, hv, hb⟩ := h'
  rcases List.append_eq_append_iff.1 e with ⟨c, rfl, rfl⟩ | ⟨c, rfl, rfl⟩
  · rcases List.eq_nil_or_concat c with rfl | ⟨c, x, rfl⟩
    · simp
    · exact absurd (hb x (by simp)) (by rw [hw x (by simp)]; decide)
  · rcases List.eq_nil_or_concat c with rfl | ⟨c, x, rfl⟩
    · simp
    · exact absurd (ha x (by simp)) (by rw [hv x (by simp)]; decide)

/-! ### The Composer's work, piece after piece -/

@[simp] theorem runTasksFuel_nil (fuel : Nat) (s : State) (h : s.composer.todo = []) : s.runTasksFuel fuel = s := by
  cases fuel with
  | zero => rfl
  | succ n =>
    unfold State.runTasksFuel
    split
    · rfl
    · rw [h]

/-- A Composer that waits does no work. -/
theorem runTasksFuel_waits (fuel : Nat) (s : State) (h : s.composerWaits = true) : s.runTasksFuel fuel = s := by
  cases fuel with
  | zero => rfl
  | succ n => unfold State.runTasksFuel; rw [if_pos h]

/-- One that does not wait does the first piece, and goes on. -/
theorem runTasksFuel_cons (fuel : Nat) (s : State) (t : Task) (rest : List Task) (h : s.composerWaits = false)
    (ht : s.composer.todo = t :: rest) :
    s.runTasksFuel (fuel + 1) = (({ s with composer.todo := rest } : State).doTask t).runTasksFuel fuel := by
  rw [State.runTasksFuel, if_neg (by simp [h])]
  split
  · rename_i e; rw [ht] at e; cases e
  · rename_i e; rw [ht] at e; cases e; rfl

end Sys2Proof.Machine
end

