-- ==== Sys2Proof/Laws/Kept.lean ====
section
/-! SUPPORT. What every block but the Bank Port and the Photounit Sequencer leaves alone: one lemma for each
operation. A proof about memory, the command queue, the bank's cycles or the film cites these and unfolds nothing. -/

namespace Sys2Proof.Machine

/-- What an operation outside the Bank Port keeps. -/
structure Outer where
  mem : List (Nat × Word)
  freeCount : Nat
  pending : List Instr
  mask : Word
  held : Option HostCycle
  hostQueue : List HostCycle
  cycle : Option Requester
  disabled : PerRequester Bool
  lastFault : PerRequester Nat
  deriving DecidableEq, Repr

/-- What an operation outside the Bank Port and the Sequencer keeps. -/
structure Inner where
  outer : Outer
  seq : Sequencer
  deriving DecidableEq, Repr

def State.outer (s : State) : Outer :=
  { mem := s.mem, freeCount := s.freeCount, pending := s.pending, mask := s.port.mask, held := s.port.held,
    hostQueue := s.port.hostQueue, cycle := s.port.cycle, disabled := s.port.disabled, lastFault := s.port.lastFault }

def State.inner (s : State) : Inner := { outer := s.outer, seq := s.seq }

@[simp] theorem inner_mk (s : State) (i : Intake) (c : Composer) (h : Hyphenator) (f : FontControl)
    (q : List Entry) (e : Exposure) (w : Option WaitingReport) (pa : PanelLink) (pr : ProofUnit) (st : StatusWriter) :
    State.inner ⟨s.mem, s.port, i, c, h, f, q, e, w, s.seq, pa, pr, st, s.freeCount, s.pending⟩ = s.inner := rfl

@[simp] theorem inner_mk_port (s : State) (t : HoldTimer) (rq : PerRequester (Option CycleRequest))
    (i : Intake) (c : Composer) (h : Hyphenator) (f : FontControl)
    (q : List Entry) (e : Exposure) (w : Option WaitingReport) (pa : PanelLink) (pr : ProofUnit) (st : StatusWriter) :
    State.inner ⟨s.mem, ⟨s.port.mask, t, s.port.held, s.port.hostQueue, s.port.cycle, rq, s.port.disabled,
      s.port.lastFault⟩, i, c, h, f, q, e, w, s.seq, pa, pr, st, s.freeCount, s.pending⟩ = s.inner := rfl

@[simp] theorem outer_mk (s : State) (i : Intake) (c : Composer) (h : Hyphenator) (f : FontControl)
    (q : List Entry) (e : Exposure) (w : Option WaitingReport) (x : Sequencer) (pa : PanelLink) (pr : ProofUnit)
    (st : StatusWriter) :
    State.outer ⟨s.mem, s.port, i, c, h, f, q, e, w, x, pa, pr, st, s.freeCount, s.pending⟩ = s.outer := rfl

@[simp] theorem outer_mk_port (s : State) (t : HoldTimer) (rq : PerRequester (Option CycleRequest))
    (i : Intake) (c : Composer) (h : Hyphenator) (f : FontControl)
    (q : List Entry) (e : Exposure) (w : Option WaitingReport) (x : Sequencer) (pa : PanelLink) (pr : ProofUnit)
    (st : StatusWriter) :
    State.outer ⟨s.mem, ⟨s.port.mask, t, s.port.held, s.port.hostQueue, s.port.cycle, rq, s.port.disabled,
      s.port.lastFault⟩, i, c, h, f, q, e, w, x, pa, pr, st, s.freeCount, s.pending⟩ = s.outer := rfl

/-- Operations in a row keep what each keeps. -/
theorem foldl_inner {α : Type} (f : State → α → State) (hf : ∀ s a, (f s a).inner = s.inner) :
    ∀ (l : List α) (s : State), (l.foldl f s).inner = s.inner
  | [], _ => rfl
  | a :: l, s => (foldl_inner f hf l (f s a)).trans (hf s a)

/-! ### Ops -/

@[simp] theorem State.mark_inner (s : State) (offs : List Nat) :
    (s.mark offs).inner = s.inner := by
  simp [State.mark]

@[simp] theorem State.markIf_inner (s : State) (changed : Bool) (offs : List Nat) :
    (s.markIf changed offs).inner = s.inner := by
  simp only [State.markIf]
  split <;> simp

@[simp] theorem State.markAll_inner (s : State) :
    (s.markAll).inner = s.inner := by
  simp [State.markAll]

@[simp] theorem State.giveUpRequest_inner (s : State) (r : Requester) :
    (s.giveUpRequest r).inner = s.inner := by
  simp only [State.giveUpRequest]
  split <;> simp

/-! ### Flags -/

@[simp] theorem State.raise_inner (s : State) (f : EventFlag) :
    (s.raise f).inner = s.inner := by
  simp only [State.raise]
  split <;> simp

@[simp] theorem State.copyError_inner (s : State) (k : CopyError) (off : Nat) :
    (s.copyError k off).inner = s.inner := by
  simp [State.copyError]

@[simp] theorem State.flagClamped_inner (s : State) :
    (s.flagClamped).inner = s.inner := by
  simp only [State.flagClamped]
  split <;> simp

/-! ### PanelLink -/

@[simp] theorem State.toPanel_inner (s : State) (m : PanelMessage) :
    (s.toPanel m).inner = s.inner := by
  simp [State.toPanel]

@[simp] theorem State.refuse_inner (s : State) (r : ReasonWord) :
    (s.refuse r).inner = s.inner := by
  simp [State.refuse]

@[simp] theorem State.showWith_inner (s : State) (notice : Bool) (result : Option ManualResult) :
    (s.showWith notice result).inner = s.inner := by
  simp [State.showWith]

@[simp] theorem State.display_inner (s : State) :
    (s.display).inner = s.inner := by
  simp [State.display]

@[simp] theorem State.alarmOnce_inner (s : State) :
    (s.alarmOnce).inner = s.inner := by
  simp only [State.alarmOnce]
  split <;> simp

@[simp] theorem State.sendCall_inner (s : State) (p : Fin 8) :
    (s.sendCall p).inner = s.inner := by
  simp [State.sendCall]

@[simp] theorem State.makeCall_inner (s : State) (p : Fin 8) :
    (s.makeCall p).inner = s.inner := by
  simp [State.makeCall]

@[simp] theorem State.endCall_inner (s : State) (p : Fin 8) :
    (s.endCall p).inner = s.inner := by
  unfold State.endCall
  dsimp only
  (repeat' split) <;> simp

@[simp] theorem State.ownBy_inner (s : State) (o : Ownership) : (s.ownBy o).inner = s.inner := by
  simp [State.ownBy]

@[simp] theorem State.setOwnership_inner (s : State) (o : Ownership) :
    (s.setOwnership o).inner = s.inner := by
  simp only [State.setOwnership]
  split <;> simp

/-! ### FontControl -/

@[simp] theorem State.refreshInUseAt_inner (s : State) (p : Fin 8) :
    (s.refreshInUseAt p).inner = s.inner := by
  simp only [State.refreshInUseAt]
  split <;> simp

@[simp] theorem State.refreshInUse_inner (s : State) :
    (s.refreshInUse).inner = s.inner := foldl_inner _ (by simp) _ _

@[simp] theorem State.setPosition_inner (s : State) (p : Fin 8) (e : Position) :
    (s.setPosition p e).inner = s.inner := by
  simp only [State.setPosition]
  split <;> simp

@[simp] theorem State.dropWidths_inner (s : State) (p : Fin 8) :
    (s.dropWidths p).inner = s.inner := by
  simp [State.dropWidths]

@[simp] theorem State.refusePosition_inner (s : State) (p : Fin 8) (r : Reason) :
    (s.refusePosition p r).inner = s.inner := by
  simp [State.refusePosition]

@[simp] theorem State.beginFetches_inner : ∀ (n : Nat) (s : State), (State.beginFetches n s).inner = s.inner
  | 0, _ => rfl
  | n + 1, s => by
    unfold State.beginFetches
    split
    · split
      · rw [State.beginFetches_inner n]; simp
      · rfl
    · rfl

@[simp] theorem State.startFetches_inner (s : State) :
    (s.startFetches).inner = s.inner := by
  simp [State.startFetches]

@[simp] theorem State.joinFetchList_inner (s : State) (p : Fin 8) :
    (s.joinFetchList p).inner = s.inner := by
  simp [State.joinFetchList]

@[simp] theorem State.leaveFetchList_inner (s : State) (p : Fin 8) :
    (s.leaveFetchList p).inner = s.inner := by
  simp only [State.leaveFetchList]
  split <;> simp

@[simp] theorem State.endFetch_inner (s : State) :
    (s.endFetch).inner = s.inner := by
  simp [State.endFetch]

@[simp] theorem State.refuseFetch_inner (s : State) (p : Fin 8) (r : Reason) :
    (s.refuseFetch p r).inner = s.inner := by
  simp [State.refuseFetch]

@[simp] theorem State.leaveOldState_inner (s : State) (p : Fin 8) (old : PosState) :
    (s.leaveOldState p old).inner = s.inner := by
  simp only [State.leaveOldState]
  split <;> simp

@[simp] theorem State.vacate_inner (s : State) (p : Fin 8) (r : Option Reason) :
    (s.vacate p r).inner = s.inner := by
  simp [State.vacate]

@[simp] theorem State.clearRefused_inner (s : State) (p : Fin 8) (n : Nat) :
    (s.clearRefused p n).inner = s.inner := foldl_inner _ (fun s q => by split <;> simp) _ _

@[simp] theorem State.requestFont_inner (s : State) (p : Fin 8) (n : Nat) (fix wait : Bool) (origin : Origin) :
    (s.requestFont p n fix wait origin).inner = s.inner := by
  simp [State.requestFont]

@[simp] theorem State.loadFont_inner (s : State) (p : Fin 8) (n : Nat) (fix : Bool) (origin : Option Origin) :
    (s.loadFont p n fix origin).inner = s.inner := by
  simp [State.loadFont]

@[simp] theorem State.resolveSize_inner (s : State) (asked : Nat) :
    (s.resolveSize asked).inner = s.inner := by
  simp [State.resolveSize]

@[simp] theorem State.agePositions_inner (s : State) (l : LineEntry) :
    (s.agePositions l).inner = s.inner := 
  foldl_inner _ (fun s q => by dsimp only; rw [apply_ite State.inner]; simp) _ _

/-! ### SetQueue -/

@[simp] theorem State.postMark_inner (s : State) (v : Word) :
    (s.postMark v).inner = s.inner := by
  simp [State.postMark]

@[simp] theorem State.postMarks_inner (s : State) (l : List Word) :
    (s.postMarks l).inner = s.inner := foldl_inner _ (by simp) _ _

@[simp] theorem State.writeReport_inner (s : State) (r : Report) :
    (s.writeReport r).inner = s.inner := by
  simp [State.writeReport]

@[simp] theorem State.setExposure_inner (s : State) (x : Exposure) :
    (s.setExposure x).inner = s.inner := by
  simp only [State.setExposure]
  split <;> simp

@[simp] theorem State.startExposure_inner (s : State) (t : Option JobTag) :
    (s.startExposure t).inner = s.inner := by
  unfold State.startExposure
  dsimp only
  (repeat' split) <;> simp

@[simp] theorem State.addFilmUsed_inner (s : State) (t : Option JobTag) (d : Int) :
    (s.addFilmUsed t d).inner = s.inner := by
  simp only [State.addFilmUsed]
  split <;> simp

@[simp] theorem State.clampExposure_inner (s : State) (t : Option JobTag) :
    (s.clampExposure t).inner = s.inner := by
  simp only [State.clampExposure]
  split <;> simp

@[simp] theorem State.countLineExposed_inner (s : State) (t : Option JobTag) :
    (s.countLineExposed t).inner = s.inner := by
  simp only [State.countLineExposed]
  split <;> simp

@[simp] theorem State.reportJobEnd_inner (s : State) (t : Option JobTag) (j : JobEndEntry) :
    (s.reportJobEnd t j).inner = s.inner := by
  simp [State.reportJobEnd]

@[simp] theorem State.reportAbort_inner (s : State) (r : WaitingReport) :
    (s.reportAbort r).inner = s.inner := by
  simp only [State.reportAbort]
  split <;> simp

@[simp] theorem State.wakePositionWait_inner (s : State) :
    (s.wakePositionWait).inner = s.inner := by
  simp [State.wakePositionWait]

@[simp] theorem State.releaseDone_inner (s : State) :
    (s.releaseDone).inner = s.inner := by
  simp only [State.releaseDone]
  split <;> simp

@[simp] theorem State.markInExposure_inner (s : State) :
    (s.markInExposure).inner = s.inner := by
  simp [State.markInExposure]

@[simp] theorem State.markExposed_inner (s : State) :
    (s.markExposed).inner = s.inner := by
  simp [State.markExposed]

@[simp] theorem State.markInProof_inner (s : State) :
    (s.markInProof).inner = s.inner := by
  simp [State.markInProof]

@[simp] theorem State.markProofed_inner (s : State) :
    (s.markProofed).inner = s.inner := by
  simp [State.markProofed]

@[simp] theorem State.lineAccepted_inner (s : State) (l : LineEntry) :
    (s.lineAccepted l).inner = s.inner := by
  simp [State.lineAccepted]

@[simp] theorem State.acceptEntry_inner (s : State) (k : EntryKind) :
    (s.acceptEntry k).inner = s.inner := by
  simp only [State.acceptEntry]
  split <;> simp

@[simp] theorem State.queueComplete_inner (s : State) (e : Entry) :
    (s.queueComplete e).inner = s.inner := by
  unfold State.queueComplete
  dsimp only
  (repeat' split) <;> simp

/-! ### ProofUnit -/

@[simp] theorem State.setHalf_inner (s : State) (h : Half) (x : HalfState) :
    (s.setHalf h x).inner = s.inner := by
  simp only [State.setHalf]
  split <;> simp

@[simp] theorem State.setWritePoint_inner (s : State) (p : SpoolPoint) :
    (s.setWritePoint p).inner = s.inner := by
  simp [State.setWritePoint]

@[simp] theorem State.setDrainPoint_inner (s : State) (p : SpoolPoint) :
    (s.setDrainPoint p).inner = s.inner := by
  simp [State.setDrainPoint]

@[simp] theorem State.setGap_inner (s : State) (n : Nat) :
    (s.setGap n).inner = s.inner := by
  simp [State.setGap]

@[simp] theorem State.moveWritePoint_inner (s : State) :
    (s.moveWritePoint).inner = s.inner := by
  simp only [State.moveWritePoint]
  split <;> simp

@[simp] theorem State.proofDone_inner (s : State) :
    (s.proofDone).inner = s.inner := by
  simp [State.proofDone]

@[simp] theorem State.countGap_inner (s : State) :
    (s.countGap).inner = s.inner := by
  simp [State.countGap]

@[simp] theorem State.recordWritten_inner (s : State) (role : RecordRole) :
    (s.recordWritten role).inner = s.inner := by
  simp only [State.recordWritten]
  split <;> simp

@[simp] theorem State.clearProofJob_inner (s : State) :
    (s.clearProofJob).inner = s.inner := by
  simp only [State.clearProofJob]
  split <;> simp

@[simp] theorem State.fillHalf_inner (s : State) :
    (s.fillHalf).inner = s.inner := by
  simp [State.fillHalf]

@[simp] theorem State.spoolWritten_inner (s : State) :
    (s.spoolWritten).inner = s.inner := by
  unfold State.spoolWritten
  dsimp only
  (repeat' split) <;> simp

@[simp] theorem State.giveUpProof_inner (s : State) :
    (s.giveUpProof).inner = s.inner := by
  simp [State.giveUpProof]

@[simp] theorem State.portReady_inner (s : State) :
    (s.portReady).inner = s.inner := by
  simp [State.portReady]

@[simp] theorem State.printRecord_inner (s : State) (chars : List Nat) :
    (s.printRecord chars).inner = s.inner := by
  simp [State.printRecord]

@[simp] theorem State.charSent_inner (s : State) :
    (s.charSent).inner = s.inner := by
  unfold State.charSent
  dsimp only
  (repeat' split) <;> simp

@[simp] theorem State.leaveHalf_inner (s : State) :
    (s.leaveHalf).inner = s.inner := by
  simp [State.leaveHalf]

@[simp] theorem State.recordRead_inner (s : State) (stop : Nat) (chars : List Nat) :
    (s.recordRead stop chars).inner = s.inner := by
  simp only [State.recordRead]
  split <;> simp

@[simp] theorem State.headerRead_inner (s : State) (w : Word) :
    (s.headerRead w).inner = s.inner := by
  unfold State.headerRead
  dsimp only
  (repeat' split) <;> simp

@[simp] theorem State.drainWord_inner (s : State) (w : Word) :
    (s.drainWord w).inner = s.inner := by
  unfold State.drainWord
  dsimp only
  (repeat' split) <;> simp

/-! ### Breaking -/

@[simp] theorem State.setComposer_inner (s : State) (x : ComposerState) :
    (s.setComposer x).inner = s.inner := by
  simp [State.setComposer]

@[simp] theorem State.push_inner (s : State) (l : List Task) :
    (s.push l).inner = s.inner := by
  simp [State.push]

@[simp] theorem State.joinItem_inner (s : State) (i : Item) :
    (s.joinItem i).inner = s.inner := by
  simp [State.joinItem]

@[simp] theorem State.prepareLine_inner (s : State) :
    (s.prepareLine).inner = s.inner := by
  unfold State.prepareLine
  dsimp only
  (repeat' split) <;> simp

@[simp] theorem State.ineligible_inner (s : State) :
    (s.ineligible).inner = s.inner := by
  simp [State.ineligible]

@[simp] theorem State.capWord_inner (s : State) :
    (s.capWord).inner = s.inner := by
  simp only [State.capWord]
  split <;> simp

@[simp] theorem State.breakWith_inner (s : State) (t : Token) :
    (s.breakWith t).inner = s.inner := by
  simp [State.breakWith]

@[simp] theorem State.lookaheadLetter_inner (s : State) (i : Item) :
    (s.lookaheadLetter i).inner = s.inner := by
  simp only [State.lookaheadLetter]
  split <;> simp

@[simp] theorem State.addLetter_inner (s : State) (t : Token) (i : Item) :
    (s.addLetter t i).inner = s.inner := by
  unfold State.addLetter
  dsimp only
  (repeat' split) <;> simp

@[simp] theorem State.addOther_inner (s : State) (t : Token) (i : Item) :
    (s.addOther t i).inner = s.inner := by
  unfold State.addOther
  dsimp only
  (repeat' split) <;> simp

@[simp] theorem State.discardNoFont_inner (s : State) (offset : Nat) :
    (s.discardNoFont offset).inner = s.inner := by
  simp only [State.discardNoFont]
  split <;> simp

@[simp] theorem State.setCharIn_inner (s : State) (p : Fin 8) (c offset : Nat) :
    (s.setCharIn p c offset).inner = s.inner := by
  simp only [State.setCharIn]
  split <;> simp

@[simp] theorem State.setCharDefault_inner (s : State) (c offset : Nat) :
    (s.setCharDefault c offset).inner = s.inner := by
  simp only [State.setCharDefault]
  split <;> simp

@[simp] theorem State.enterFontWait_inner (s : State) (n : Nat) (target : WaitTarget) (char : Option (Nat × Nat)) :
    (s.enterFontWait n target char).inner = s.inner := by
  simp [State.enterFontWait]

@[simp] theorem State.callFont_inner (s : State) (n : Nat) (p : Fin 8) :
    (s.callFont n p).inner = s.inner := by
  simp [State.callFont]

@[simp] theorem State.dropCurrent_inner (s : State) :
    (s.dropCurrent).inner = s.inner := by
  simp [State.dropCurrent]

@[simp] theorem State.reresolve_inner (s : State) (n c offset : Nat) :
    (s.reresolve n c offset).inner = s.inner := by
  simp only [State.reresolve]
  split <;> simp

@[simp] theorem State.setChar_inner (s : State) (c offset : Nat) :
    (s.setChar c offset).inner = s.inner := by
  unfold State.setChar
  (repeat' split) <;> simp

@[simp] theorem State.setSpace_inner (s : State) :
    (s.setSpace).inner = s.inner := by
  unfold State.setSpace
  dsimp only
  (repeat' split) <;> simp

@[simp] theorem State.setTie_inner (s : State) (offset : Nat) :
    (s.setTie offset).inner = s.inner := by
  simp only [State.setTie]
  split <;> simp

@[simp] theorem State.setFixed_inner (s : State) (units : Nat) :
    (s.setFixed units).inner = s.inner := by
  simp only [State.setFixed]
  split <;> simp

@[simp] theorem State.takeToken_inner (s : State) (t : Token) :
    (s.takeToken t).inner = s.inner := by
  unfold State.takeToken
  (repeat' split) <;> simp

@[simp] theorem State.makeOverset_inner (s : State) (items : List Item) :
    (s.makeOverset items).inner = s.inner := by
  simp [State.makeOverset]

@[simp] theorem State.finishBreak_inner (s : State) (e : LineEntry) (carried : List Item) (gov : Option GovFont)
    (w : WordRun) :
    (s.finishBreak e carried gov w).inner = s.inner := by
  simp [State.finishBreak]

@[simp] theorem State.oversetBreak_inner (s : State) (l : Line) (r : Nat) :
    (s.oversetBreak l r).inner = s.inner := by
  simp [State.oversetBreak]

@[simp] theorem State.noteGlyph_inner (s : State) (ended : List Item) :
    (s.noteGlyph ended).inner = s.inner := rfl

@[simp] theorem State.divideLine_inner (s : State) (l : Line) (d : Division) (hyphenated loose : Bool) :
    (s.divideLine l d hyphenated loose).inner = s.inner := by
  simp [State.divideLine]

@[simp] theorem State.breakLine_inner (s : State) (again : Bool) :
    (s.breakLine again).inner = s.inner := by
  unfold State.breakLine
  dsimp only
  (repeat' split) <;> simp

@[simp] theorem State.retestLine_inner (s : State) :
    (s.retestLine).inner = s.inner := by
  simp only [State.retestLine]
  split <;> simp

@[simp] theorem State.endLine_inner (s : State) (a : Align) (always : Bool) :
    (s.endLine a always).inner = s.inner := by
  simp [State.endLine]

@[simp] theorem State.offer_inner (s : State) (k : EntryKind) :
    (s.offer k).inner = s.inner := by
  simp only [State.offer]
  split <;> simp

@[simp] theorem State.makeJobEnd_inner (s : State) (o : JobOutcome) (given : Word) :
    (s.makeJobEnd o given).inner = s.inner := by
  simp [State.makeJobEnd]

@[simp] theorem State.beginJob_inner (s : State) (number : Word) :
    (s.beginJob number).inner = s.inner := by
  simp [State.beginJob]

@[simp] theorem State.leaveJob_inner (s : State) :
    (s.leaveJob).inner = s.inner := by
  simp [State.leaveJob]

@[simp] theorem State.doTask_inner (s : State) (t : Task) :
    (s.doTask t).inner = s.inner := by
  cases t <;> first | rfl | simp [State.doTask]

@[simp] theorem State.runTasksFuel_inner : ∀ (n : Nat) (s : State), (State.runTasksFuel n s).inner = s.inner
  | 0, _ => rfl
  | n + 1, s => by
    unfold State.runTasksFuel
    split
    · rfl
    · split
      · rfl
      · rw [State.runTasksFuel_inner n]; simp

@[simp] theorem State.runTasks_inner (s : State) :
    (s.runTasks).inner = s.inner := by
  simp [State.runTasks]

@[simp] theorem State.work_inner (s : State) (l : List Task) :
    (s.work l).inner = s.inner := by
  simp [State.work]

@[simp] theorem State.endFontWait_inner (s : State) (w : FontWait) :
    (s.endFontWait w).inner = s.inner := by
  simp only [State.endFontWait]
  split <;> simp

@[simp] theorem State.waitSelects_inner (s : State) (w : FontWait) (p : Fin 8) :
    (s.waitSelects w p).inner = s.inner := by
  simp [State.waitSelects]

@[simp] theorem State.waitSubstitutes_inner (s : State) (w : FontWait) :
    (s.waitSubstitutes w).inner = s.inner := by
  simp [State.waitSubstitutes]

@[simp] theorem State.acceptHeld_inner (s : State) (k : EntryKind) :
    (s.acceptHeld k).inner = s.inner := by
  simp [State.acceptHeld]

@[simp] theorem State.removeEntries_inner (s : State) (t : JobTag) :
    (s.removeEntries t).inner = s.inner := by
  simp only [State.removeEntries]
  split <;> simp

@[simp] theorem State.withdrawCalls_inner (s : State) (t : JobTag) :
    (s.withdrawCalls t).inner = s.inner := foldl_inner _ (fun s q => by split <;> simp) _ _

@[simp] theorem State.abortReport_inner (s : State) (r : WaitingReport) :
    (s.abortReport r).inner = s.inner := by
  simp only [State.abortReport]
  split <;> simp

@[simp] theorem State.jobAbort_inner (s : State) (o : JobOutcome) :
    (s.jobAbort o).inner = s.inner := by
  simp only [State.jobAbort]
  split <;> simp

/-! ### CopyStream -/

@[simp] theorem State.rollSum_inner (s : State) (w : Word) :
    (s.rollSum w).inner = s.inner := by
  simp only [State.rollSum]
  split <;> simp

@[simp] theorem State.consume_inner (s : State) (w : Word) :
    (s.consume w).inner = s.inner := by
  simp only [State.consume]
  split <;> simp

@[simp] theorem State.endTextRun_inner (s : State) :
    (s.endTextRun).inner = s.inner := by
  simp [State.endTextRun]

theorem State.textWord_inner (s : State) (offset : Nat) (f : State → State) (hf : ∀ t, (f t).inner = t.inner) :
    (s.textWord offset f).inner = s.inner := by
  unfold State.textWord
  (repeat' split) <;> first | rfl | exact hf _ | simp

theorem State.jobCommand_inner (s : State) (d : Command) (f : State → State) (hf : ∀ t, (f t).inner = t.inner) :
    (s.jobCommand d f).inner = s.inner := by
  unfold State.jobCommand
  (repeat' split) <;> first | rfl | exact hf _ | simp

theorem State.standingCommand_inner (s : State) (f : State → State) (hf : ∀ t, (f t).inner = t.inner) :
    (s.standingCommand f).inner = s.inner := by
  unfold State.standingCommand
  (repeat' split) <;> first | rfl | exact hf _

@[simp] theorem State.badOperand_inner (s : State) (d : Command) :
    (s.badOperand d).inner = s.inner := by
  simp [State.badOperand]

@[simp] theorem State.recordPoint_inner (s : State) :
    (s.recordPoint).inner = s.inner := by
  simp only [State.recordPoint]
  split <;> simp

@[simp] theorem State.copyErrorUnlessDiscarding_inner (s : State) (k : CopyError) (offset : Nat) :
    (s.copyErrorUnlessDiscarding k offset).inner = s.inner := by
  simp only [State.copyErrorUnlessDiscarding]
  split <;> simp

@[simp] theorem State.beginCommand_inner (s : State) (c : Cmd) (w : Word) (offset : Nat) :
    (s.beginCommand c w offset).inner = s.inner := by
  simp [State.beginCommand]

@[simp] theorem State.takeOperand_inner (s : State) (w : Word) :
    (s.takeOperand w).inner = s.inner := by
  simp [State.takeOperand]

@[simp] theorem State.jobEffect_inner (s : State) (d : Command) :
    (s.jobEffect d).inner = s.inner := by
  unfold State.jobEffect
  (repeat' split) <;> simp

@[simp] theorem State.endjobEffect_inner (s : State) (d : Command) :
    (s.endjobEffect d).inner = s.inner := by
  simp [State.endjobEffect]

@[simp] theorem State.measureEffect_inner (s : State) (d : Command) :
    (s.measureEffect d).inner = s.inner := by
  unfold State.measureEffect
  dsimp only
  (repeat' split) <;> simp

@[simp] theorem State.leadEffect_inner (s : State) (d : Command) :
    (s.leadEffect d).inner = s.inner := by
  simp only [State.leadEffect]
  split <;> simp

@[simp] theorem State.fontEffect_inner (s : State) (d : Command) :
    (s.fontEffect d).inner = s.inner := by
  unfold State.fontEffect
  dsimp only
  (repeat' split) <;> simp

@[simp] theorem State.sizeEffect_inner (s : State) (d : Command) :
    (s.sizeEffect d).inner = s.inner := by
  simp only [State.sizeEffect]
  split <;> simp

@[simp] theorem State.quadEffect_inner (s : State) (d : Command) :
    (s.quadEffect d).inner = s.inner := by
  simp only [State.quadEffect]
  split <;> simp

@[simp] theorem State.fixspaceEffect_inner (s : State) (d : Command) :
    (s.fixspaceEffect d).inner = s.inner := by
  simp only [State.fixspaceEffect]
  split <;> simp

@[simp] theorem State.hyphEffect_inner (s : State) (d : Command) :
    (s.hyphEffect d).inner = s.inner := by
  simp only [State.hyphEffect]
  split <;> simp

@[simp] theorem State.addException_inner (s : State) (d : Command) (e : DictEntry) :
    (s.addException d e).inner = s.inner := by
  unfold State.addException
  dsimp only
  (repeat' split) <;> simp

@[simp] theorem State.exceptEffect_inner (s : State) (d : Command) :
    (s.exceptEffect d).inner = s.inner := by
  simp only [State.exceptEffect]
  split <;> simp

@[simp] theorem State.unexceptEffect_inner (s : State) (d : Command) :
    (s.unexceptEffect d).inner = s.inner := by
  simp only [State.unexceptEffect]
  split <;> simp

@[simp] theorem State.lensesEffect_inner (s : State) (d : Command) :
    (s.lensesEffect d).inner = s.inner := by
  unfold State.lensesEffect
  dsimp only
  (repeat' split) <;> simp

@[simp] theorem State.mountAt_inner (s : State) (p : Fin 8) (n : Nat) (fix wait : Bool) :
    (s.mountAt p n fix wait).inner = s.inner := by
  unfold State.mountAt
  dsimp only
  (repeat' split) <;> simp

@[simp] theorem State.mountEffect_inner (s : State) (d : Command) :
    (s.mountEffect d).inner = s.inner := by
  unfold State.mountEffect
  dsimp only
  (repeat' split) <;> simp

@[simp] theorem State.emptyPosition_inner (s : State) (p : Fin 8) :
    (s.emptyPosition p).inner = s.inner := by
  simp only [State.emptyPosition]
  split <;> simp

@[simp] theorem State.releaseEffect_inner (s : State) (d : Command) :
    (s.releaseEffect d).inner = s.inner := by
  unfold State.releaseEffect
  (repeat' split) <;> simp

@[simp] theorem State.moveEffect_inner (s : State) (d : Command) (sign : Int) :
    (s.moveEffect d sign).inner = s.inner := by
  unfold State.moveEffect
  dsimp only
  (repeat' split) <;> simp

@[simp] theorem State.cutEffect_inner (s : State) :
    (s.cutEffect).inner = s.inner := by
  simp [State.cutEffect]

@[simp] theorem State.proofEffect_inner (s : State) (d : Command) :
    (s.proofEffect d).inner = s.inner := by
  simp only [State.proofEffect]
  split <;> simp

@[simp] theorem State.displayEffect_inner (s : State) (d : Command) :
    (s.displayEffect d).inner = s.inner := by
  simp only [State.displayEffect]
  split <;> simp

@[simp] theorem State.markOutside_inner (s : State) (v : Word) :
    (s.markOutside v).inner = s.inner := by
  unfold State.markOutside
  dsimp only
  (repeat' split) <;> simp

@[simp] theorem State.markEffect_inner (s : State) (d : Command) :
    (s.markEffect d).inner = s.inner := by
  unfold State.markEffect
  dsimp only
  (repeat' split) <;> simp

/-! ### Posting -/

@[simp] theorem State.beginPass_inner (s : State) :
    (s.beginPass).inner = s.inner := by
  simp [State.beginPass]

@[simp] theorem State.advancePass_inner (s : State) :
    (s.advancePass).inner = s.inner := by
  simp only [State.advancePass]
  split <;> simp

end Sys2Proof.Machine
end

