-- ==== Sys2Proof/Laws/Memory.lean ====
section
/-! SUPPORT. The laws of the setting bank: reading after writing, and the canonical form kept by every write. -/

namespace Sys2Proof.Machine

/-! ### The canonical form -/

/-- A lower bound may be lowered. -/
theorem memWfFrom_mono : ∀ {m : List (Nat × Word)} {a b : Nat}, a ≤ b → memWfFrom b m = true → memWfFrom a m = true
  | [], _, _, _, _ => rfl
  | (x, w) :: m, a, b, h, hw => by
    simp only [memWfFrom, Bool.and_eq_true, decide_eq_true_eq] at hw ⊢
    exact ⟨⟨Nat.le_trans h hw.1.1, hw.1.2⟩, hw.2⟩

/-- An offset below every listed one reads 0. -/
theorem readMem_below : ∀ {m : List (Nat × Word)} {low off : Nat}, memWfFrom low m = true → off < low →
    readMem m off = 0
  | [], _, _, _, _ => rfl
  | (x, w) :: m, low, off, hw, h => by
    simp only [memWfFrom, Bool.and_eq_true, decide_eq_true_eq] at hw
    have hx : x ≠ off := by omega
    simp only [readMem, hx, if_false]
    exact readMem_below hw.2 (by omega)

/-- A write keeps the canonical form. -/
theorem memWfFrom_writeMem : ∀ {m : List (Nat × Word)} {low : Nat} (off : Nat) (w : Word), low ≤ off →
    memWfFrom low m = true → memWfFrom low (writeMem m off w) = true
  | [], low, off, w, h, _ => by
    unfold writeMem
    split
    · rfl
    · rename_i hw
      simpa [memWfFrom, h] using hw
  | (x, v) :: m, low, off, w, h, hm => by
    have hm' := hm
    simp only [memWfFrom, Bool.and_eq_true, decide_eq_true_eq, bne_iff_ne] at hm
    obtain ⟨⟨h1, h2⟩, h3⟩ := hm
    unfold writeMem
    split
    · split
      · exact hm'
      · rename_i hlt hw
        have : off + 1 ≤ x := hlt
        simpa [memWfFrom, h, this, h3] using And.intro hw h2
    · split
      · rename_i hlt heq
        subst heq
        split
        · exact memWfFrom_mono (by omega) h3
        · rename_i hw
          simpa [memWfFrom, h1, h3] using hw
      · have : x + 1 ≤ off := by omega
        simp only [memWfFrom, Bool.and_eq_true, decide_eq_true_eq, bne_iff_ne]
        exact ⟨⟨h1, h2⟩, memWfFrom_writeMem off w this h3⟩

/-- A write keeps the canonical form of the bank. -/
theorem memWf_writeMem {m : List (Nat × Word)} (off : Nat) (w : Word) (h : memWf m = true) :
    memWf (writeMem m off w) = true := memWfFrom_writeMem off w (Nat.zero_le _) h

/-- The bank is in canonical form after a good write. -/
theorem State.write_memWf (s : State) (off : Nat) (w : Word) (h : memWf s.mem = true) :
    memWf (s.write off w).mem = true := memWf_writeMem off w h

/-- The bank is in canonical form after a faulted write. -/
theorem State.writeFaulted_memWf (s : State) (off : Nat) (h : memWf s.mem = true) :
    memWf (s.writeFaulted off).mem = true := memWf_writeMem off _ h

/-- The bank is in canonical form after a host's data reach it, whatever the bank made of them. -/
theorem State.hostStore_memWf (s : State) (off : Nat) (w : Word) (b : BusResult) (h : memWf s.mem = true) :
    memWf (s.hostStore off w b).mem = true := by
  cases b <;> exact memWf_writeMem off _ h

/-- The bank is in canonical form at power-on. -/
theorem reset_memWf : memWf State.reset.mem = true := rfl

/-! ### Reading after writing -/

/-- A word reads as it was written. -/
theorem readMem_writeMem_same : ∀ {m : List (Nat × Word)} {low : Nat} (off : Nat) (w : Word),
    memWfFrom low m = true → readMem (writeMem m off w) off = w
  | [], _, off, w, _ => by
    unfold writeMem
    split
    · rename_i h; simp [readMem, h]
    · simp [readMem]
  | (x, v) :: m, low, off, w, hm => by
    simp only [memWfFrom, Bool.and_eq_true, decide_eq_true_eq, bne_iff_ne] at hm
    obtain ⟨⟨_, _⟩, h3⟩ := hm
    unfold writeMem
    split
    · split
      · rename_i hlt hw
        have hx : x ≠ off := by omega
        simp only [readMem, hx, if_false, hw]
        exact readMem_below h3 (by omega)
      · simp [readMem]
    · split
      · rename_i hlt heq
        subst heq
        split
        · rename_i hw
          rw [hw]
          exact readMem_below h3 (by omega)
        · simp [readMem]
      · have hx : x ≠ off := by omega
        simp only [readMem, hx, if_false]
        exact readMem_writeMem_same off w h3

/-- Every other word reads as before. -/
theorem readMem_writeMem_other : ∀ {m : List (Nat × Word)} {low : Nat} (off : Nat) (w : Word) {a : Nat},
    memWfFrom low m = true → a ≠ off → readMem (writeMem m off w) a = readMem m a
  | [], _, off, w, a, _, ha => by
    unfold writeMem
    split
    · rfl
    · simp [readMem, Ne.symm ha]
  | (x, v) :: m, low, off, w, a, hm, ha => by
    simp only [memWfFrom, Bool.and_eq_true, decide_eq_true_eq, bne_iff_ne] at hm
    obtain ⟨⟨_, _⟩, h3⟩ := hm
    unfold writeMem
    split
    · split
      · rfl
      · simp [readMem, Ne.symm ha]
    · split
      · rename_i hlt heq
        subst heq
        split <;> simp [readMem, Ne.symm ha]
      · simp only [readMem]
        split
        · rfl
        · exact readMem_writeMem_other off w h3 ha

end Sys2Proof.Machine
end

