-- ==== Sys2Proof/Laws/PerInstr.lean ====
section
/-! SUPPORT. Place of the statements made per command. LAWS.json names no family: the commands have no encodings, and
what their rows admit is said by WellFormed alone. -/
end

