-- ==== Sys2Proof/Laws/Sequencer.lean ====
section
/-! SUPPORT. What the Photounit Sequencer leaves alone: everything outside its own state, the set queue's and the
panel's, and the film account but at a confirmed motion and at FILM LOADED. -/

namespace Sys2Proof.Machine

/-- What an operation of the Sequencer that confirms no motion keeps. -/
structure Account where
  outer : Outer
  film : Film
  deriving DecidableEq, Repr

def State.account (s : State) : Account := { outer := s.outer, film := s.seq.film }

/-- Two states with the same inner part have the same account. -/
theorem account_of_inner {s t : State} (h : t.inner = s.inner) : t.account = s.account := by
  simp only [State.inner, Inner.mk.injEq] at h
  simp [State.account, h.1, h.2]

/-- Two states with the same account have the same outer part. -/
theorem outer_of_account {s t : State} (h : t.account = s.account) : t.outer = s.outer := congrArg Account.outer h

@[simp] theorem account_mk (s : State) (i : Intake) (c : Composer) (h : Hyphenator) (f : FontControl) (q : List Entry)
    (e : Exposure) (w : Option WaitingReport) (st : SeqState) (hk : Option HaltKind) (it : Option Nat)
    (ac fa : Option Action) (sh le : Option (Fin 8)) (es : Option Int) (ex mi : Nat) (o : Option Order)
    (d : Option Nat) (m : Option Manual) (pa : PanelLink) (pr : ProofUnit) (sw : StatusWriter) :
    State.account ⟨s.mem, s.port, i, c, h, f, q, e, w,
      ⟨st, hk, it, ac, fa, sh, le, es, ex, mi, o, d, m, s.seq.film⟩, pa, pr, sw, s.freeCount, s.pending⟩ =
      s.account := rfl

@[simp] theorem account_mk_seq (s : State) (i : Intake) (c : Composer) (h : Hyphenator) (f : FontControl)
    (q : List Entry) (e : Exposure) (w : Option WaitingReport) (pa : PanelLink) (pr : ProofUnit) (sw : StatusWriter) :
    State.account ⟨s.mem, s.port, i, c, h, f, q, e, w, s.seq, pa, pr, sw, s.freeCount, s.pending⟩ = s.account := rfl

/-! ### Operations of the other blocks that the Sequencer calls -/

@[simp] theorem State.mark_account (s : State) (l : List Nat) : (s.mark l).account = s.account :=
  account_of_inner (by simp)
@[simp] theorem State.markIf_account (s : State) (b : Bool) (l : List Nat) : (s.markIf b l).account = s.account :=
  account_of_inner (by simp)
@[simp] theorem State.raise_account (s : State) (f : EventFlag) : (s.raise f).account = s.account :=
  account_of_inner (by simp)
@[simp] theorem State.setOwnership_account (s : State) (o : Ownership) : (s.setOwnership o).account = s.account :=
  account_of_inner (by simp)
@[simp] theorem State.display_account (s : State) : s.display.account = s.account := account_of_inner (by simp)
@[simp] theorem State.showWith_account (s : State) (b : Bool) (r : Option ManualResult) :
    (s.showWith b r).account = s.account := account_of_inner (by simp)
@[simp] theorem State.alarmOnce_account (s : State) : s.alarmOnce.account = s.account := account_of_inner (by simp)
@[simp] theorem State.refuse_account (s : State) (r : ReasonWord) : (s.refuse r).account = s.account :=
  account_of_inner (by simp)
@[simp] theorem State.queueComplete_account (s : State) (e : Entry) : (s.queueComplete e).account = s.account :=
  account_of_inner (by simp)
@[simp] theorem State.markInExposure_account (s : State) : s.markInExposure.account = s.account :=
  account_of_inner (by simp)
@[simp] theorem State.startExposure_account (s : State) (t : Option JobTag) :
    (s.startExposure t).account = s.account := account_of_inner (by simp)
@[simp] theorem State.addFilmUsed_account (s : State) (t : Option JobTag) (d : Int) :
    (s.addFilmUsed t d).account = s.account := account_of_inner (by simp)
@[simp] theorem State.clampExposure_account (s : State) (t : Option JobTag) :
    (s.clampExposure t).account = s.account := account_of_inner (by simp)

/-! ### The Sequencer's own operations -/

@[simp] theorem State.setSeq_account (s : State) (x : SeqState) : (s.setSeq x).account = s.account := by
  simp [State.setSeq]
@[simp] theorem State.setHalt_account (s : State) (k : Option HaltKind) : (s.setHalt k).account = s.account := by
  simp [State.setHalt]
@[simp] theorem State.sendOrder_account (s : State) (a : Action) (o : Order) :
    (s.sendOrder a o).account = s.account := by simp [State.sendOrder]

@[simp] theorem Sequencer.forget_film (q : Sequencer) (k : HaltKind) : (q.forget k).film = q.film := by
  cases k <;> rfl

@[simp] theorem State.haltAt_account (s : State) (k : HaltKind) (a : Action) : (s.haltAt k a).account = s.account := by
  simp only [State.haltAt, State.alarmOnce_account]
  split <;> simp only [State.display_account, State.setOwnership_account, State.raise_account,
    State.setHalt_account, State.setSeq_account] <;> simp [State.account, State.outer]

@[simp] theorem State.completeEntry_account (s : State) : s.completeEntry.account = s.account := by
  unfold State.completeEntry
  split
  · rfl
  · dsimp only
    split <;> simp

@[simp] theorem State.charAction_account (s : State) (p i : Fin 8) (t : Int) :
    (s.charAction p i t).account = s.account := by
  unfold State.charAction
  (repeat' split) <;> simp

@[simp] theorem State.workItem_account (s : State) : s.workItem.account = s.account := by
  unfold State.workItem
  split <;> simp

@[simp] theorem State.takeUpFrom_account (s : State) (i : Nat) : (s.takeUpFrom i).account = s.account := by
  unfold State.takeUpFrom
  split
  · rfl
  · split <;> simp

@[simp] theorem State.forwardMove_account (s : State) (a : Action) (t : Int) :
    (s.forwardMove a t).account = s.account := by
  unfold State.forwardMove
  split <;> simp

@[simp] theorem State.reverseMove_account (s : State) (tag : Option JobTag) (t : Int) :
    (s.reverseMove tag t).account = s.account := by
  unfold State.reverseMove
  dsimp only
  (repeat' split) <;> simp

@[simp] theorem State.filmWork_account (s : State) (e : Entry) : (s.filmWork e).account = s.account := by
  unfold State.filmWork
  (repeat' split) <;> simp

@[simp] theorem State.startEntry_account (s : State) : s.startEntry.account = s.account := by
  unfold State.startEntry
  split <;> simp

@[simp] theorem State.startsFuel_account : ∀ (n : Nat) (s : State), (State.startsFuel n s).account = s.account
  | 0, _ => rfl
  | n + 1, s => by
    unfold State.startsFuel
    split
    · rw [State.startsFuel_account n]; simp
    · rfl

@[simp] theorem State.starts_account (s : State) : s.starts.account = s.account := by simp [State.starts]

@[simp] theorem State.flashMiss_account (s : State) : s.flashMiss.account = s.account := by
  unfold State.flashMiss
  split <;> simp

@[simp] theorem State.leaveHalt_account (s : State) : s.leaveHalt.account = s.account := by simp [State.leaveHalt]

@[simp] theorem State.resume_account (s : State) : s.resume.account = s.account := by
  unfold State.resume
  (repeat' split) <;> simp

@[simp] theorem State.goOn_account (s : State) : s.goOn.account = s.account := by
  unfold State.goOn
  (repeat' split) <;> simp

@[simp] theorem State.sendManual_account (s : State) (m : ManualMotion) : (s.sendManual m).account = s.account := by
  simp [State.sendManual]

@[simp] theorem State.leaveManual_account (s : State) (m : Manual) : (s.leaveManual m).account = s.account := by
  simp [State.leaveManual]

@[simp] theorem State.abandonManual_account (s : State) (m : Manual) : (s.abandonManual m).account = s.account := by
  simp [State.abandonManual]

/-! ### Operations that change the film account (R126 to R131) -/

@[simp] theorem State.setFilm_outer (s : State) (f : Film) : (s.setFilm f).outer = s.outer :=
  (outer_of_account (State.mark_account _ _)).trans rfl

@[simp] theorem State.setFilm_film (s : State) (f : Film) : (s.setFilm f).seq.film = f :=
  congrArg Account.film (State.mark_account { s with seq.film := f } (filmChanges s.seq.film f))

@[simp] theorem State.setFilm_account (s : State) (f : Film) :
    (s.setFilm f).account = { outer := s.outer, film := f } := by simp [State.account]

@[simp] theorem State.filmMoved_account (s : State) (tag : Option JobTag) (d : Int) (c : Bool) :
    (s.filmMoved tag d c).account = { outer := s.outer, film := s.seq.film.moved d } := by
  unfold State.filmMoved
  cases c <;> simp

/-- The film account after the confirmed order `o` (R127 to R129). -/
def Order.apply (o : Order) (f : Film) : Film :=
  match o with
  | .move d _ => f.moved d
  | .cut => f.afterCut
  | _ => f

/-- A confirmed motion of an entry changes the film account as the motion says, and nothing outside. -/
theorem State.confirm_account (s : State) (o : Order) :
    (s.confirm o).account = { outer := s.outer, film := o.apply s.seq.film } := by
  cases o
  case move d c =>
    simp only [State.confirm, Order.apply]
    split <;> simp
  case cut => simp [State.confirm, Order.apply]
  all_goals (simp [State.confirm, Order.apply]; rfl)

/-- A confirmed manual motion changes the film account as the motion says, and nothing outside (R131). -/
theorem State.confirmManual_account (s : State) (m : Manual) :
    (s.confirmManual m).account = { outer := s.outer, film := m.motion.apply s.seq.film } := by
  simp [State.confirmManual]

/-! ### Film is conserved (R126) -/

theorem Film.moved_conserved {f : Film} (h : f.conserved) (d : Int) : (f.moved d).conserved := by
  simp only [Film.conserved, Film.moved] at *; omega

theorem Film.afterCut_conserved {f : Film} (h : f.conserved) : f.afterCut.conserved := by
  simp only [Film.conserved, Film.afterCut] at *; omega

theorem Film.load_conserved (x : Nat) : (Film.load x).conserved := by simp [Film.conserved, Film.load]

theorem Order.apply_conserved {f : Film} (h : f.conserved) (o : Order) : (o.apply f).conserved := by
  cases o <;> first | exact h | exact Film.moved_conserved h _ | exact Film.afterCut_conserved h

theorem ManualMotion.apply_conserved {f : Film} (h : f.conserved) (m : ManualMotion) : (m.apply f).conserved := by
  cases m <;> first | exact Film.moved_conserved h _ | exact Film.afterCut_conserved h

end Sys2Proof.Machine
end

