-- ==== Sys2Proof/Laws/Settle.lean ====
section
/-! SUPPORT. What follows every event when no host cycle waits: the requests the owners call for are made (R176),
and nothing else happens. -/

namespace Sys2Proof.Machine

/-! ### One thing for each requester -/

@[simp] theorem PerRequester.get_set_same {α : Type} (v : PerRequester α) (r : Requester) (x : α) :
    (v.set r x).get r = x := by cases r <;> rfl

theorem PerRequester.get_set_other {α : Type} (v : PerRequester α) {r q : Requester} (x : α) (h : q ≠ r) :
    (v.set r x).get q = v.get q := by cases r <;> cases q <;> first | rfl | exact absurd rfl h

@[simp] theorem PerRequester.set_get {α : Type} (v : PerRequester α) (r : Requester) : v.set r (v.get r) = v := by
  cases r <;> rfl

/-! ### Requests -/

/-- A request depends on no request. -/
@[simp] theorem State.wants_requests (s : State) (q : PerRequester (Option CycleRequest)) (r : Requester) :
    State.wants { s with port.requests := q } r = s.wants r := by cases r <;> rfl

/-- One requester's turn leaves everything but its own request, which becomes what it has outstanding. -/
theorem State.makeRequest_eq (s : State) (r : Requester) :
    s.makeRequest r = { s with port.requests := s.port.requests.set r (s.requestAfter r) } := by
  unfold State.makeRequest State.requestAfter
  cases h : s.port.requests.get r with
  | none =>
    cases hd : s.port.disabled.get r
    · simp
    · show s = { s with port.requests := s.port.requests.set r none }
      rw [← h, PerRequester.set_get]
  | some q =>
    show s = { s with port.requests := s.port.requests.set r (some q) }
    rw [← h, PerRequester.set_get]

/-- What a requester has outstanding after another's turn is what it had before. -/
theorem State.requestAfter_other (s : State) {r q : Requester} (x : Option CycleRequest) (h : q ≠ r) :
    State.requestAfter { s with port.requests := s.port.requests.set r x } q = s.requestAfter q := by
  simp [State.requestAfter, PerRequester.get_set_other _ _ h]

/-- Making every request leaves every piece of state but the requests, each as its owner calls for it (R176). -/
theorem State.makeRequests_eq (s : State) : s.makeRequests = s.requesting := by
  simp only [State.makeRequests, requesters, List.foldl, State.makeRequest_eq]
  rfl

@[simp] theorem State.requestsMade_get (s : State) (r : Requester) : s.requestsMade.get r = s.requestAfter r := by
  cases r <;> rfl

/-- A request that has been made stays as it is. -/
theorem State.requestAfter_made (s : State) (r : Requester) :
    s.requesting.requestAfter r = s.requestAfter r := by
  simp only [State.requestAfter, State.requesting, State.requestsMade_get, State.wants_requests]
  cases s.port.requests.get r with
  | some q => rfl
  | none => cases s.port.disabled.get r <;> cases s.wants r <;> rfl

/-- Requests made twice are the requests made. -/
theorem State.makeRequests_twice (s : State) : s.requesting.makeRequests = s.requesting := by
  have h : s.requesting.requestsMade = s.requestsMade := by
    simp only [State.requestsMade, PerRequester.mk.injEq]
    exact ⟨State.requestAfter_made s _, State.requestAfter_made s _, State.requestAfter_made s _,
      State.requestAfter_made s _, State.requestAfter_made s _⟩
  rw [State.makeRequests_eq]
  show ({ s.requesting with port.requests := s.requesting.requestsMade } : State) = s.requesting
  rw [h]
  rfl

/-- No host cycle is served while a part cycle is in progress, a write is held or released, or none waits. -/
theorem State.serveHost_eq (s : State) (h : s.port.hostQueue = [] ∨ s.port.cycle.isSome ∨ s.port.held.isSome) :
    s.serveHost = s := by
  unfold State.serveHost
  split
  · rename_i hc
    simp only [Bool.and_eq_true, Option.isNone_iff_eq_none] at hc
    obtain ⟨hc, hh⟩ := hc
    rcases h with h | h | h
    · rw [h]
      show ({ s with port := { s.port with hostQueue := [] } } : State) = s
      rw [← h]
    · simp [hc] at h
    · simp [hh] at h
  · rfl

/-- When no host cycle can be served, what follows an event is that the requests called for are made. -/
theorem State.settle_eq (s : State) (h : s.port.hostQueue = [] ∨ s.port.cycle.isSome ∨ s.port.held.isSome) :
    s.settle = s.requesting := by
  unfold State.settle
  rw [State.makeRequests_eq s, State.serveHost_eq s.requesting h, State.makeRequests_twice]

/-- When one host cycle waits for an idle bank, it begins once the requests called for are made, as if the host
presented it then (R168). -/
theorem State.settle_one (s : State) (h : HostCycle) (hq : s.port.hostQueue = [h]) (hc : s.port.cycle = none)
    (hh : s.port.held = none) :
    s.settle = State.makeRequests
      { State.hostWrite { s.requesting with port.hostQueue := [] } h with port.hostQueue := [] } := by
  unfold State.settle State.serveHost
  rw [State.makeRequests_eq s]
  have hq' : s.requesting.port.hostQueue = [h] := hq
  have hc' : s.requesting.port.cycle = none := hc
  have hh' : s.requesting.port.held = none := hh
  simp [hq', hc', hh', State.hostCycles, State.hostWrite]

/-- With no host cycle waiting, a command whose event happens ends in the state the event leads to. -/
theorem State.done_endsIn (s : State) (h : Quiet s) : EndsIn s.done s := by
  simp only [EndsIn, State.done, State.settle_eq s (Or.inl h)]

/-- The same for an event that may not happen. -/
theorem State.answer_endsIn {s u : State} {o : Option State} (ho : o = some u) (h : Quiet u) :
    EndsIn (s.answer o) u := by
  subst ho
  exact State.done_endsIn u h

/-- A host write presented to an idle bank begins at once (R168). -/
theorem State.hostCommand_endsIn {s u : State} {off : Nat} {w : Word} {bus : BusResult} (hs : HostIdle s)
    (ho : off < bankWords) (hu : s.hostNow { offset := off, data := w, bus := bus } = u) (hq : Quiet u) :
    EndsIn (s.hostCommand off w bus) u := by
  have : s.hostWrite { offset := off, data := w, bus := bus } = u := by
    simp [State.hostWrite, hs.1, hs.2.1, hs.2.2, hu]
  simp only [State.hostCommand, ho, if_true, this]
  exact State.done_endsIn u hq

/-- An operation that keeps the outer part of a quiet state leaves a quiet state. -/
theorem quiet_of_inner {s t : State} (h : t.inner = s.inner) (hq : Quiet s) : Quiet t := by
  have := congrArg (fun i : Inner => i.outer.hostQueue) h
  exact this.trans hq

end Sys2Proof.Machine
end

