-- ==== Sys2Proof/Laws/State.lean ====
section
/-! SUPPORT. The lemmas of the updates: for each shared operation one that says all it can change, and for those under
every meaning one lemma for each field they leave. -/

namespace Sys2Proof.Machine

/-! ### Ops -/

/-- All that `write` can change. -/
theorem State.write_frame (s : State) (off : Nat) (w : Word) :
    s.write off w = { s with
      mem := (s.write off w).mem } := rfl

@[simp] theorem State.write_port (s : State) (off : Nat) (w : Word) : (s.write off w).port = s.port := rfl
@[simp] theorem State.write_intake (s : State) (off : Nat) (w : Word) : (s.write off w).intake = s.intake := rfl
@[simp] theorem State.write_composer (s : State) (off : Nat) (w : Word) : (s.write off w).composer = s.composer := rfl
@[simp] theorem State.write_hyph (s : State) (off : Nat) (w : Word) : (s.write off w).hyph = s.hyph := rfl
@[simp] theorem State.write_font (s : State) (off : Nat) (w : Word) : (s.write off w).font = s.font := rfl
@[simp] theorem State.write_queue (s : State) (off : Nat) (w : Word) : (s.write off w).queue = s.queue := rfl
@[simp] theorem State.write_exposure (s : State) (off : Nat) (w : Word) : (s.write off w).exposure = s.exposure := rfl
@[simp] theorem State.write_waitingReport (s : State) (off : Nat) (w : Word) :
    (s.write off w).waitingReport = s.waitingReport := rfl
@[simp] theorem State.write_seq (s : State) (off : Nat) (w : Word) : (s.write off w).seq = s.seq := rfl
@[simp] theorem State.write_panel (s : State) (off : Nat) (w : Word) : (s.write off w).panel = s.panel := rfl
@[simp] theorem State.write_proof (s : State) (off : Nat) (w : Word) : (s.write off w).proof = s.proof := rfl
@[simp] theorem State.write_status (s : State) (off : Nat) (w : Word) : (s.write off w).status = s.status := rfl
@[simp] theorem State.write_freeCount (s : State) (off : Nat) (w : Word) :
    (s.write off w).freeCount = s.freeCount := rfl
@[simp] theorem State.write_pending (s : State) (off : Nat) (w : Word) : (s.write off w).pending = s.pending := rfl

/-- All that `writeFaulted` can change. -/
theorem State.writeFaulted_frame (s : State) (off : Nat) :
    s.writeFaulted off = { s with
      mem := (s.writeFaulted off).mem
      freeCount := (s.writeFaulted off).freeCount } := rfl

/-- All that `mark` can change. -/
theorem State.mark_frame (s : State) (l : List Nat) :
    s.mark l = { s with
      status.marks := (s.mark l).status.marks } := rfl

@[simp] theorem State.mark_mem (s : State) (l : List Nat) : (s.mark l).mem = s.mem := rfl
@[simp] theorem State.mark_port (s : State) (l : List Nat) : (s.mark l).port = s.port := rfl
@[simp] theorem State.mark_intake (s : State) (l : List Nat) : (s.mark l).intake = s.intake := rfl
@[simp] theorem State.mark_composer (s : State) (l : List Nat) : (s.mark l).composer = s.composer := rfl
@[simp] theorem State.mark_hyph (s : State) (l : List Nat) : (s.mark l).hyph = s.hyph := rfl
@[simp] theorem State.mark_font (s : State) (l : List Nat) : (s.mark l).font = s.font := rfl
@[simp] theorem State.mark_queue (s : State) (l : List Nat) : (s.mark l).queue = s.queue := rfl
@[simp] theorem State.mark_exposure (s : State) (l : List Nat) : (s.mark l).exposure = s.exposure := rfl
@[simp] theorem State.mark_waitingReport (s : State) (l : List Nat) :
    (s.mark l).waitingReport = s.waitingReport := rfl
@[simp] theorem State.mark_seq (s : State) (l : List Nat) : (s.mark l).seq = s.seq := rfl
@[simp] theorem State.mark_panel (s : State) (l : List Nat) : (s.mark l).panel = s.panel := rfl
@[simp] theorem State.mark_proof (s : State) (l : List Nat) : (s.mark l).proof = s.proof := rfl
@[simp] theorem State.mark_status_flags (s : State) (l : List Nat) :
    (s.mark l).status.flags = s.status.flags := rfl
@[simp] theorem State.mark_status_count (s : State) (l : List Nat) :
    (s.mark l).status.count = s.status.count := rfl
@[simp] theorem State.mark_status_pass (s : State) (l : List Nat) :
    (s.mark l).status.pass = s.status.pass := rfl
@[simp] theorem State.mark_status_capture (s : State) (l : List Nat) :
    (s.mark l).status.capture = s.status.capture := rfl
@[simp] theorem State.mark_status_markValue (s : State) (l : List Nat) :
    (s.mark l).status.markValue = s.status.markValue := rfl
@[simp] theorem State.mark_status_markCount (s : State) (l : List Nat) :
    (s.mark l).status.markCount = s.status.markCount := rfl
@[simp] theorem State.mark_status_reports (s : State) (l : List Nat) :
    (s.mark l).status.reports = s.status.reports := rfl
@[simp] theorem State.mark_status_nextSlot (s : State) (l : List Nat) :
    (s.mark l).status.nextSlot = s.status.nextSlot := rfl
@[simp] theorem State.mark_freeCount (s : State) (l : List Nat) : (s.mark l).freeCount = s.freeCount := rfl
@[simp] theorem State.mark_pending (s : State) (l : List Nat) : (s.mark l).pending = s.pending := rfl

/-- All that `markIf` can change. -/
theorem State.markIf_frame (s : State) (b : Bool) (l : List Nat) :
    s.markIf b l = { s with
      status.marks := (s.markIf b l).status.marks } := by unfold State.markIf; split <;> rfl

@[simp] theorem State.markIf_mem (s : State) (b : Bool) (l : List Nat) :
    (s.markIf b l).mem = s.mem := by unfold State.markIf; split <;> rfl
@[simp] theorem State.markIf_port (s : State) (b : Bool) (l : List Nat) :
    (s.markIf b l).port = s.port := by unfold State.markIf; split <;> rfl
@[simp] theorem State.markIf_intake (s : State) (b : Bool) (l : List Nat) :
    (s.markIf b l).intake = s.intake := by unfold State.markIf; split <;> rfl
@[simp] theorem State.markIf_composer (s : State) (b : Bool) (l : List Nat) :
    (s.markIf b l).composer = s.composer := by unfold State.markIf; split <;> rfl
@[simp] theorem State.markIf_hyph (s : State) (b : Bool) (l : List Nat) :
    (s.markIf b l).hyph = s.hyph := by unfold State.markIf; split <;> rfl
@[simp] theorem State.markIf_font (s : State) (b : Bool) (l : List Nat) :
    (s.markIf b l).font = s.font := by unfold State.markIf; split <;> rfl
@[simp] theorem State.markIf_queue (s : State) (b : Bool) (l : List Nat) :
    (s.markIf b l).queue = s.queue := by unfold State.markIf; split <;> rfl
@[simp] theorem State.markIf_exposure (s : State) (b : Bool) (l : List Nat) :
    (s.markIf b l).exposure = s.exposure := by unfold State.markIf; split <;> rfl
@[simp] theorem State.markIf_waitingReport (s : State) (b : Bool) (l : List Nat) :
    (s.markIf b l).waitingReport = s.waitingReport := by unfold State.markIf; split <;> rfl
@[simp] theorem State.markIf_seq (s : State) (b : Bool) (l : List Nat) :
    (s.markIf b l).seq = s.seq := by unfold State.markIf; split <;> rfl
@[simp] theorem State.markIf_panel (s : State) (b : Bool) (l : List Nat) :
    (s.markIf b l).panel = s.panel := by unfold State.markIf; split <;> rfl
@[simp] theorem State.markIf_proof (s : State) (b : Bool) (l : List Nat) :
    (s.markIf b l).proof = s.proof := by unfold State.markIf; split <;> rfl
@[simp] theorem State.markIf_status_flags (s : State) (b : Bool) (l : List Nat) :
    (s.markIf b l).status.flags = s.status.flags := by unfold State.markIf; split <;> rfl
@[simp] theorem State.markIf_status_count (s : State) (b : Bool) (l : List Nat) :
    (s.markIf b l).status.count = s.status.count := by unfold State.markIf; split <;> rfl
@[simp] theorem State.markIf_status_pass (s : State) (b : Bool) (l : List Nat) :
    (s.markIf b l).status.pass = s.status.pass := by unfold State.markIf; split <;> rfl
@[simp] theorem State.markIf_status_capture (s : State) (b : Bool) (l : List Nat) :
    (s.markIf b l).status.capture = s.status.capture := by unfold State.markIf; split <;> rfl
@[simp] theorem State.markIf_status_markValue (s : State) (b : Bool) (l : List Nat) :
    (s.markIf b l).status.markValue = s.status.markValue := by unfold State.markIf; split <;> rfl
@[simp] theorem State.markIf_status_markCount (s : State) (b : Bool) (l : List Nat) :
    (s.markIf b l).status.markCount = s.status.markCount := by unfold State.markIf; split <;> rfl
@[simp] theorem State.markIf_status_reports (s : State) (b : Bool) (l : List Nat) :
    (s.markIf b l).status.reports = s.status.reports := by unfold State.markIf; split <;> rfl
@[simp] theorem State.markIf_status_nextSlot (s : State) (b : Bool) (l : List Nat) :
    (s.markIf b l).status.nextSlot = s.status.nextSlot := by unfold State.markIf; split <;> rfl
@[simp] theorem State.markIf_freeCount (s : State) (b : Bool) (l : List Nat) :
    (s.markIf b l).freeCount = s.freeCount := by unfold State.markIf; split <;> rfl
@[simp] theorem State.markIf_pending (s : State) (b : Bool) (l : List Nat) :
    (s.markIf b l).pending = s.pending := by unfold State.markIf; split <;> rfl

/-- All that `markAll` can change. -/
theorem State.markAll_frame (s : State) :
    s.markAll = { s with
      status.marks := (s.markAll).status.marks } := State.mark_frame s postedOffsets

/-- All that `giveUpRequest` can change. -/
theorem State.giveUpRequest_frame (s : State) (r : Requester) :
    s.giveUpRequest r = { s with
      port.requests := (s.giveUpRequest r).port.requests } := by unfold State.giveUpRequest; split <;> rfl

/-- All that `rereadSlot` can change. -/
theorem State.rereadSlot_frame (s : State) (k : Nat) :
    s.rereadSlot k = { s with
      port.requests := (s.rereadSlot k).port.requests } := by
  unfold State.rereadSlot
  split
  · exact State.giveUpRequest_frame s .library
  · rfl

/-! ### Flags -/

/-- All that `raise` can change. -/
theorem State.raise_frame (s : State) (f : EventFlag) :
    s.raise f = { s with
      status.flags := (s.raise f).status.flags
      status.marks := (s.raise f).status.marks } := by unfold State.raise; split <;> rfl

@[simp] theorem State.raise_mem (s : State) (f : EventFlag) :
    (s.raise f).mem = s.mem := by unfold State.raise; split <;> rfl
@[simp] theorem State.raise_port (s : State) (f : EventFlag) :
    (s.raise f).port = s.port := by unfold State.raise; split <;> rfl
@[simp] theorem State.raise_intake (s : State) (f : EventFlag) :
    (s.raise f).intake = s.intake := by unfold State.raise; split <;> rfl
@[simp] theorem State.raise_composer (s : State) (f : EventFlag) :
    (s.raise f).composer = s.composer := by unfold State.raise; split <;> rfl
@[simp] theorem State.raise_hyph (s : State) (f : EventFlag) :
    (s.raise f).hyph = s.hyph := by unfold State.raise; split <;> rfl
@[simp] theorem State.raise_font (s : State) (f : EventFlag) :
    (s.raise f).font = s.font := by unfold State.raise; split <;> rfl
@[simp] theorem State.raise_queue (s : State) (f : EventFlag) :
    (s.raise f).queue = s.queue := by unfold State.raise; split <;> rfl
@[simp] theorem State.raise_exposure (s : State) (f : EventFlag) :
    (s.raise f).exposure = s.exposure := by unfold State.raise; split <;> rfl
@[simp] theorem State.raise_waitingReport (s : State) (f : EventFlag) :
    (s.raise f).waitingReport = s.waitingReport := by unfold State.raise; split <;> rfl
@[simp] theorem State.raise_seq (s : State) (f : EventFlag) :
    (s.raise f).seq = s.seq := by unfold State.raise; split <;> rfl
@[simp] theorem State.raise_panel (s : State) (f : EventFlag) :
    (s.raise f).panel = s.panel := by unfold State.raise; split <;> rfl
@[simp] theorem State.raise_proof (s : State) (f : EventFlag) :
    (s.raise f).proof = s.proof := by unfold State.raise; split <;> rfl
@[simp] theorem State.raise_status_count (s : State) (f : EventFlag) :
    (s.raise f).status.count = s.status.count := by unfold State.raise; split <;> rfl
@[simp] theorem State.raise_status_pass (s : State) (f : EventFlag) :
    (s.raise f).status.pass = s.status.pass := by unfold State.raise; split <;> rfl
@[simp] theorem State.raise_status_capture (s : State) (f : EventFlag) :
    (s.raise f).status.capture = s.status.capture := by unfold State.raise; split <;> rfl
@[simp] theorem State.raise_status_markValue (s : State) (f : EventFlag) :
    (s.raise f).status.markValue = s.status.markValue := by unfold State.raise; split <;> rfl
@[simp] theorem State.raise_status_markCount (s : State) (f : EventFlag) :
    (s.raise f).status.markCount = s.status.markCount := by unfold State.raise; split <;> rfl
@[simp] theorem State.raise_status_reports (s : State) (f : EventFlag) :
    (s.raise f).status.reports = s.status.reports := by unfold State.raise; split <;> rfl
@[simp] theorem State.raise_status_nextSlot (s : State) (f : EventFlag) :
    (s.raise f).status.nextSlot = s.status.nextSlot := by unfold State.raise; split <;> rfl
@[simp] theorem State.raise_freeCount (s : State) (f : EventFlag) :
    (s.raise f).freeCount = s.freeCount := by unfold State.raise; split <;> rfl
@[simp] theorem State.raise_pending (s : State) (f : EventFlag) :
    (s.raise f).pending = s.pending := by unfold State.raise; split <;> rfl

/-- All that `copyError` can change. -/
theorem State.copyError_frame (s : State) (k : CopyError) (off : Nat) :
    s.copyError k off = { s with
      status.flags := (s.copyError k off).status.flags
      status.marks := (s.copyError k off).status.marks
      intake.errKind := (s.copyError k off).intake.errKind
      intake.errOffset := (s.copyError k off).intake.errOffset } := by
  unfold State.copyError State.raise; split <;> rfl

@[simp] theorem State.copyError_mem (s : State) (k : CopyError) (off : Nat) :
    (s.copyError k off).mem = s.mem := by unfold State.copyError State.raise; split <;> rfl
@[simp] theorem State.copyError_port (s : State) (k : CopyError) (off : Nat) :
    (s.copyError k off).port = s.port := by unfold State.copyError State.raise; split <;> rfl
@[simp] theorem State.copyError_intake_intakeOffset (s : State) (k : CopyError) (off : Nat) :
    (s.copyError k off).intake.intakeOffset = s.intake.intakeOffset := by
  unfold State.copyError State.raise; split <;> rfl
@[simp] theorem State.copyError_intake_consumeOffset (s : State) (k : CopyError) (off : Nat) :
    (s.copyError k off).intake.consumeOffset = s.intake.consumeOffset := by
  unfold State.copyError State.raise; split <;> rfl
@[simp] theorem State.copyError_intake_fill (s : State) (k : CopyError) (off : Nat) :
    (s.copyError k off).intake.fill = s.intake.fill := by unfold State.copyError State.raise; split <;> rfl
@[simp] theorem State.copyError_intake_run (s : State) (k : CopyError) (off : Nat) :
    (s.copyError k off).intake.run = s.intake.run := by unfold State.copyError State.raise; split <;> rfl
@[simp] theorem State.copyError_intake_refetchCount (s : State) (k : CopyError) (off : Nat) :
    (s.copyError k off).intake.refetchCount = s.intake.refetchCount := by
  unfold State.copyError State.raise; split <;> rfl
@[simp] theorem State.copyError_intake_decoder (s : State) (k : CopyError) (off : Nat) :
    (s.copyError k off).intake.decoder = s.intake.decoder := by unfold State.copyError State.raise; split <;> rfl
@[simp] theorem State.copyError_intake_textRun (s : State) (k : CopyError) (off : Nat) :
    (s.copyError k off).intake.textRun = s.intake.textRun := by unfold State.copyError State.raise; split <;> rfl
@[simp] theorem State.copyError_intake_job (s : State) (k : CopyError) (off : Nat) :
    (s.copyError k off).intake.job = s.intake.job := by unfold State.copyError State.raise; split <;> rfl
@[simp] theorem State.copyError_composer (s : State) (k : CopyError) (off : Nat) :
    (s.copyError k off).composer = s.composer := by unfold State.copyError State.raise; split <;> rfl
@[simp] theorem State.copyError_hyph (s : State) (k : CopyError) (off : Nat) :
    (s.copyError k off).hyph = s.hyph := by unfold State.copyError State.raise; split <;> rfl
@[simp] theorem State.copyError_font (s : State) (k : CopyError) (off : Nat) :
    (s.copyError k off).font = s.font := by unfold State.copyError State.raise; split <;> rfl
@[simp] theorem State.copyError_queue (s : State) (k : CopyError) (off : Nat) :
    (s.copyError k off).queue = s.queue := by unfold State.copyError State.raise; split <;> rfl
@[simp] theorem State.copyError_exposure (s : State) (k : CopyError) (off : Nat) :
    (s.copyError k off).exposure = s.exposure := by unfold State.copyError State.raise; split <;> rfl
@[simp] theorem State.copyError_waitingReport (s : State) (k : CopyError) (off : Nat) :
    (s.copyError k off).waitingReport = s.waitingReport := by unfold State.copyError State.raise; split <;> rfl
@[simp] theorem State.copyError_seq (s : State) (k : CopyError) (off : Nat) :
    (s.copyError k off).seq = s.seq := by unfold State.copyError State.raise; split <;> rfl
@[simp] theorem State.copyError_panel (s : State) (k : CopyError) (off : Nat) :
    (s.copyError k off).panel = s.panel := by unfold State.copyError State.raise; split <;> rfl
@[simp] theorem State.copyError_proof (s : State) (k : CopyError) (off : Nat) :
    (s.copyError k off).proof = s.proof := by unfold State.copyError State.raise; split <;> rfl
@[simp] theorem State.copyError_status_count (s : State) (k : CopyError) (off : Nat) :
    (s.copyError k off).status.count = s.status.count := by unfold State.copyError State.raise; split <;> rfl
@[simp] theorem State.copyError_status_pass (s : State) (k : CopyError) (off : Nat) :
    (s.copyError k off).status.pass = s.status.pass := by unfold State.copyError State.raise; split <;> rfl
@[simp] theorem State.copyError_status_capture (s : State) (k : CopyError) (off : Nat) :
    (s.copyError k off).status.capture = s.status.capture := by unfold State.copyError State.raise; split <;> rfl
@[simp] theorem State.copyError_status_markValue (s : State) (k : CopyError) (off : Nat) :
    (s.copyError k off).status.markValue = s.status.markValue := by unfold State.copyError State.raise; split <;> rfl
@[simp] theorem State.copyError_status_markCount (s : State) (k : CopyError) (off : Nat) :
    (s.copyError k off).status.markCount = s.status.markCount := by unfold State.copyError State.raise; split <;> rfl
@[simp] theorem State.copyError_status_reports (s : State) (k : CopyError) (off : Nat) :
    (s.copyError k off).status.reports = s.status.reports := by unfold State.copyError State.raise; split <;> rfl
@[simp] theorem State.copyError_status_nextSlot (s : State) (k : CopyError) (off : Nat) :
    (s.copyError k off).status.nextSlot = s.status.nextSlot := by unfold State.copyError State.raise; split <;> rfl
@[simp] theorem State.copyError_freeCount (s : State) (k : CopyError) (off : Nat) :
    (s.copyError k off).freeCount = s.freeCount := by unfold State.copyError State.raise; split <;> rfl
@[simp] theorem State.copyError_pending (s : State) (k : CopyError) (off : Nat) :
    (s.copyError k off).pending = s.pending := by unfold State.copyError State.raise; split <;> rfl

/-- All that `flagClamped` can change. -/
theorem State.flagClamped_frame (s : State) :
    s.flagClamped = { s with
      intake.job := (s.flagClamped).intake.job } := by unfold State.flagClamped; split <;> rfl

/-! ### PanelLink -/

@[simp] theorem PanelLink.make_ownership (l : PanelLink) (m : PanelMessage) : (l.make m).ownership = l.ownership := rfl
@[simp] theorem PanelLink.make_hostLine (l : PanelLink) (m : PanelMessage) : (l.make m).hostLine = l.hostLine := rfl
@[simp] theorem PanelLink.make_alarm (l : PanelLink) (m : PanelMessage) : (l.make m).alarm = l.alarm := rfl
@[simp] theorem PanelLink.make_calls (l : PanelLink) (m : PanelMessage) : (l.make m).calls = l.calls := rfl
@[simp] theorem PanelLink.make_inbox (l : PanelLink) (m : PanelMessage) : (l.make m).inbox = l.inbox := rfl

/-- While a message is being sent, a message made waits in the list (R142). -/
theorem PanelLink.make_busy {l : PanelLink} {x : PanelMessage} (h : l.sending = some x) (m : PanelMessage) :
    l.make m = { l with outbound := keptBy m l.outbound ++ [m] } := by
  simp [PanelLink.make, PanelLink.startLink, h]

/-- A message made on a free link with nothing waiting begins at once (R142). -/
theorem PanelLink.make_free {l : PanelLink} (h : l.sending = none) (ho : l.outbound = []) (m : PanelMessage) :
    l.make m = { l with sending := some m } := by
  have hk : keptBy m [] = [] := by cases m <;> rfl
  cases l
  simp only at h ho
  subst h ho
  simp [PanelLink.make, PanelLink.startLink, hk]

/-- When a message has been sent, the first that waits begins (R142). -/
theorem PanelLink.sent_eq (l : PanelLink) :
    l.sent = { l with sending := l.outbound.head?, outbound := l.outbound.tail } := rfl

/-- All that `toPanel` can change. -/
theorem State.toPanel_frame (s : State) (m : PanelMessage) :
    s.toPanel m = { s with
      panel.outbound := (s.toPanel m).panel.outbound
      panel.sending := (s.toPanel m).panel.sending } := rfl

@[simp] theorem State.toPanel_mem (s : State) (m : PanelMessage) : (s.toPanel m).mem = s.mem := rfl
@[simp] theorem State.toPanel_port (s : State) (m : PanelMessage) : (s.toPanel m).port = s.port := rfl
@[simp] theorem State.toPanel_intake (s : State) (m : PanelMessage) : (s.toPanel m).intake = s.intake := rfl
@[simp] theorem State.toPanel_composer (s : State) (m : PanelMessage) : (s.toPanel m).composer = s.composer := rfl
@[simp] theorem State.toPanel_hyph (s : State) (m : PanelMessage) : (s.toPanel m).hyph = s.hyph := rfl
@[simp] theorem State.toPanel_font (s : State) (m : PanelMessage) : (s.toPanel m).font = s.font := rfl
@[simp] theorem State.toPanel_queue (s : State) (m : PanelMessage) : (s.toPanel m).queue = s.queue := rfl
@[simp] theorem State.toPanel_exposure (s : State) (m : PanelMessage) : (s.toPanel m).exposure = s.exposure := rfl
@[simp] theorem State.toPanel_waitingReport (s : State) (m : PanelMessage) :
    (s.toPanel m).waitingReport = s.waitingReport := rfl
@[simp] theorem State.toPanel_seq (s : State) (m : PanelMessage) : (s.toPanel m).seq = s.seq := rfl
@[simp] theorem State.toPanel_panel_ownership (s : State) (m : PanelMessage) :
    (s.toPanel m).panel.ownership = s.panel.ownership := rfl
@[simp] theorem State.toPanel_panel_hostLine (s : State) (m : PanelMessage) :
    (s.toPanel m).panel.hostLine = s.panel.hostLine := rfl
@[simp] theorem State.toPanel_panel_alarm (s : State) (m : PanelMessage) :
    (s.toPanel m).panel.alarm = s.panel.alarm := rfl
@[simp] theorem State.toPanel_panel_calls (s : State) (m : PanelMessage) :
    (s.toPanel m).panel.calls = s.panel.calls := rfl
@[simp] theorem State.toPanel_panel_inbox (s : State) (m : PanelMessage) :
    (s.toPanel m).panel.inbox = s.panel.inbox := rfl
@[simp] theorem State.toPanel_proof (s : State) (m : PanelMessage) : (s.toPanel m).proof = s.proof := rfl
@[simp] theorem State.toPanel_status (s : State) (m : PanelMessage) : (s.toPanel m).status = s.status := rfl
@[simp] theorem State.toPanel_freeCount (s : State) (m : PanelMessage) : (s.toPanel m).freeCount = s.freeCount := rfl
@[simp] theorem State.toPanel_pending (s : State) (m : PanelMessage) : (s.toPanel m).pending = s.pending := rfl

/-- All that `refuse` can change. -/
theorem State.refuse_frame (s : State) (r : ReasonWord) :
    s.refuse r = { s with
      panel.outbound := (s.refuse r).panel.outbound
      panel.sending := (s.refuse r).panel.sending } := rfl

/-- All that `showWith` can change. -/
theorem State.showWith_frame (s : State) (b : Bool) (r : Option ManualResult) :
    s.showWith b r = { s with
      panel.outbound := (s.showWith b r).panel.outbound
      panel.sending := (s.showWith b r).panel.sending } := rfl

@[simp] theorem State.showWith_mem (s : State) (b : Bool) (r : Option ManualResult) :
    (s.showWith b r).mem = s.mem := rfl
@[simp] theorem State.showWith_port (s : State) (b : Bool) (r : Option ManualResult) :
    (s.showWith b r).port = s.port := rfl
@[simp] theorem State.showWith_intake (s : State) (b : Bool) (r : Option ManualResult) :
    (s.showWith b r).intake = s.intake := rfl
@[simp] theorem State.showWith_composer (s : State) (b : Bool) (r : Option ManualResult) :
    (s.showWith b r).composer = s.composer := rfl
@[simp] theorem State.showWith_hyph (s : State) (b : Bool) (r : Option ManualResult) :
    (s.showWith b r).hyph = s.hyph := rfl
@[simp] theorem State.showWith_font (s : State) (b : Bool) (r : Option ManualResult) :
    (s.showWith b r).font = s.font := rfl
@[simp] theorem State.showWith_queue (s : State) (b : Bool) (r : Option ManualResult) :
    (s.showWith b r).queue = s.queue := rfl
@[simp] theorem State.showWith_exposure (s : State) (b : Bool) (r : Option ManualResult) :
    (s.showWith b r).exposure = s.exposure := rfl
@[simp] theorem State.showWith_waitingReport (s : State) (b : Bool) (r : Option ManualResult) :
    (s.showWith b r).waitingReport = s.waitingReport := rfl
@[simp] theorem State.showWith_seq (s : State) (b : Bool) (r : Option ManualResult) :
    (s.showWith b r).seq = s.seq := rfl
@[simp] theorem State.showWith_panel_ownership (s : State) (b : Bool) (r : Option ManualResult) :
    (s.showWith b r).panel.ownership = s.panel.ownership := rfl
@[simp] theorem State.showWith_panel_hostLine (s : State) (b : Bool) (r : Option ManualResult) :
    (s.showWith b r).panel.hostLine = s.panel.hostLine := rfl
@[simp] theorem State.showWith_panel_alarm (s : State) (b : Bool) (r : Option ManualResult) :
    (s.showWith b r).panel.alarm = s.panel.alarm := rfl
@[simp] theorem State.showWith_panel_calls (s : State) (b : Bool) (r : Option ManualResult) :
    (s.showWith b r).panel.calls = s.panel.calls := rfl
@[simp] theorem State.showWith_panel_inbox (s : State) (b : Bool) (r : Option ManualResult) :
    (s.showWith b r).panel.inbox = s.panel.inbox := rfl
@[simp] theorem State.showWith_proof (s : State) (b : Bool) (r : Option ManualResult) :
    (s.showWith b r).proof = s.proof := rfl
@[simp] theorem State.showWith_status (s : State) (b : Bool) (r : Option ManualResult) :
    (s.showWith b r).status = s.status := rfl
@[simp] theorem State.showWith_freeCount (s : State) (b : Bool) (r : Option ManualResult) :
    (s.showWith b r).freeCount = s.freeCount := rfl
@[simp] theorem State.showWith_pending (s : State) (b : Bool) (r : Option ManualResult) :
    (s.showWith b r).pending = s.pending := rfl

/-- All that `display` can change. -/
theorem State.display_frame (s : State) :
    s.display = { s with
      panel.outbound := (s.display).panel.outbound
      panel.sending := (s.display).panel.sending } := rfl

@[simp] theorem State.display_mem (s : State) : (s.display).mem = s.mem := rfl
@[simp] theorem State.display_port (s : State) : (s.display).port = s.port := rfl
@[simp] theorem State.display_intake (s : State) : (s.display).intake = s.intake := rfl
@[simp] theorem State.display_composer (s : State) : (s.display).composer = s.composer := rfl
@[simp] theorem State.display_hyph (s : State) : (s.display).hyph = s.hyph := rfl
@[simp] theorem State.display_font (s : State) : (s.display).font = s.font := rfl
@[simp] theorem State.display_queue (s : State) : (s.display).queue = s.queue := rfl
@[simp] theorem State.display_exposure (s : State) : (s.display).exposure = s.exposure := rfl
@[simp] theorem State.display_waitingReport (s : State) : (s.display).waitingReport = s.waitingReport := rfl
@[simp] theorem State.display_seq (s : State) : (s.display).seq = s.seq := rfl
@[simp] theorem State.display_panel_ownership (s : State) :
    (s.display).panel.ownership = s.panel.ownership := rfl
@[simp] theorem State.display_panel_hostLine (s : State) :
    (s.display).panel.hostLine = s.panel.hostLine := rfl
@[simp] theorem State.display_panel_alarm (s : State) :
    (s.display).panel.alarm = s.panel.alarm := rfl
@[simp] theorem State.display_panel_calls (s : State) :
    (s.display).panel.calls = s.panel.calls := rfl
@[simp] theorem State.display_panel_inbox (s : State) :
    (s.display).panel.inbox = s.panel.inbox := rfl
@[simp] theorem State.display_proof (s : State) : (s.display).proof = s.proof := rfl
@[simp] theorem State.display_status (s : State) : (s.display).status = s.status := rfl
@[simp] theorem State.display_freeCount (s : State) : (s.display).freeCount = s.freeCount := rfl
@[simp] theorem State.display_pending (s : State) : (s.display).pending = s.pending := rfl

/-- All that `alarmOnce` can change. -/
theorem State.alarmOnce_frame (s : State) :
    s.alarmOnce = { s with
      panel.outbound := (s.alarmOnce).panel.outbound
      panel.sending := (s.alarmOnce).panel.sending } := by unfold State.alarmOnce; split <;> rfl

/-- All that `sendCall` can change. -/
theorem State.sendCall_frame (s : State) (p : Fin 8) :
    s.sendCall p = { s with
      panel.outbound := (s.sendCall p).panel.outbound
      panel.sending := (s.sendCall p).panel.sending } := rfl

/-- All that `makeCall` can change. -/
theorem State.makeCall_frame (s : State) (p : Fin 8) :
    s.makeCall p = { s with
      panel.outbound := (s.makeCall p).panel.outbound
      panel.sending := (s.makeCall p).panel.sending
      panel.calls := (s.makeCall p).panel.calls
      panel.alarm := (s.makeCall p).panel.alarm
      status.flags := (s.makeCall p).status.flags
      status.marks := (s.makeCall p).status.marks } := by unfold State.makeCall State.raise; dsimp only; split <;> rfl

/-- All that `endCall` can change. -/
theorem State.endCall_frame (s : State) (p : Fin 8) :
    s.endCall p = { s with
      panel.outbound := (s.endCall p).panel.outbound
      panel.sending := (s.endCall p).panel.sending
      panel.calls := (s.endCall p).panel.calls
      panel.alarm := (s.endCall p).panel.alarm } := by
  unfold State.endCall
  dsimp only
  split
  · split <;> rfl
  · rfl

/-- All that `ownBy` can change. -/
theorem State.ownBy_frame (s : State) (o : Ownership) :
    s.ownBy o = { s with
      panel.ownership := (s.ownBy o).panel.ownership
      status.flags := (s.ownBy o).status.flags
      status.marks := (s.ownBy o).status.marks } := by
  unfold State.ownBy State.raise
  split <;> rfl

@[simp] theorem State.ownBy_ownership (s : State) (o : Ownership) : (s.ownBy o).panel.ownership = o := by
  unfold State.ownBy State.raise
  split <;> rfl

/-- All that `setOwnership` can change. -/
theorem State.setOwnership_frame (s : State) (o : Ownership) :
    s.setOwnership o = { s with
      panel.outbound := (s.setOwnership o).panel.outbound
      panel.sending := (s.setOwnership o).panel.sending
      panel.ownership := (s.setOwnership o).panel.ownership
      status.flags := (s.setOwnership o).status.flags
      status.marks := (s.setOwnership o).status.marks } := by
  unfold State.setOwnership State.ownBy State.raise
  split
  · rfl
  · split <;> rfl

/-! ### FontControl -/

/-- All that `setPosition` can change. -/
theorem State.setPosition_frame (s : State) (p : Fin 8) (e : Position) :
    s.setPosition p e = { s with
      font.table := (s.setPosition p e).font.table
      composer.fontWait := (s.setPosition p e).composer.fontWait
      status.marks := (s.setPosition p e).status.marks } := by
  unfold State.setPosition
  dsimp only
  split <;> rfl

@[simp] theorem State.setPosition_mem (s : State) (p : Fin 8) (e : Position) : (s.setPosition p e).mem = s.mem := by
  unfold State.setPosition
  dsimp only
  split <;> rfl
@[simp] theorem State.setPosition_port (s : State) (p : Fin 8) (e : Position) :
    (s.setPosition p e).port = s.port := by
  unfold State.setPosition
  dsimp only
  split <;> rfl
@[simp] theorem State.setPosition_intake (s : State) (p : Fin 8) (e : Position) :
    (s.setPosition p e).intake = s.intake := by
  unfold State.setPosition
  dsimp only
  split <;> rfl
@[simp] theorem State.setPosition_composer_state (s : State) (p : Fin 8) (e : Position) :
    (s.setPosition p e).composer.state = s.composer.state := by
  unfold State.setPosition
  dsimp only
  split <;> rfl
@[simp] theorem State.setPosition_composer_measure (s : State) (p : Fin 8) (e : Position) :
    (s.setPosition p e).composer.measure = s.composer.measure := by
  unfold State.setPosition
  dsimp only
  split <;> rfl
@[simp] theorem State.setPosition_composer_lead (s : State) (p : Fin 8) (e : Position) :
    (s.setPosition p e).composer.lead = s.composer.lead := by
  unfold State.setPosition
  dsimp only
  split <;> rfl
@[simp] theorem State.setPosition_composer_sizeAsked (s : State) (p : Fin 8) (e : Position) :
    (s.setPosition p e).composer.sizeAsked = s.composer.sizeAsked := by
  unfold State.setPosition
  dsimp only
  split <;> rfl
@[simp] theorem State.setPosition_composer_lens (s : State) (p : Fin 8) (e : Position) :
    (s.setPosition p e).composer.lens = s.composer.lens := by
  unfold State.setPosition
  dsimp only
  split <;> rfl
@[simp] theorem State.setPosition_composer_lensSize (s : State) (p : Fin 8) (e : Position) :
    (s.setPosition p e).composer.lensSize = s.composer.lensSize := by
  unfold State.setPosition
  dsimp only
  split <;> rfl
@[simp] theorem State.setPosition_composer_sizeSub (s : State) (p : Fin 8) (e : Position) :
    (s.setPosition p e).composer.sizeSub = s.composer.sizeSub := by
  unfold State.setPosition
  dsimp only
  split <;> rfl
@[simp] theorem State.setPosition_composer_current (s : State) (p : Fin 8) (e : Position) :
    (s.setPosition p e).composer.current = s.composer.current := by
  unfold State.setPosition
  dsimp only
  split <;> rfl
@[simp] theorem State.setPosition_composer_fontSub (s : State) (p : Fin 8) (e : Position) :
    (s.setPosition p e).composer.fontSub = s.composer.fontSub := by
  unfold State.setPosition
  dsimp only
  split <;> rfl
@[simp] theorem State.setPosition_composer_line (s : State) (p : Fin 8) (e : Position) :
    (s.setPosition p e).composer.line = s.composer.line := by
  unfold State.setPosition
  dsimp only
  split <;> rfl
@[simp] theorem State.setPosition_composer_word (s : State) (p : Fin 8) (e : Position) :
    (s.setPosition p e).composer.word = s.composer.word := by
  unfold State.setPosition
  dsimp only
  split <;> rfl
@[simp] theorem State.setPosition_composer_noFont (s : State) (p : Fin 8) (e : Position) :
    (s.setPosition p e).composer.noFont = s.composer.noFont := by
  unfold State.setPosition
  dsimp only
  split <;> rfl
@[simp] theorem State.setPosition_composer_ladder (s : State) (p : Fin 8) (e : Position) :
    (s.setPosition p e).composer.ladder = s.composer.ladder := by
  unfold State.setPosition
  dsimp only
  split <;> rfl
@[simp] theorem State.setPosition_composer_pendingMarks (s : State) (p : Fin 8) (e : Position) :
    (s.setPosition p e).composer.pendingMarks = s.composer.pendingMarks := by
  unfold State.setPosition
  dsimp only
  split <;> rfl
@[simp] theorem State.setPosition_composer_held (s : State) (p : Fin 8) (e : Position) :
    (s.setPosition p e).composer.held = s.composer.held := by
  unfold State.setPosition
  dsimp only
  split <;> rfl
@[simp] theorem State.setPosition_composer_todo (s : State) (p : Fin 8) (e : Position) :
    (s.setPosition p e).composer.todo = s.composer.todo := by
  unfold State.setPosition
  dsimp only
  split <;> rfl
@[simp] theorem State.setPosition_hyph (s : State) (p : Fin 8) (e : Position) :
    (s.setPosition p e).hyph = s.hyph := by
  unfold State.setPosition
  dsimp only
  split <;> rfl
@[simp] theorem State.setPosition_font_widths (s : State) (p : Fin 8) (e : Position) :
    (s.setPosition p e).font.widths = s.font.widths := by
  unfold State.setPosition
  dsimp only
  split <;> rfl
@[simp] theorem State.setPosition_font_lenses (s : State) (p : Fin 8) (e : Position) :
    (s.setPosition p e).font.lenses = s.font.lenses := by
  unfold State.setPosition
  dsimp only
  split <;> rfl
@[simp] theorem State.setPosition_font_fetchList (s : State) (p : Fin 8) (e : Position) :
    (s.setPosition p e).font.fetchList = s.font.fetchList := by
  unfold State.setPosition
  dsimp only
  split <;> rfl
@[simp] theorem State.setPosition_font_fetch (s : State) (p : Fin 8) (e : Position) :
    (s.setPosition p e).font.fetch = s.font.fetch := by
  unfold State.setPosition
  dsimp only
  split <;> rfl
@[simp] theorem State.setPosition_queue (s : State) (p : Fin 8) (e : Position) :
    (s.setPosition p e).queue = s.queue := by
  unfold State.setPosition
  dsimp only
  split <;> rfl
@[simp] theorem State.setPosition_exposure (s : State) (p : Fin 8) (e : Position) :
    (s.setPosition p e).exposure = s.exposure := by
  unfold State.setPosition
  dsimp only
  split <;> rfl
@[simp] theorem State.setPosition_waitingReport (s : State) (p : Fin 8) (e : Position) :
    (s.setPosition p e).waitingReport = s.waitingReport := by
  unfold State.setPosition
  dsimp only
  split <;> rfl
@[simp] theorem State.setPosition_seq (s : State) (p : Fin 8) (e : Position) : (s.setPosition p e).seq = s.seq := by
  unfold State.setPosition
  dsimp only
  split <;> rfl
@[simp] theorem State.setPosition_panel (s : State) (p : Fin 8) (e : Position) :
    (s.setPosition p e).panel = s.panel := by
  unfold State.setPosition
  dsimp only
  split <;> rfl
@[simp] theorem State.setPosition_proof (s : State) (p : Fin 8) (e : Position) :
    (s.setPosition p e).proof = s.proof := by
  unfold State.setPosition
  dsimp only
  split <;> rfl
@[simp] theorem State.setPosition_status_flags (s : State) (p : Fin 8) (e : Position) :
    (s.setPosition p e).status.flags = s.status.flags := by
  unfold State.setPosition
  dsimp only
  split <;> rfl
@[simp] theorem State.setPosition_status_count (s : State) (p : Fin 8) (e : Position) :
    (s.setPosition p e).status.count = s.status.count := by
  unfold State.setPosition
  dsimp only
  split <;> rfl
@[simp] theorem State.setPosition_status_pass (s : State) (p : Fin 8) (e : Position) :
    (s.setPosition p e).status.pass = s.status.pass := by
  unfold State.setPosition
  dsimp only
  split <;> rfl
@[simp] theorem State.setPosition_status_capture (s : State) (p : Fin 8) (e : Position) :
    (s.setPosition p e).status.capture = s.status.capture := by
  unfold State.setPosition
  dsimp only
  split <;> rfl
@[simp] theorem State.setPosition_status_markValue (s : State) (p : Fin 8) (e : Position) :
    (s.setPosition p e).status.markValue = s.status.markValue := by
  unfold State.setPosition
  dsimp only
  split <;> rfl
@[simp] theorem State.setPosition_status_markCount (s : State) (p : Fin 8) (e : Position) :
    (s.setPosition p e).status.markCount = s.status.markCount := by
  unfold State.setPosition
  dsimp only
  split <;> rfl
@[simp] theorem State.setPosition_status_reports (s : State) (p : Fin 8) (e : Position) :
    (s.setPosition p e).status.reports = s.status.reports := by
  unfold State.setPosition
  dsimp only
  split <;> rfl
@[simp] theorem State.setPosition_status_nextSlot (s : State) (p : Fin 8) (e : Position) :
    (s.setPosition p e).status.nextSlot = s.status.nextSlot := by
  unfold State.setPosition
  dsimp only
  split <;> rfl
@[simp] theorem State.setPosition_freeCount (s : State) (p : Fin 8) (e : Position) :
    (s.setPosition p e).freeCount = s.freeCount := by
  unfold State.setPosition
  dsimp only
  split <;> rfl
@[simp] theorem State.setPosition_pending (s : State) (p : Fin 8) (e : Position) :
    (s.setPosition p e).pending = s.pending := by
  unfold State.setPosition
  dsimp only
  split <;> rfl

/-- All that `dropWidths` can change. -/
theorem State.dropWidths_frame (s : State) (p : Fin 8) :
    s.dropWidths p = { s with
      font.widths := (s.dropWidths p).font.widths } := rfl

/-- All that `refusePosition` can change. -/
theorem State.refusePosition_frame (s : State) (p : Fin 8) (r : Reason) :
    s.refusePosition p r = { s with
      font.table := (s.refusePosition p r).font.table
      composer.fontWait := (s.refusePosition p r).composer.fontWait
      status.marks := (s.refusePosition p r).status.marks
      status.flags := (s.refusePosition p r).status.flags } := by
  unfold State.refusePosition State.raise State.setPosition
  dsimp only
  split <;> split <;> rfl

/-- All that `resolveSize` can change. -/
theorem State.resolveSize_frame (s : State) (n : Nat) :
    s.resolveSize n = { s with
      composer.sizeAsked := (s.resolveSize n).composer.sizeAsked
      composer.lens := (s.resolveSize n).composer.lens
      composer.lensSize := (s.resolveSize n).composer.lensSize
      composer.sizeSub := (s.resolveSize n).composer.sizeSub } := rfl

/-! ### SetQueue -/

/-- All that `postMark` can change. -/
theorem State.postMark_frame (s : State) (v : Word) :
    s.postMark v = { s with
      status.markValue := (s.postMark v).status.markValue
      status.markCount := (s.postMark v).status.markCount
      status.marks := (s.postMark v).status.marks
      status.flags := (s.postMark v).status.flags } := by unfold State.postMark State.raise; split <;> rfl

/-- All that `writeReport` can change. -/
theorem State.writeReport_frame (s : State) (r : Report) :
    s.writeReport r = { s with
      status.reports := (s.writeReport r).status.reports
      status.nextSlot := (s.writeReport r).status.nextSlot
      status.marks := (s.writeReport r).status.marks
      status.flags := (s.writeReport r).status.flags } := by
  unfold State.writeReport State.raise; dsimp only; split <;> rfl

/-- All that `setExposure` can change. -/
theorem State.setExposure_frame (s : State) (x : Exposure) :
    s.setExposure x = { s with
      exposure := (s.setExposure x).exposure
      status.marks := (s.setExposure x).status.marks
      panel.outbound := (s.setExposure x).panel.outbound
      panel.sending := (s.setExposure x).panel.sending } := by
  unfold State.setExposure State.markIf; dsimp only; split <;> split <;> rfl

/-! ### Breaking -/

/-- All that `setComposer` can change. -/
theorem State.setComposer_frame (s : State) (x : ComposerState) :
    s.setComposer x = { s with
      composer.state := (s.setComposer x).composer.state
      status.marks := (s.setComposer x).status.marks } := by unfold State.setComposer State.markIf; split <;> rfl

@[simp] theorem State.setComposer_mem (s : State) (x : ComposerState) :
    (s.setComposer x).mem = s.mem := by unfold State.setComposer State.markIf; split <;> rfl
@[simp] theorem State.setComposer_port (s : State) (x : ComposerState) :
    (s.setComposer x).port = s.port := by unfold State.setComposer State.markIf; split <;> rfl
@[simp] theorem State.setComposer_intake (s : State) (x : ComposerState) :
    (s.setComposer x).intake = s.intake := by unfold State.setComposer State.markIf; split <;> rfl
@[simp] theorem State.setComposer_composer_measure (s : State) (x : ComposerState) :
    (s.setComposer x).composer.measure = s.composer.measure := by unfold State.setComposer State.markIf; split <;> rfl
@[simp] theorem State.setComposer_composer_lead (s : State) (x : ComposerState) :
    (s.setComposer x).composer.lead = s.composer.lead := by unfold State.setComposer State.markIf; split <;> rfl
@[simp] theorem State.setComposer_composer_sizeAsked (s : State) (x : ComposerState) :
    (s.setComposer x).composer.sizeAsked = s.composer.sizeAsked := by
  unfold State.setComposer State.markIf; split <;> rfl
@[simp] theorem State.setComposer_composer_lens (s : State) (x : ComposerState) :
    (s.setComposer x).composer.lens = s.composer.lens := by unfold State.setComposer State.markIf; split <;> rfl
@[simp] theorem State.setComposer_composer_lensSize (s : State) (x : ComposerState) :
    (s.setComposer x).composer.lensSize = s.composer.lensSize := by
  unfold State.setComposer State.markIf; split <;> rfl
@[simp] theorem State.setComposer_composer_sizeSub (s : State) (x : ComposerState) :
    (s.setComposer x).composer.sizeSub = s.composer.sizeSub := by unfold State.setComposer State.markIf; split <;> rfl
@[simp] theorem State.setComposer_composer_current (s : State) (x : ComposerState) :
    (s.setComposer x).composer.current = s.composer.current := by unfold State.setComposer State.markIf; split <;> rfl
@[simp] theorem State.setComposer_composer_fontSub (s : State) (x : ComposerState) :
    (s.setComposer x).composer.fontSub = s.composer.fontSub := by unfold State.setComposer State.markIf; split <;> rfl
@[simp] theorem State.setComposer_composer_line (s : State) (x : ComposerState) :
    (s.setComposer x).composer.line = s.composer.line := by unfold State.setComposer State.markIf; split <;> rfl
@[simp] theorem State.setComposer_composer_word (s : State) (x : ComposerState) :
    (s.setComposer x).composer.word = s.composer.word := by unfold State.setComposer State.markIf; split <;> rfl
@[simp] theorem State.setComposer_composer_noFont (s : State) (x : ComposerState) :
    (s.setComposer x).composer.noFont = s.composer.noFont := by unfold State.setComposer State.markIf; split <;> rfl
@[simp] theorem State.setComposer_composer_ladder (s : State) (x : ComposerState) :
    (s.setComposer x).composer.ladder = s.composer.ladder := by unfold State.setComposer State.markIf; split <;> rfl
@[simp] theorem State.setComposer_composer_pendingMarks (s : State) (x : ComposerState) :
    (s.setComposer x).composer.pendingMarks = s.composer.pendingMarks := by
  unfold State.setComposer State.markIf; split <;> rfl
@[simp] theorem State.setComposer_composer_held (s : State) (x : ComposerState) :
    (s.setComposer x).composer.held = s.composer.held := by unfold State.setComposer State.markIf; split <;> rfl
@[simp] theorem State.setComposer_composer_todo (s : State) (x : ComposerState) :
    (s.setComposer x).composer.todo = s.composer.todo := by unfold State.setComposer State.markIf; split <;> rfl
@[simp] theorem State.setComposer_composer_fontWait (s : State) (x : ComposerState) :
    (s.setComposer x).composer.fontWait = s.composer.fontWait := by
  unfold State.setComposer State.markIf; split <;> rfl
@[simp] theorem State.setComposer_hyph (s : State) (x : ComposerState) :
    (s.setComposer x).hyph = s.hyph := by unfold State.setComposer State.markIf; split <;> rfl
@[simp] theorem State.setComposer_font (s : State) (x : ComposerState) :
    (s.setComposer x).font = s.font := by unfold State.setComposer State.markIf; split <;> rfl
@[simp] theorem State.setComposer_queue (s : State) (x : ComposerState) :
    (s.setComposer x).queue = s.queue := by unfold State.setComposer State.markIf; split <;> rfl
@[simp] theorem State.setComposer_exposure (s : State) (x : ComposerState) :
    (s.setComposer x).exposure = s.exposure := by unfold State.setComposer State.markIf; split <;> rfl
@[simp] theorem State.setComposer_waitingReport (s : State) (x : ComposerState) :
    (s.setComposer x).waitingReport = s.waitingReport := by unfold State.setComposer State.markIf; split <;> rfl
@[simp] theorem State.setComposer_seq (s : State) (x : ComposerState) :
    (s.setComposer x).seq = s.seq := by unfold State.setComposer State.markIf; split <;> rfl
@[simp] theorem State.setComposer_panel (s : State) (x : ComposerState) :
    (s.setComposer x).panel = s.panel := by unfold State.setComposer State.markIf; split <;> rfl
@[simp] theorem State.setComposer_proof (s : State) (x : ComposerState) :
    (s.setComposer x).proof = s.proof := by unfold State.setComposer State.markIf; split <;> rfl
@[simp] theorem State.setComposer_status_flags (s : State) (x : ComposerState) :
    (s.setComposer x).status.flags = s.status.flags := by unfold State.setComposer State.markIf; split <;> rfl
@[simp] theorem State.setComposer_status_count (s : State) (x : ComposerState) :
    (s.setComposer x).status.count = s.status.count := by unfold State.setComposer State.markIf; split <;> rfl
@[simp] theorem State.setComposer_status_pass (s : State) (x : ComposerState) :
    (s.setComposer x).status.pass = s.status.pass := by unfold State.setComposer State.markIf; split <;> rfl
@[simp] theorem State.setComposer_status_capture (s : State) (x : ComposerState) :
    (s.setComposer x).status.capture = s.status.capture := by unfold State.setComposer State.markIf; split <;> rfl
@[simp] theorem State.setComposer_status_markValue (s : State) (x : ComposerState) :
    (s.setComposer x).status.markValue = s.status.markValue := by unfold State.setComposer State.markIf; split <;> rfl
@[simp] theorem State.setComposer_status_markCount (s : State) (x : ComposerState) :
    (s.setComposer x).status.markCount = s.status.markCount := by unfold State.setComposer State.markIf; split <;> rfl
@[simp] theorem State.setComposer_status_reports (s : State) (x : ComposerState) :
    (s.setComposer x).status.reports = s.status.reports := by unfold State.setComposer State.markIf; split <;> rfl
@[simp] theorem State.setComposer_status_nextSlot (s : State) (x : ComposerState) :
    (s.setComposer x).status.nextSlot = s.status.nextSlot := by unfold State.setComposer State.markIf; split <;> rfl
@[simp] theorem State.setComposer_freeCount (s : State) (x : ComposerState) :
    (s.setComposer x).freeCount = s.freeCount := by unfold State.setComposer State.markIf; split <;> rfl
@[simp] theorem State.setComposer_pending (s : State) (x : ComposerState) :
    (s.setComposer x).pending = s.pending := by unfold State.setComposer State.markIf; split <;> rfl

/-- All that `push` can change. -/
theorem State.push_frame (s : State) (l : List Task) :
    s.push l = { s with
      composer.todo := (s.push l).composer.todo } := rfl

@[simp] theorem State.push_mem (s : State) (l : List Task) : (s.push l).mem = s.mem := rfl
@[simp] theorem State.push_port (s : State) (l : List Task) : (s.push l).port = s.port := rfl
@[simp] theorem State.push_intake (s : State) (l : List Task) : (s.push l).intake = s.intake := rfl
@[simp] theorem State.push_composer_state (s : State) (l : List Task) :
    (s.push l).composer.state = s.composer.state := rfl
@[simp] theorem State.push_composer_measure (s : State) (l : List Task) :
    (s.push l).composer.measure = s.composer.measure := rfl
@[simp] theorem State.push_composer_lead (s : State) (l : List Task) :
    (s.push l).composer.lead = s.composer.lead := rfl
@[simp] theorem State.push_composer_sizeAsked (s : State) (l : List Task) :
    (s.push l).composer.sizeAsked = s.composer.sizeAsked := rfl
@[simp] theorem State.push_composer_lens (s : State) (l : List Task) :
    (s.push l).composer.lens = s.composer.lens := rfl
@[simp] theorem State.push_composer_lensSize (s : State) (l : List Task) :
    (s.push l).composer.lensSize = s.composer.lensSize := rfl
@[simp] theorem State.push_composer_sizeSub (s : State) (l : List Task) :
    (s.push l).composer.sizeSub = s.composer.sizeSub := rfl
@[simp] theorem State.push_composer_current (s : State) (l : List Task) :
    (s.push l).composer.current = s.composer.current := rfl
@[simp] theorem State.push_composer_fontSub (s : State) (l : List Task) :
    (s.push l).composer.fontSub = s.composer.fontSub := rfl
@[simp] theorem State.push_composer_line (s : State) (l : List Task) :
    (s.push l).composer.line = s.composer.line := rfl
@[simp] theorem State.push_composer_word (s : State) (l : List Task) :
    (s.push l).composer.word = s.composer.word := rfl
@[simp] theorem State.push_composer_noFont (s : State) (l : List Task) :
    (s.push l).composer.noFont = s.composer.noFont := rfl
@[simp] theorem State.push_composer_ladder (s : State) (l : List Task) :
    (s.push l).composer.ladder = s.composer.ladder := rfl
@[simp] theorem State.push_composer_pendingMarks (s : State) (l : List Task) :
    (s.push l).composer.pendingMarks = s.composer.pendingMarks := rfl
@[simp] theorem State.push_composer_held (s : State) (l : List Task) :
    (s.push l).composer.held = s.composer.held := rfl
@[simp] theorem State.push_composer_fontWait (s : State) (l : List Task) :
    (s.push l).composer.fontWait = s.composer.fontWait := rfl
@[simp] theorem State.push_hyph (s : State) (l : List Task) : (s.push l).hyph = s.hyph := rfl
@[simp] theorem State.push_font (s : State) (l : List Task) : (s.push l).font = s.font := rfl
@[simp] theorem State.push_queue (s : State) (l : List Task) : (s.push l).queue = s.queue := rfl
@[simp] theorem State.push_exposure (s : State) (l : List Task) : (s.push l).exposure = s.exposure := rfl
@[simp] theorem State.push_waitingReport (s : State) (l : List Task) :
    (s.push l).waitingReport = s.waitingReport := rfl
@[simp] theorem State.push_seq (s : State) (l : List Task) : (s.push l).seq = s.seq := rfl
@[simp] theorem State.push_panel (s : State) (l : List Task) : (s.push l).panel = s.panel := rfl
@[simp] theorem State.push_proof (s : State) (l : List Task) : (s.push l).proof = s.proof := rfl
@[simp] theorem State.push_status (s : State) (l : List Task) : (s.push l).status = s.status := rfl
@[simp] theorem State.push_freeCount (s : State) (l : List Task) : (s.push l).freeCount = s.freeCount := rfl
@[simp] theorem State.push_pending (s : State) (l : List Task) : (s.push l).pending = s.pending := rfl

/-- All that `ineligible` can change. -/
theorem State.ineligible_frame (s : State) :
    s.ineligible = { s with
      composer.word := (s.ineligible).composer.word } := rfl

/-- All that `capWord` can change. -/
theorem State.capWord_frame (s : State) :
    s.capWord = { s with
      composer.word := (s.capWord).composer.word } := by unfold State.capWord State.ineligible; split <;> rfl

/-- All that `enterFontWait` can change. -/
theorem State.enterFontWait_frame (s : State) (n : Nat) (t : WaitTarget) (c : Option (Nat × Nat)) :
    s.enterFontWait n t c = { s with
      composer.state := (s.enterFontWait n t c).composer.state
      composer.fontWait := (s.enterFontWait n t c).composer.fontWait
      status.marks := (s.enterFontWait n t c).status.marks } := by
  unfold State.enterFontWait State.setComposer State.markIf; split <;> rfl

/-! ### Photounit -/

/-- All that `setSeq` can change. -/
theorem State.setSeq_frame (s : State) (x : SeqState) :
    s.setSeq x = { s with
      seq.state := (s.setSeq x).seq.state
      status.marks := (s.setSeq x).status.marks } := by unfold State.setSeq State.markIf; split <;> rfl

@[simp] theorem State.setSeq_mem (s : State) (x : SeqState) :
    (s.setSeq x).mem = s.mem := by unfold State.setSeq State.markIf; split <;> rfl
@[simp] theorem State.setSeq_port (s : State) (x : SeqState) :
    (s.setSeq x).port = s.port := by unfold State.setSeq State.markIf; split <;> rfl
@[simp] theorem State.setSeq_intake (s : State) (x : SeqState) :
    (s.setSeq x).intake = s.intake := by unfold State.setSeq State.markIf; split <;> rfl
@[simp] theorem State.setSeq_composer (s : State) (x : SeqState) :
    (s.setSeq x).composer = s.composer := by unfold State.setSeq State.markIf; split <;> rfl
@[simp] theorem State.setSeq_hyph (s : State) (x : SeqState) :
    (s.setSeq x).hyph = s.hyph := by unfold State.setSeq State.markIf; split <;> rfl
@[simp] theorem State.setSeq_font (s : State) (x : SeqState) :
    (s.setSeq x).font = s.font := by unfold State.setSeq State.markIf; split <;> rfl
@[simp] theorem State.setSeq_queue (s : State) (x : SeqState) :
    (s.setSeq x).queue = s.queue := by unfold State.setSeq State.markIf; split <;> rfl
@[simp] theorem State.setSeq_exposure (s : State) (x : SeqState) :
    (s.setSeq x).exposure = s.exposure := by unfold State.setSeq State.markIf; split <;> rfl
@[simp] theorem State.setSeq_waitingReport (s : State) (x : SeqState) :
    (s.setSeq x).waitingReport = s.waitingReport := by unfold State.setSeq State.markIf; split <;> rfl
@[simp] theorem State.setSeq_seq_halt (s : State) (x : SeqState) :
    (s.setSeq x).seq.halt = s.seq.halt := by unfold State.setSeq State.markIf; split <;> rfl
@[simp] theorem State.setSeq_seq_item (s : State) (x : SeqState) :
    (s.setSeq x).seq.item = s.seq.item := by unfold State.setSeq State.markIf; split <;> rfl
@[simp] theorem State.setSeq_seq_action (s : State) (x : SeqState) :
    (s.setSeq x).seq.action = s.seq.action := by unfold State.setSeq State.markIf; split <;> rfl
@[simp] theorem State.setSeq_seq_failed (s : State) (x : SeqState) :
    (s.setSeq x).seq.failed = s.seq.failed := by unfold State.setSeq State.markIf; split <;> rfl
@[simp] theorem State.setSeq_seq_shifted (s : State) (x : SeqState) :
    (s.setSeq x).seq.shifted = s.seq.shifted := by unfold State.setSeq State.markIf; split <;> rfl
@[simp] theorem State.setSeq_seq_lens (s : State) (x : SeqState) :
    (s.setSeq x).seq.lens = s.seq.lens := by unfold State.setSeq State.markIf; split <;> rfl
@[simp] theorem State.setSeq_seq_escapement (s : State) (x : SeqState) :
    (s.setSeq x).seq.escapement = s.seq.escapement := by unfold State.setSeq State.markIf; split <;> rfl
@[simp] theorem State.setSeq_seq_expiry (s : State) (x : SeqState) :
    (s.setSeq x).seq.expiry = s.seq.expiry := by unfold State.setSeq State.markIf; split <;> rfl
@[simp] theorem State.setSeq_seq_miss (s : State) (x : SeqState) :
    (s.setSeq x).seq.miss = s.seq.miss := by unfold State.setSeq State.markIf; split <;> rfl
@[simp] theorem State.setSeq_seq_order (s : State) (x : SeqState) :
    (s.setSeq x).seq.order = s.seq.order := by unfold State.setSeq State.markIf; split <;> rfl
@[simp] theorem State.setSeq_seq_deadline (s : State) (x : SeqState) :
    (s.setSeq x).seq.deadline = s.seq.deadline := by unfold State.setSeq State.markIf; split <;> rfl
@[simp] theorem State.setSeq_seq_manual (s : State) (x : SeqState) :
    (s.setSeq x).seq.manual = s.seq.manual := by unfold State.setSeq State.markIf; split <;> rfl
@[simp] theorem State.setSeq_seq_film (s : State) (x : SeqState) :
    (s.setSeq x).seq.film = s.seq.film := by unfold State.setSeq State.markIf; split <;> rfl
@[simp] theorem State.setSeq_panel (s : State) (x : SeqState) :
    (s.setSeq x).panel = s.panel := by unfold State.setSeq State.markIf; split <;> rfl
@[simp] theorem State.setSeq_proof (s : State) (x : SeqState) :
    (s.setSeq x).proof = s.proof := by unfold State.setSeq State.markIf; split <;> rfl
@[simp] theorem State.setSeq_status_flags (s : State) (x : SeqState) :
    (s.setSeq x).status.flags = s.status.flags := by unfold State.setSeq State.markIf; split <;> rfl
@[simp] theorem State.setSeq_status_count (s : State) (x : SeqState) :
    (s.setSeq x).status.count = s.status.count := by unfold State.setSeq State.markIf; split <;> rfl
@[simp] theorem State.setSeq_status_pass (s : State) (x : SeqState) :
    (s.setSeq x).status.pass = s.status.pass := by unfold State.setSeq State.markIf; split <;> rfl
@[simp] theorem State.setSeq_status_capture (s : State) (x : SeqState) :
    (s.setSeq x).status.capture = s.status.capture := by unfold State.setSeq State.markIf; split <;> rfl
@[simp] theorem State.setSeq_status_markValue (s : State) (x : SeqState) :
    (s.setSeq x).status.markValue = s.status.markValue := by unfold State.setSeq State.markIf; split <;> rfl
@[simp] theorem State.setSeq_status_markCount (s : State) (x : SeqState) :
    (s.setSeq x).status.markCount = s.status.markCount := by unfold State.setSeq State.markIf; split <;> rfl
@[simp] theorem State.setSeq_status_reports (s : State) (x : SeqState) :
    (s.setSeq x).status.reports = s.status.reports := by unfold State.setSeq State.markIf; split <;> rfl
@[simp] theorem State.setSeq_status_nextSlot (s : State) (x : SeqState) :
    (s.setSeq x).status.nextSlot = s.status.nextSlot := by unfold State.setSeq State.markIf; split <;> rfl
@[simp] theorem State.setSeq_freeCount (s : State) (x : SeqState) :
    (s.setSeq x).freeCount = s.freeCount := by unfold State.setSeq State.markIf; split <;> rfl
@[simp] theorem State.setSeq_pending (s : State) (x : SeqState) :
    (s.setSeq x).pending = s.pending := by unfold State.setSeq State.markIf; split <;> rfl

/-- All that `setHalt` can change. -/
theorem State.setHalt_frame (s : State) (k : Option HaltKind) :
    s.setHalt k = { s with
      seq.halt := (s.setHalt k).seq.halt
      status.marks := (s.setHalt k).status.marks } := by unfold State.setHalt State.markIf; split <;> rfl

/-- All that `setFilm` can change. -/
theorem State.setFilm_frame (s : State) (f : Film) :
    s.setFilm f = { s with
      seq.film := (s.setFilm f).seq.film
      status.marks := (s.setFilm f).status.marks } := rfl

/-! ### ProofUnit -/

/-- All that `setHalf` can change. -/
theorem State.setHalf_frame (s : State) (h : Half) (x : HalfState) :
    s.setHalf h x = { s with
      proof.halfA := (s.setHalf h x).proof.halfA
      proof.halfB := (s.setHalf h x).proof.halfB
      status.marks := (s.setHalf h x).status.marks } := by unfold State.setHalf State.markIf; (repeat' split) <;> rfl

/-- All that `setWritePoint` can change. -/
theorem State.setWritePoint_frame (s : State) (p : SpoolPoint) :
    s.setWritePoint p = { s with
      proof.writePoint := (s.setWritePoint p).proof.writePoint
      status.marks := (s.setWritePoint p).status.marks } := by unfold State.setWritePoint State.markIf; split <;> rfl

/-- All that `setDrainPoint` can change. -/
theorem State.setDrainPoint_frame (s : State) (p : SpoolPoint) :
    s.setDrainPoint p = { s with
      proof.drainPoint := (s.setDrainPoint p).proof.drainPoint
      status.marks := (s.setDrainPoint p).status.marks } := by unfold State.setDrainPoint State.markIf; split <;> rfl

/-- All that `setGap` can change. -/
theorem State.setGap_frame (s : State) (n : Nat) :
    s.setGap n = { s with
      proof.gap := (s.setGap n).proof.gap
      status.marks := (s.setGap n).status.marks } := by unfold State.setGap State.markIf; split <;> rfl

end Sys2Proof.Machine
end

