-- ==== Sys2Proof/Tests/Slice0.lean ====
section
/-! SUPPORT. Tests: the checks of WellFormed, one-step tests against the worked examples of spec/, and for every
statement with hypotheses a state that meets them, at the boundary values of their ranges. -/

namespace Sys2Proof.Tests

-- One theorem after another: with the proofs in parallel the compile holds many threads, and their stacks fill the memory it may use.
set_option Elab.async false

open Sys2Proof Sys2Proof.Machine

/-! ### Helpers -/

/-- The state a step leads to; the reset state when it stops. -/
def nextOf (o : Host.Outcome State Fault Refusal) : State :=
  match o with
  | .next t => t
  | _ => State.reset

/-- Whether a step answers a next state. -/
def answers (o : Host.Outcome State Fault Refusal) : Bool :=
  match o with
  | .next _ => true
  | _ => false

/-- The words `l` in the run, the Composer in state `x`, and job 7 in progress when `job`. -/
def copyAt (x : ComposerState) (job : Bool) (l : List Word) : State :=
  { State.reset with
    intake.run := l
    intake.fill := l.length
    intake.intakeOffset := 8192 + l.length
    intake.job.inProgress := job
    intake.job.number := 7
    intake.job.serial := 1
    composer.state := x }

/-- The command `c` of command word `w` is in progress with the operands `ops`, and its last operand is next. -/
def lastOperand (s : State) (c : Cmd) (w : Word) (ops : List Word) (last : Word) : State :=
  { s with
    intake.run := [last]
    intake.fill := 1
    intake.decoder := some { cmd := c, word := w, offset := 8190, operands := ops, remaining := 1, dropped := false } }

/-- A position that holds font `n` in state `x`. -/
def posn (n : Nat) (x : PosState) : Position := { Position.vacant with font := n, state := x }

/-- The position table with `e` at `p`. -/
def withPos (s : State) (p : Fin 8) (e : Position) : State := { s with font.table := s.font.table.set p e }

/-- The position table with `e` at every position. -/
def withAll (s : State) (e : Position) : State := { s with font.table := Vector.replicate 8 e }

/-- An entry of kind `k` that no consumer has begun. -/
def waitingEntry (k : EntryKind) : Entry :=
  { kind := k, tag := some { number := 640, serial := 1 }, marks := [], mode := .off, photo := .waiting,
    proof := .proofed }

/-- A request of kind `k` at `off`, in progress for requester `r`. -/
def inCycle (s : State) (r : Requester) (q : CycleRequest) : State :=
  { s with port.cycle := some r, port.requests := s.port.requests.set r (some q) }

/-! ### WellFormed -/

theorem test_wellFormed_ring_write_on_ring :
    WellFormed (.hostRingWrite 8192 0 .good) = true ∧ WellFormed (.hostRingWrite 24575 0 .good) = true := by decide

theorem test_wellFormed_refuses_ring_write_off_ring :
    WellFormed (.hostRingWrite 8191 0 .good) = false ∧ WellFormed (.hostRingWrite 24576 0 .good) = false := by decide

theorem test_wellFormed_refuses_host_write_to_cells :
    WellFormed (.hostWrite 32 0 .good) = false ∧ WellFormed (.hostWrite 33 0 .good) = false
      ∧ WellFormed (.hostWrite 34 0 .good) = false ∧ WellFormed (.hostWrite 35 0 .good) = true := by decide

theorem test_wellFormed_refuses_host_write_off_bank :
    WellFormed (.hostWrite 32768 0 .good) = false ∧ WellFormed (.hostWrite 32767 0 .good) = true := by decide

theorem test_wellFormed_refuses_known_intervention :
    WellFormed (.unknownIntervention 0x0100 .good) = false ∧ WellFormed (.unknownIntervention 0x08FF .good) = false
      ∧ WellFormed (.unknownIntervention 0x00FF .good) = true
      ∧ WellFormed (.unknownIntervention 0x0900 .good) = true := by decide

/-- The table gives no row any bits (log 27). -/
theorem test_no_word_spells_a_command : decodeTableWord 16 0x8111 = none := rfl

/-! ### The machine -/

theorem witness_NothingToDoChangesNothing :
    let s : State := { State.reset with status.marks := [], panel.ownership := .taking };
    s.pending = [] ∧ s.port.cycle = none ∧ (s.port.requests.get .intake = none ∧ s.port.requests.get .library = none
      ∧ s.port.requests.get .drain = none ∧ s.port.requests.get .spool = none ∧ s.port.requests.get .status = none)
      ∧ s.port.held = none ∧ s.status.marks = [] ∧ s.composer.held = none ∧ s.composer.fontWait = none
      ∧ (∀ p : Fin 8, s.font.table[p].state ≠ .requested) ∧ s.seq.manual = none ∧ s.seq.order = none
      ∧ s.panel.ownership ≠ .copy ∧ s.proof.port ≠ .awaiting ∧ s.proof.port = .idle ∧ s.intake.run = [] := by decide

/-- A SPOOL write of word `w` at the start of half A is in progress. -/
def cutOff (w : Word) : State := inCycle State.reset .spool (request .spool halfABase w)

theorem witness_PowerOnCommand :
    (Quiet State.reset ∧ MemoryInv State.reset ∧ State.reset.port.cycle = none ∧ State.reset.port.held = none)
      ∧ (let s : State := { cutOff 5 with port.held := some { offset := 24575, data := 7, bus := .good } };
        Quiet s ∧ MemoryInv s ∧ s.port.cycle = some .spool
          ∧ s.port.requests.get .spool = some (request .spool halfABase 5)
          ∧ ∃ c, s.port.held = some c ∧ c.bus = .good)
      ∧ ∃ v, exec .powerOn State.reset = .next v :=
  ⟨by decide, ⟨by decide, by decide, by decide, by decide, _, rfl, rfl⟩, _, rfl⟩

/-- A host cycle that waited is made after the reset (log 8): the word at the intake offset is taken. -/
theorem test_power_on_with_a_host_cycle_waiting :
    let h : HostCycle := { offset := 8192, data := 0x41, bus := .good };
    let s : State := { State.reset with port.hostQueue := [h], intake.fill := 16384 };
    nextOf (exec .powerOn s) =
        nextOf (exec (.hostWrite h.offset h.data h.bus) (nextOf (exec .powerOn { s with port.hostQueue := [] })))
      ∧ (nextOf (exec .powerOn s)).intake.run = [0x41] := by decide +kernel

theorem witness_MemoryCanonicalKept :
    let s : State := { State.reset with mem := [(5, 1), (32767, 2)], pending := [.hostWrite 5 0 .good] };
    MemoryInv s ∧ answers (step s) = true := by decide

theorem witness_FilmConservedKept :
    let s : State := { State.reset with
      seq.film := { loaded := 150, remaining := 150, position := 0, cutTotal := 0 }
      seq.order := some (.move 150 false)
      seq.state := .moving
      pending := [.motionComplete] };
    s.seq.film.loaded = s.seq.film.remaining + s.seq.film.position + s.seq.film.cutTotal
      ∧ answers (step s) = true ∧ (nextOf (step s)).seq.film.position = 150 := by decide

theorem witness_QueueBoundKept :
    let s : State := { copyAt .setting true [0x9100] with
      queue := List.replicate 6 (waitingEntry .cut), pending := [.cut] };
    QueueInv s ∧ answers (step s) = true := by decide

theorem witness_WaitingCommandsAndStatusKept :
    answers (exec .cancel State.reset) = true ∧ State.reset.port.disabled.status = false := by decide

theorem witness_EveryCommandAnswers :
    bankWords ≤ 32768 ∧ 32767 < bankWords ∧ answers (exec (.hostWrite 32767 1 .good) State.reset) = true := by decide

/-! ### Host writes -/

/-- A record of slot 3 is being read. -/
def readingSlot (words : List Word) (n : Nat) : State :=
  { withPos State.reset 5 (posn 61 .loading) with font.fetchList := [5], font.fetch := some (.record 3 words true n) }

theorem witness_HostWriteReachesMemory :
    (∀ off ∈ [0, 31, 35, 8191, 24576, 32767],
      HostIdle State.reset ∧ MemoryInv State.reset ∧ plainOffset off = true ∧ inRing off = false)
      ∧ State.reset.font.fetch = none
      ∧ let s := readingSlot [61] 0;
        HostIdle s ∧ s.font.fetch = some (.record 3 [61] true 0)
          ∧ slotOffset 3 0 - 1 < slotOffset 3 0 ∧ plainOffset (slotOffset 3 0 - 1) = true
          ∧ slotOffset 3 0 + slotWords ≤ slotOffset 3 0 + slotWords
          ∧ plainOffset (slotOffset 3 0 + slotWords) = true ∧ inRing (slotOffset 3 0 + slotWords) = false := by
  decide

theorem witness_HostWriteDisturbsRecordRead :
    (let s := readingSlot [61] 2;
      HostIdle s ∧ s.font.fetch = some (.record 3 [61] true 2) ∧ s.font.fetchList = 5 :: [] ∧ 3 < slotCount
        ∧ slotOffset 3 0 ≤ slotOffset 3 51 ∧ slotOffset 3 51 < slotOffset 3 0 + slotWords)
      ∧ let s := readingSlot [] 3;
        HostIdle s ∧ s.font.fetch = some (.record 3 [] true 3) ∧ s.font.fetchList = [5]
          ∧ slotOffset 3 0 < slotOffset 3 0 + slotWords := by decide

/-- A disturbed record read begins again with word 0, with no read of the old word made (R69). -/
theorem test_restart_reads_word_0_next :
    let s := readingSlot [61] 0;
    let t := nextOf (exec (.hostWrite (slotOffset 3 9) 1 .good) (s.requesting));
    (s.requesting).port.requests.library = some (request .record (slotOffset 3 1) 0)
      ∧ t.port.requests.library = some (request .record (slotOffset 3 0) 0)
      ∧ t.font.fetch = some (.record 3 [] true 1) := by decide

theorem witness_RingWriteByItsPlace :
    (let s : State := { State.reset with intake.intakeOffset := 24575, intake.consumeOffset := 8192,
                                         intake.fill := 16383 };
      HostIdle s ∧ inRing s.intake.intakeOffset = true ∧ s.intake.fill < ringWords)
      ∧ (let s : State := { State.reset with intake.fill := 16384 };
        HostIdle s ∧ inRing s.intake.intakeOffset = true ∧ ringWords ≤ s.intake.fill)
      ∧ HostIdle State.reset ∧ inRing 24575 = true ∧ 24575 ≠ State.reset.intake.intakeOffset := by decide

/-- A host write of 0x41 waits behind the part cycle of `s`. -/
def behind (s : State) : State :=
  { s with port.hostQueue := [{ offset := 8192, data := 0x41, bus := .good }] }

theorem witness_HostCycleWaits :
    (inCycle State.reset .intake (request .refetch 8192 0)).port.cycle.isSome = true
      ∧ ({ State.reset with port.held := some { offset := 8192, data := 1, bus := .good } } : State).port.held.isSome
        = true
      ∧ 8192 < bankWords ∧ 32767 < bankWords
      ∧ (∀ x ∈ [(Requester.intake, CycleKind.refetch, Instr.refetchRead), (.library, .search, .librarySearchRead),
          (.library, .record, .libraryRecordRead), (.drain, .drain, .drainRead), (.spool, .spool, .spoolWrite),
          (.status, .status, .statusWrite)], ∀ i ∈ [x.2.2, .bankFault],
        let q := request x.2.1 24576 1;
        let s := behind (inCycle State.reset x.1 q);
        s.port.held = none ∧ s.port.cycle = some x.1 ∧ s.port.requests.get x.1 = some q ∧ q.kind = x.2.1
          ∧ answers (exec i { s with port.hostQueue := [] }) = true)
      ∧ ∀ x ∈ [(HoldTimer.idle, Instr.holdRelease), (.running, .holdLimitExpiry)],
        let c : HostCycle := { offset := 8192, data := 1, bus := .good };
        let s := behind { State.reset with port.held := some c, port.holdTimer := x.1 };
        s.port.held = some c ∧ s.port.cycle = none ∧ s.port.holdTimer = x.1
          ∧ answers (exec x.2 { s with port.hostQueue := [] }) = true := by decide

/-- A host cycle that waited begins when the part cycle ends (R168): the word is taken behind the one refetched. -/
theorem test_waiting_host_cycle_begins :
    let s : State := behind { inCycle State.reset .intake (request .refetch 8192 0) with
      intake.fill := 1, intake.intakeOffset := 8193, mem := [(8192, 0x30)] };
    let t : State := { s with
      port.hostQueue := [{ offset := 8193, data := 0x41, bus := .good }] };
    (nextOf (exec .refetchRead t)).intake.run = [0x30, 0x41]
      ∧ (nextOf (exec .refetchRead s)).read 8192 = 0x41 ∧ (nextOf (exec .refetchRead s)).intake.run = [0x30]
      ∧ nextOf (exec .refetchRead s) = nextOf (exec (.hostWrite 8192 0x41 .good)
          (nextOf (exec .refetchRead { s with port.hostQueue := [] }))) := by decide +kernel

theorem witness_FlagAndMaskCellWrites :
    HostIdle State.reset ∧ Quiet State.reset ∧ answers (exec .cancel (copyAt .setting true [])) = true := by decide

theorem witness_RaiseAddsTheFlag :
    State.reset.flagSet .dictionaryFull = false ∧ (State.reset.raise .jobReport).flagSet .jobReport = true := by decide

theorem witness_InterruptLineFollows :
    HostIdle State.reset
      ∧ State.reset.interruptLine ≠
        (State.raise { State.reset with port.mask := 0x2000 } .dictionaryFull).interruptLine := by decide

/-- 9: a clear of one flag leaves the others, and memory takes the set as it then stands (R172). -/
theorem test_flag_cell_write :
    let s : State := { State.reset with status.flags := 0x0041 };
    (nextOf (exec (.flagCellWrite 0x0001 .good) s)).status.flags = 0x0040
      ∧ (nextOf (exec (.flagCellWrite 0x0001 .good) s)).read 32 = 0x0040 := by decide

/-! ### Interventions -/

theorem witness_RefusedInterventionChangesNothing :
    HostIdle State.reset ∧ namesNoIntervention 0x00FF = true ∧ namesNoIntervention 0x0900 = true
      ∧ (∀ p : Fin 8, p.val = (0#8).toNat →
        State.reset.font.table[p].state ≠ .requested ∧ State.reset.font.table[p].state ≠ .loading)
      ∧ (∀ p : Fin 8, p.val = (8#8).toNat →
        State.reset.font.table[p].state ≠ .requested ∧ State.reset.font.table[p].state ≠ .loading)
      ∧ (0#8).toNat = 0 ∧ 4 < (5#8).toNat
      ∧ HostIdle (copyAt .setting true []) ∧ (copyAt .setting true []).composer.state ≠ .outsideJob
      ∧ (copyAt .setting true []).composer.state ≠ .discarding := by decide

theorem witness_JobAbortByEachRoad :
    (HostIdle State.reset ∧ State.reset.intake.job.inProgress = false)
      ∧ (HostIdle (copyAt .setting true []) ∧ (copyAt .setting true []).intake.job.inProgress = true)
      ∧ let s : State := { copyAt .setting true [] with
          port.held := some { offset := 8192, data := 1, bus := .good }, port.holdTimer := .running };
        Quiet s ∧ s.intake.job.inProgress = true ∧ s.port.held = some { offset := 8192, data := 1, bus := .good }
          ∧ s.port.holdTimer = .running := by decide

/-- The job in progress has a call outstanding, and an entry of it in proof. -/
def jobAtWork : State :=
  let tag : JobTag := { number := 7, serial := 1 };
  let e : Entry :=
    { kind := .cut, tag := some tag, marks := [], mode := .attached, photo := .waiting, proof := .inProof };
  let s := withPos (copyAt .setting true []) 2 { posn 61 .requested with origin := some (.font tag) };
  { s with queue := [e], panel.calls := [2], proof.records := [{ role := .own, chars := [0x41] }] }

/-- An abort withdraws the job's calls (R75) and gives up its entry in proof (R162). -/
theorem test_abort_withdraws_and_gives_up :
    let t := nextOf (exec (.abortJob 0 .good) jobAtWork);
    t.panel.calls = [] ∧ t.font.table[(2 : Fin 8)].state = .vacant
      ∧ t.font.table[(2 : Fin 8)].reason = some .withdrawn ∧ t.queue = [] ∧ t.proof.records = [] := by decide +kernel

/-- A JOB whose operand an abort found expected is completed and dropped (R86, R100). -/
theorem test_job_operand_dropped_after_abort :
    let s := lastOperand (copyAt .setting true []) .job 0x8100 [] 9;
    let t := nextOf (exec .job (nextOf (exec (.abortJob 0 .good) s)));
    t.composer.state = .discarding ∧ t.intake.job.inProgress = false ∧ t.intake.run = []
      ∧ t.intake.decoder = none := by decide +kernel

theorem witness_InterventionsTaken :
    (∀ x ∈ [PosState.requested, .loading],
      let s := withPos State.reset 7 (posn 61 x);
      HostIdle s ∧ (7 : Fin 8).val = (7#8).toNat ∧ s.font.table[(7 : Fin 8)].state = x
        ∧ s.port.disabled.library = false)
      ∧ HostIdle State.reset
      ∧ (1#8, Requester.intake) ∈ [(1#8, Requester.intake), (2#8, .library), (3#8, .drain), (4#8, .spool)]
      ∧ (4#8, Requester.spool) ∈ [(1#8, Requester.intake), (2#8, .library), (3#8, .drain), (4#8, .spool)] := by
  decide

theorem witness_RingResetAndRepost :
    (HostIdle State.reset ∧ State.reset.composer.state = .outsideJob)
      ∧ HostIdle (copyAt .discarding false [0x41]) ∧ (copyAt .discarding false [0x41]).composer.state = .discarding := by
  decide

/-- A ring that stands at its reset values marks no word at RING RESET (R190). -/
theorem test_ring_reset_of_a_reset_ring :
    let s : State := { State.reset with status.marks := [] };
    (nextOf (exec (.ringReset 0 .good) s)).status.marks = []
      ∧ (nextOf (exec (.ringReset 0 .good) { s with intake.fill := 1 })).status.marks = [19] := by decide

theorem witness_HoldEnds :
    (let s : State := { State.reset with
        port.held := some { offset := 8192, data := 1, bus := .good }, intake.fill := 16383 };
      Quiet s ∧ s.port.cycle = none ∧ s.port.holdTimer = .idle
        ∧ s.port.held = some { offset := s.intake.intakeOffset, data := 1, bus := .good }
        ∧ inRing s.intake.intakeOffset = true ∧ s.intake.fill < ringWords)
      ∧ ∀ run ∈ [[], [5]], let s : State := { State.reset with
          port.held := some { offset := 8192, data := 1, bus := .good }, port.holdTimer := .running
          intake.fill := 16384, intake.run := run };
        Quiet s ∧ s.port.held = some { offset := 8192, data := 1, bus := .good } ∧ s.port.holdTimer = .running
          ∧ s.intake.job.inProgress = false := by decide

/-- 9.7: the held word goes over the oldest word, and the fill stands (R79). -/
theorem test_hold_limit_expiry :
    let s : State := { State.reset with
      port.held := some { offset := 12000, data := 0x77, bus := .good }, port.holdTimer := .running
      intake.fill := 16384, intake.intakeOffset := 12000, intake.consumeOffset := 12000 };
    (nextOf (exec .holdLimitExpiry s)).read 12000 = 0x77
      ∧ (nextOf (exec .holdLimitExpiry s)).intake.consumeOffset = 12001
      ∧ (nextOf (exec .holdLimitExpiry s)).intake.fill = 16384 := by decide

/-! ### Part cycles -/

theorem witness_ArbiterGrantsFirstWaiting :
    (let s : State := { State.reset with
        port.requests := State.reset.port.requests.set .intake (some (request .refetch 8192 0)) };
      s.port.cycle = none ∧ Quiet s ∧ s.port.held = none ∧ requesters = [] ++ .intake :: requesters.tail
        ∧ s.port.requests.get .intake ≠ none)
      ∧ let s : State := { State.reset with
          port.requests := State.reset.port.requests.set .status (some (request .status 1 0))
          port.held := some { offset := 8192, data := 1, bus := .good }, port.holdTimer := .running };
        s.port.cycle = none ∧ Quiet s ∧ s.port.holdTimer = .running
          ∧ requesters = [.intake, .library, .drain, .spool] ++ .status :: []
          ∧ (∀ q ∈ [Requester.intake, .library, .drain, .spool], s.port.requests.get q = none)
          ∧ s.port.requests.get .status ≠ none := by decide

theorem witness_ArbiterGrantsFirstWaiting_cycles :
    let r : PrintRecord := { role := .own, chars := [0x41, 0x42, 0x43] };
    let reading : Reading := { count := 3, words := 2, stop := 3, got := [0x4142] };
    State.reset.font.fetch = none ∧ State.reset.proof.reading = none ∧ State.reset.proof.records = []
      ∧ State.reset.status.pass = none
      ∧ ({ State.reset with font.fetch := some (.search 145) } : State).font.fetch = some (.search 145)
      ∧ ({ State.reset with font.fetch := some (.record 3 [61] true 0) } : State).font.fetch
        = some (.record 3 [61] true 0)
      ∧ ({ State.reset with proof.reading := some reading } : State).proof.reading = some reading
      -- SPOOL: a PAD, a header, the first and the last character word
      ∧ (let u := ({ State.reset with proof.records := [r], proof.writePoint := ⟨.a, 4094⟩ } : State).proof;
        u.records = r :: [] ∧ u.half u.writePoint.half ≠ .full ∧ u.written = 0
          ∧ 4096 - u.writePoint.offset < r.words)
      ∧ (∀ n ∈ [0, 1, 2],
        let u := ({ State.reset with proof.records := [r], proof.writePoint := ⟨.a, 4093⟩,
                                     proof.written := n } : State).proof;
        u.records = r :: [] ∧ u.half u.writePoint.half ≠ .full ∧ r.words = 4096 - u.writePoint.offset
          ∧ (n = 0 ∨ n = (n - 1) + 1) ∧ (∀ c ∈ r.chars, c < 256))
      ∧ ({ State.reset with status.pass := some { words := [] } } : State).status.pass = some { words := [] }
      ∧ ({ State.reset with status.pass := some { words := [(5, 6)] } } : State).status.pass
        = some { words := (5, 6) :: [] } := by decide

/-- The requests owners make: a refetch that wraps (R81), the last slot of the library (R67), an odd last character
word (R159; its low byte is the model's, log 45), a PAD where a record does not fit (R159). -/
theorem test_requests_made :
    (let s : State := { State.reset with
        intake.fill := 2, intake.run := [0x41], intake.consumeOffset := 24575, intake.intakeOffset := 8193 };
      s.wants .intake = some (request .refetch 8192 0))
      ∧ ({ State.reset with font.fetch := some (.search 1) } : State).wants .library = some (request .search 564 0)
      ∧ (let s : State := { State.reset with proof.records := [{ role := .own, chars := [0x41, 0x42, 0x43] }] };
        s.wants .spool = some (request .spool 24576 3)
          ∧ ({ s with proof.written := 2 } : State).wants .spool = some (request .spool 24578 0x4300)
          ∧ ({ s with proof.writePoint := ⟨.b, 4094⟩ } : State).wants .spool
            = some (request .spool 32766 0x8000)) := by decide

theorem witness_RefetchAndGivenUpCycles :
    (let s := inCycle State.reset .intake (request .refetch 8192 0);
      Quiet s ∧ s.port.cycle = some .intake ∧ s.port.requests.intake = some (request .refetch 8192 0)
        ∧ (request .refetch 8192 0).kind = .refetch ∧ (request .refetch 8192 0).stale = false)
      ∧ ∀ x ∈ [(Requester.intake, CycleKind.refetch), (.library, .search), (.library, .record), (.drain, .drain),
          (.spool, .spool)],
        let q : CycleRequest := { kind := x.2, offset := 24576, data := 1, stale := true };
        let s := inCycle State.reset x.1 q;
        Quiet s ∧ s.port.cycle = some x.1 ∧ s.port.requests.get x.1 = some q ∧ q.stale = true := by decide

/-- Font 61 is being looked for; slot `k` is being read, and its word 0 holds `w`. -/
def searching (k : Nat) (w : Word) : State :=
  let s := withPos State.reset 5 (posn 61 .loading);
  inCycle { s with font.fetchList := [5], font.fetch := some (.search k), mem := writeMem [] (slotOffset k 0) w }
    .library (request .search (slotOffset k 0) 0)

theorem witness_LibrarySearch :
    (let s := searching 0 61;
      Quiet s ∧ s.port.cycle = some .library ∧ s.port.requests.library = some (request .search (slotOffset 0 0) 0)
        ∧ s.font.fetch = some (.search 0) ∧ s.font.fetchList = 5 :: []
        ∧ (s.read (slotOffset 0 0)).toNat = s.font.table[(5 : Fin 8)].font)
      ∧ (let s := searching (slotCount - 2) 60;
        Quiet s ∧ s.font.fetch = some (.search (slotCount - 2)) ∧ slotCount - 2 + 1 < slotCount)
      ∧ let s := searching (slotCount - 1) 60;
        Quiet s ∧ s.port.cycle = some .library
          ∧ s.port.requests.library = some (request .search (slotOffset (slotCount - 1) 0) 0)
          ∧ s.font.fetch = some (.search (slotCount - 1)) ∧ s.font.fetchList = [5]
          ∧ (s.read (slotOffset (slotCount - 1) 0)).toNat ≠ s.font.table[(5 : Fin 8)].font := by decide

/-- The record of font 61 in slot 3 is being read, with the words `words` read so far. -/
def readingRecord (words : List Word) : State :=
  inCycle { readingSlot words 0 with mem := writeMem [] (slotOffset 3 words.length) 61 } .library
    (request .record (slotOffset 3 words.length) 0)

theorem witness_LibraryRecord :
    (let s := readingRecord (List.replicate 50 0);
      Quiet s ∧ s.port.cycle = some .library ∧ s.port.requests.library = some (request .record (slotOffset 3 50) 0)
        ∧ s.font.fetch = some (.record 3 (List.replicate 50 0) true 0) ∧ s.font.fetchList = 5 :: []
        ∧ (List.replicate 50 (0 : Word)).length < 51)
      ∧ let words : List Word := 61 :: List.replicate 50 0;
        let s := readingRecord words;
        let l := words ++ [s.read (slotOffset 3 51)];
        Quiet s ∧ s.port.cycle = some .library ∧ s.port.requests.library = some (request .record (slotOffset 3 51) 0)
          ∧ s.font.fetch = some (.record 3 words true 0) ∧ s.font.fetchList = [5] ∧ words.length = 51
          ∧ (l.getD 0 0).toNat = s.font.table[(5 : Fin 8)].font ∧ l.getD 51 0 = (l.take 51).foldl (· + ·) 0
          ∧ (recordOf l).min ≤ (recordOf l).normal ∧ (recordOf l).normal ≤ (recordOf l).max ∧ (recordOf l).max ≤ 127
          ∧ (recordOf l).limit ≤ 8 ∧ ∀ x ∈ (recordOf l).widths, x ≤ 127 := by decide

/-- The last word of a record that is refused: its check word wrong, a maximum of 128, another font's number, and both. -/
theorem witness_LibraryRecord_refused :
    (∀ x ∈ [(61, 0, true, false), (61, 0x8000, true, false), (60, 0, true, true)],
      let words : List Word := BitVec.ofNat 16 x.1 :: 0 :: BitVec.ofNat 16 x.2.1 :: List.replicate 48 0;
      let s0 := readingSlot words 0;
      let s := inCycle { s0 with
          font.fetchList := [5, 3], mem := writeMem [] (slotOffset 3 51) (if x.2.1 = 0 then 7 else 0x803D) } .library
        (request .record (slotOffset 3 51) 0);
      let l := words ++ [s.read (slotOffset 3 51)];
      Quiet s ∧ s.font.fetchList = 5 :: [3] ∧ words.length = 51 ∧ s.port.disabled.library = false
        ∧ decide (l.getD 51 0 ≠ (l.take 51).foldl (· + ·) 0 ∨ 127 < (recordOf l).max) = x.2.2.1
        ∧ decide ((l.getD 0 0).toNat ≠ s.font.table[(5 : Fin 8)].font) = x.2.2.2)
      ∧ let words : List Word := 60 :: List.replicate 50 0;
        let s := readingRecord words;
        let t : State := { s with mem := writeMem [] (slotOffset 3 51) 60 };
        Quiet t ∧ t.font.fetchList = [5] ∧ words.length = 51
          ∧ t.read (slotOffset 3 51) = ((words ++ [60]).take 51).foldl (· + ·) 0
          ∧ ((words ++ [60]).getD 0 0).toNat ≠ t.font.table[(5 : Fin 8)].font := by decide

/-- The drain reads at the start of half A, whose first word is `w`. -/
def draining (w : Word) : State :=
  inCycle { State.reset with
      proof.halfA := .full, proof.halfB := .filling, proof.writePoint := { half := .b, offset := 0 }
      mem := writeMem [] halfABase w } .drain (request .drain halfABase 0)

theorem witness_DrainReads :
    (∀ c ∈ [1, 132], let s := draining (BitVec.ofNat 16 c);
      Quiet s ∧ s.port.cycle = some .drain ∧ s.port.requests.drain = some (request .drain halfABase 0)
        ∧ s.proof.reading = none ∧ (s.read halfABase).toNat = c
        ∧ s.proof.writePoint.half ≠ s.proof.drainPoint.half ∧ s.proof.drainPoint.offset + 1 + wordsFor c ≤ 4096)
      ∧ (let r : Reading := { count := 3, words := 2, stop := 3, got := [] };
        let s : State := { draining 3 with proof.reading := some r };
        Quiet s ∧ s.proof.reading = some r ∧ r.got.length + 1 < r.words)
      ∧ (let r : Reading := { count := 3, words := 2, stop := 4095, got := [0x4142] };
        let s : State := { draining 3 with proof.reading := some r };
        Quiet s ∧ s.proof.reading = some r ∧ r.got.length + 1 = r.words ∧ r.stop < 4096
          ∧ s.proof.drainPoint.offset < r.stop)
      ∧ let s := draining 0x8000;
        Quiet s ∧ s.port.cycle = some .drain ∧ s.proof.reading = none ∧ wordBit (s.read halfABase) 15 = true
          ∧ s.proof.drainPoint.half = .a ∧ s.proof.writePoint.half = Half.other .a
          ∧ s.proof.half .a = .full ∧ s.proof.half (Half.other .a) = .filling := by decide

/-- A header in the write point's half, where the write point stands at the record's end, one word before it and right
behind the header, and a record of no characters; the last word of a record that ends a FULL half; and a PAD in the write
point's half. -/
theorem witness_DrainReads_limits :
    (∀ x ∈ [(3, 3), (3, 2), (3, 1), (0, 4096)],
      let s : State := { draining (BitVec.ofNat 16 x.1) with
        proof.halfA := .filling, proof.halfB := .empty, proof.writePoint := { half := .a, offset := x.2 } };
      Quiet s ∧ s.port.cycle = some .drain ∧ s.port.requests.drain = some (request .drain halfABase 0)
        ∧ s.proof.reading = none ∧ wordBit (s.read halfABase) 15 = false ∧ (s.read halfABase).toNat % 256 = x.1
        ∧ s.proof.writePoint.half = s.proof.drainPoint.half ∧ s.proof.drainPoint.offset = 0
        ∧ s.proof.drainPoint.offset < s.proof.writePoint.offset)
      ∧ (let r : Reading := { count := 3, words := 2, stop := 4096, got := [0x4142] };
        let s : State := { draining 3 with proof.reading := some r, proof.drainPoint := { half := .a, offset := 4093 } };
        Quiet s ∧ s.proof.reading = some r ∧ r.got.length + 1 = r.words ∧ s.proof.half .a = .full)
      ∧ (let s : State := { draining 0x8000 with
            proof.halfA := .filling, proof.writePoint := { half := .a, offset := 9 } };
        Quiet s ∧ s.proof.reading = none ∧ wordBit (s.read halfABase) 15 = true
          ∧ s.proof.writePoint.half = s.proof.drainPoint.half ∧ s.proof.half .a ≠ .full)
      ∧ ([0x4142#16] : List Word)[0]? = some 0x4142 ∧ 2 * 0 < 1 ∧ 2 * 0 + 1 < 2 := by decide

/-- The last record of a FULL half is printed and the half left, and a write point that waited moves into it (R158,
R163). -/
theorem test_last_record_of_a_full_half :
    let s : State := { draining 0x4344 with
      proof.halfB := .full, proof.writePoint := { half := .b, offset := 4096 }
      proof.drainPoint := { half := .a, offset := 4093 }
      proof.reading := some { count := 4, words := 2, stop := 4096, got := [0x4142] } };
    let t := nextOf (exec .drainRead s);
    t.proof.halfA = .empty ∧ t.proof.drainPoint = ⟨.b, 0⟩ ∧ t.proof.writePoint = ⟨.a, 0⟩
      ∧ t.proof.buffer = some [0x41, 0x42, 0x43, 0x44] := by decide

/-- A SPOOL write is in progress for the records `l`, `n` words of the first of them being written. -/
def spooling (l : List PrintRecord) (n : Nat) (e : List Entry) : State :=
  inCycle { State.reset with
      proof.records := l, proof.written := n, proof.halfA := .filling, queue := e } .spool
    (request .spool halfABase 0x4142)

/-- A JOBEND. -/
def someEnd : JobEndEntry :=
  { job := 640, outcome := .complete, linesSet := 1, sumComputed := 2, sumGiven := 2, flags := JobFlags.none }

/-- A LINE entry without items. -/
def someLine : LineEntry := emptyLineEntry 640 1 .left 240 20 false

theorem witness_SpoolWrites :
    let r : PrintRecord := { role := .own, chars := [0x41, 0x42] };
    let r3 : PrintRecord := { role := .own, chars := [0x41, 0x42, 0x43] };
    let e : Entry := { waitingEntry (.line someLine) with proof := .inProof, mode := .attached };
    (let s := spooling [r3] 1 [];
      Quiet s ∧ s.port.cycle = some .spool ∧ s.port.requests.spool = some (request .spool halfABase 0x4142)
        ∧ s.proof.records = r3 :: [] ∧ 0 < s.proof.written ∧ s.proof.written + 1 < r3.words
        ∧ s.proof.half s.proof.writePoint.half = .filling)
      ∧ (let s := spooling [r, r3] 1 [];
        Quiet s ∧ s.port.cycle = some .spool ∧ s.proof.records = r :: r3 :: [] ∧ r.role = .own
          ∧ s.proof.written + 1 = r.words ∧ s.proof.writePoint.offset + r.words < 4096)
      ∧ let s := spooling [r] 1 [e];
        Quiet s ∧ s.port.cycle = some .spool ∧ s.proof.records = [r] ∧ s.proof.written + 1 = r.words
          ∧ s.queue = [e] ∧ e.kind = .line someLine ∧ e.proof = .inProof ∧ e.photo ≠ .exposed := by decide

/-- A PAD, the header of a record in an EMPTY half, the last word of a record that ends the half, and the last word of a
JOBEND whose film work is done. -/
theorem witness_SpoolWrites_halves :
    let r : PrintRecord := { role := .own, chars := [0x41, 0x42, 0x43] };
    let e : Entry := { waitingEntry (.jobEnd someEnd) with proof := .inProof, photo := .exposed };
    (∀ x ∈ [(0, 4094), (0, 0), (2, 4093)],
      let s : State := { spooling [r, r] x.1 [] with
        proof.halfA := .empty, proof.writePoint := { half := .a, offset := x.2 } };
      Quiet s ∧ s.port.cycle = some .spool ∧ s.port.requests.spool = some (request .spool halfABase 0x4142)
        ∧ s.proof.records = r :: [r] ∧ s.proof.half s.proof.writePoint.half ≠ .full ∧ s.proof.written = x.1
        ∧ (4096 - s.proof.writePoint.offset < 1 + (r.chars.length + 1) / 2 ∧ x.1 = 0
          ∨ x.1 + 1 < 1 + (r.chars.length + 1) / 2 ∧ 1 + (r.chars.length + 1) / 2 ≤ 4096 - s.proof.writePoint.offset
          ∨ x.1 + 1 = 1 + (r.chars.length + 1) / 2
            ∧ s.proof.writePoint.offset + (1 + (r.chars.length + 1) / 2) = 4096))
      ∧ let s := spooling [r] 2 [waitingEntry .cut, e];
        s.proof.records = r :: [] ∧ 0 < s.proof.written ∧ s.queue = [waitingEntry .cut] ++ e :: [] ∧ e.proof = .inProof
          ∧ (∀ x ∈ [waitingEntry .cut], x.proof ≠ .inProof)
          ∧ ∀ x ∈ [waitingEntry .cut] ++ [], x.photo ≠ .exposed ∨ x.proof ≠ .proofed := by decide

/-- A PAD makes its half FULL, the write point goes to an EMPTY other half or waits; the header of a record makes an EMPTY
half FILLING (R158, R159). -/
theorem test_halves :
    let r : PrintRecord := { role := .own, chars := [0x41, 0x42, 0x43] };
    (∀ x ∈ [(HalfState.empty, SpoolPoint.mk .b 0), (.filling, SpoolPoint.mk .a 4096)],
      let s : State := { spooling [r] 0 [] with proof.halfB := x.1, proof.writePoint := { half := .a, offset := 4094 } };
      let t := nextOf (exec .spoolWrite s);
      t.proof.halfA = .full ∧ t.proof.writePoint = x.2 ∧ t.proof.records = [r] ∧ t.proof.written = 0)
      ∧ let t := nextOf (exec .spoolWrite { spooling [r] 0 [] with proof.halfA := .empty });
        t.proof.halfA = .filling ∧ t.proof.writePoint = ⟨.a, 0⟩ ∧ t.proof.written = 1 := by decide

theorem witness_PostingPass_words :
    (∀ c ∈ State.reset.status.capture.codes, c < 256) ∧ (∀ c ∈ [0x41, 0x7E], c < 256)
      ∧ ∀ f ∈ [(-2147483648 : Int), 2147483647], -2147483648 ≤ f ∧ f < 2147483648 := by decide

/-- Words of 11.3: a REFUSED position, film past 65,535 ticks, a report of a job that ran film back, and a spool point in
half B. -/
theorem test_posted_words :
    let s : State := { withPos State.reset 7 { posn 999 .refused with reason := some .withdrawn } with
      seq.film := { loaded := 144000, remaining := 143280, position := 720, cutTotal := 0 }
      status.reports := State.reset.status.reports.set 1
        { job := 702, outcome := some .overrun, linesSet := 9, linesExposed := 8, film := -240, sumComputed := 0,
          sumGiven := 0, flags := { JobFlags.none with clamped := true, overset := true } }
      proof.writePoint := { half := .b, offset := 73 } };
    [76, 77, 9, 10, 169, 172, 173, 224].map s.postedValue
      = [999, 0x0507, 2, 0x3280, 0x0412, 0xFFFF, 0xFF10, 0x8049] := by decide

theorem witness_PostingPass :
    (Quiet State.reset ∧ State.reset.status.pass = none ∧ State.reset.status.marks ≠ [])
      ∧ (let s : State := { inCycle State.reset .status (request .status 32 0) with
            status.pass := some { words := [(5, 6)] } };
        Quiet s ∧ s.port.cycle = some .status ∧ s.port.requests.status = some (request .status 32 0)
          ∧ s.status.pass = some { words := (5, 6) :: [] })
      ∧ let s : State := { inCycle State.reset .status (request .status 1 9) with status.pass := some { words := [] } };
        Quiet s ∧ s.port.cycle = some .status ∧ s.status.pass = some { words := [] } := by decide

theorem witness_BankFaultIsLogged :
    (∀ x ∈ [(Requester.intake, CycleKind.refetch), (.drain, .drain)],
      let s := inCycle State.reset x.1 (request x.2 8192 0);
      Quiet s ∧ s.port.cycle = some x.1 ∧ s.port.requests.get x.1 = some (request x.2 8192 0))
      ∧ (let s := searching 0 61;
        s.port.cycle = some .library ∧ s.port.requests.library = some (request .search (slotOffset 0 0) 0)
          ∧ s.font.fetch = some (.search 0) ∧ s.font.fetchList ≠ [] ∧ s.font.fetchList.Nodup
          ∧ { s with font.fetchList := [5, 0, 7] }.font.fetchList.Nodup)
      ∧ (let before := [{ waitingEntry .cut with photo := .exposed, proof := .waiting }];
        let e : Entry := { waitingEntry .cut with proof := .inProof, mode := .detached, photo := .exposed };
        let s := spooling [{ role := .own, chars := [0x41] }] 1 (before ++ e :: []);
        Quiet s ∧ MemoryInv s ∧ s.port.cycle = some .spool ∧ s.port.requests.spool.isSome = true
          ∧ s.queue = before ++ e :: [] ∧ (∀ x ∈ before, x.proof ≠ .inProof) ∧ e.proof = .inProof ∧ e.mode = .detached)
      ∧ (let e : Entry := { waitingEntry .cut with proof := .inProof, mode := .attached };
        let s := spooling [{ role := .own, chars := [0x41] }] 1 [e];
        MemoryInv s ∧ s.port.cycle = some .spool ∧ s.inProof = some e ∧ e.mode = .attached)
      ∧ let s : State := { inCycle State.reset .status (request .status 5 0) with
            status.pass := some { words := [(6, 6)] } };
        Quiet s ∧ MemoryInv s ∧ s.port.cycle = some .status ∧ s.port.requests.status = some (request .status 5 0)
          ∧ s.status.pass = some { words := (6, 6) :: [] } := by decide

/-- A fault on a LIBRARY cycle refuses every fetch on the list (R71); one on a SPOOL cycle of a DETACHED entry counts it as
a gap, up to 65,535, and lets it leave when it is EXPOSED (R161). -/
theorem test_faults_on_lists :
    (let t := nextOf (exec .bankFault { searching 0 61 with font.fetchList := [5, 0, 7] });
    t.font.fetchList = [] ∧ t.font.fetch = none
      ∧ ∀ p ∈ [(5 : Fin 8), 0, 7], t.font.table[p].state = .refused ∧ t.font.table[p].reason = some .memoryError)
      ∧ ∀ x ∈ [(0, 1), (65535, 65535)],
        let e : Entry := { waitingEntry .cut with proof := .inProof, mode := .detached, photo := .exposed };
        let s := spooling [{ role := .own, chars := [0x41] }] 1 [e];
        let t := nextOf (exec .bankFault { s with proof.gap := x.1 });
        t.proof.gap = x.2 ∧ t.queue = [] ∧ t.port.disabled.spool = true := by decide +kernel

/-! ### Copy -/

theorem witness_FillerIsConsumed : WordNext (copyAt .setting true [0]) 0 := by decide

/-- The galley sum is rotated left one place and the word added (R90). -/
theorem test_galley_sum_rotates :
    let s : State := { copyAt .setting true [0] with intake.job.sum := 0x8001 };
    (nextOf (exec .filler s)).intake.job.sum = 0x0003 := by decide

theorem witness_CopyOutsideAJob :
    (∀ x ∈ [ComposerState.outsideJob, .discarding],
      WordNext (copyAt x false [0x1E]) 0x1E ∧ WordNext (copyAt x false [0x1F]) 0x1F
        ∧ WordNext (copyAt x false [0x20]) 0x20 ∧ WordNext (copyAt x false [0x21]) 0x21
        ∧ WordNext (copyAt x false [0x7E]) 0x7E
        ∧ (∀ c ∈ [Cmd.endjob, .measure, .lead, .font],
          CommandNext (lastOperand (copyAt x false []) c 0x8000 [] 5) c 5)
        ∧ CommandNext (copyAt x false [0x860A]) .size 0x860A ∧ CommandNext (copyAt x false [0x8700]) .quad 0x8700
        ∧ CommandNext (copyAt x false [0x8801]) .fixspace 0x8801)
      ∧ (∀ c ∈ [Cmd.hyph, .exceptWord, .unexcept, .lenses, .mount, .advance, .reverse, .display, .mark],
        CommandNext (lastOperand (copyAt .discarding false []) c 0x8001 [] 5) c 5)
      ∧ CommandNext (copyAt .discarding false [0x8E00]) .release 0x8E00
      ∧ CommandNext (copyAt .discarding false [0x9100]) .cut 0x9100
      ∧ CommandNext (copyAt .discarding false [0x9200]) .proofMode 0x9200 := by decide

/-- Of a run of text words outside a job the first raises a copy error (R86). -/
theorem test_text_outside_a_job :
    let s := nextOf (exec .character (copyAt .outsideJob false [0x41, 0x42]));
    s.intake.errKind = some .outsideJob ∧ s.intake.errOffset = 8192
      ∧ (nextOf (exec .character s)).intake.errOffset = 8192 := by decide

theorem witness_BadWordsRaiseCopyErrors :
    (∀ n ∈ [0x01, 0x1D, 0x7F, 0x7FFF],
      let w := BitVec.ofNat 16 n;
      WordNext (copyAt .setting true [w]) w ∧ WordNext (copyAt .discarding false [w]) w)
      ∧ (1 ≤ (0x01#16).toNat ∧ (0x1D#16).toNat ≤ 0x1D) ∧ (0x7F ≤ (0x7F#16).toNat ∧ (0x7FFF#16).toNat ≤ 0x7FFF)
      ∧ (∀ n ∈ [0x8000, 0x80FF, 0x9500, 0xFFFF],
        let w := BitVec.ofNat 16 n;
        WordNext (copyAt .setting true [w]) w ∧ 0x8000 ≤ w.toNat
          ∧ (w.toNat / 256 = 0x80 ∨ 0x80 + 21 ≤ w.toNat / 256)) := by decide

theorem witness_CommandWordsAndOperands :
    (∀ x ∈ [(1, 0), (20, 255), (19, 0), (19, 1), (12, 0), (10, 255), (17, 0)],
      let w := BitVec.ofNat 16 (0x8000 + 256 * x.1 + x.2);
      WordNext (copyAt .setting true [w]) w ∧ x.2 < 256 ∧ w.toNat = 0x8000 + 256 * x.1 + x.2)
      ∧ let d : Command :=
          { cmd := .exceptWord, word := 0x8A02, offset := 8190, operands := [0x6162], remaining := 1,
            dropped := false };
        let s : State := { copyAt .setting true [0x0001] with intake.decoder := some d };
        Quiet s ∧ s.composer.state.consumes = true ∧ s.intake.run.head? = some 0x0001 ∧ s.intake.decoder = some d
          ∧ d.cmd = .exceptWord ∧ d.operands.length = (d.word.toNat % 256 + 1) / 2
          ∧ d.remaining - 1 + ((0x0001#16).toNat % 32 + 1) / 2 ≠ 0 := by decide

/-- Font 61 is MOUNTED at position 5, every character of it 32 units wide, and it is the current font. -/
def setting (l : List Word) : State :=
  { withPos (copyAt .setting true l) 5 (posn 61 .mounted) with
    font.widths := (copyAt .setting true l).font.widths.set 5
      (some { min := 10, normal := 15, max := 20, limit := 2, widths := 0 :: List.replicate 95 32 })
    composer.current := some { font := 61, pos := 5 } }

/-- The governing font of `setting`. -/
def someGov : GovFont := { font := 61, pos := 5, min := 10, normal := 15, max := 20, limit := 2 }

/-- A letter of `setting` as an item. -/
def someLetter : Item :=
  .char 0x41 { pos := 5, lens := 4, size := 20, fontSub := false, sizeSub := false } 3200

/-- A line of measure `m` with one letter, its fixed width `c`. -/
def lineOf (m c : Nat) : Line :=
  { Line.empty with
    items := [someLetter], sums := { Sums.zero with c := c, k := 1 }, gov := some someGov, govSize := 20
    measure := m, lead := 240 }

/-- The letter A overflows the line of a word of `n` letters. -/
def overflowing (n : Nat) : State :=
  { setting [0x41] with
    composer.line := lineOf 199 3200, composer.word := { letters := n, points := [], ineligible := false } }

theorem witness_CharacterJoinsTheLine :
    (∀ n ∈ [0x21, 0x7E],
      let w := BitVec.ofNat 16 n;
      let s : State := { setting [w] with composer.measure := 100 };
      WordNext s w ∧ ReadyToSet s ∧ s.composer.held = none ∧ 0x21 ≤ w.toNat ∧ w.toNat ≤ 0x7E
        ∧ s.font.widths[(5 : Fin 8)] =
          some { min := 10, normal := 15, max := 20, limit := 2, widths := 0 :: List.replicate 95 32 }
        ∧ s.lineForItem.gov = some someGov ∧ s.lineForItem.sums.minWidth + 32 * 20 * 5 = s.lineForItem.measure * 32
        ∧ s.lineForItem.sums.k < 160)
      ∧ let s : State := { setting [0x41] with
          font.widths := (setting []).font.widths.set 5
            (some { min := 10, normal := 15, max := 20, limit := 2, widths := List.replicate 96 0 })
          composer.line := { lineOf 3600 3200 with sums := { Sums.zero with c := 3200, k := 159 } } };
        WordNext s 0x41 ∧ ReadyToSet s ∧ s.lineForItem.gov = some someGov
          ∧ s.lineForItem.sums.minWidth + 15 * 20 * 5 ≤ s.lineForItem.measure * 32 ∧ s.lineForItem.sums.k < 160 := by
  decide

/-- The letter A is next in `setting`, with font 61 no longer current, or current at position 2, which does not hold it. -/
def moved (c : Option CurrentFont) : State := { setting [0x41] with composer.current := c }

/-- Where the letter is set from: the current font's position, the default font's, the position at which the font is
selected again, and the default font's after a substitution (R55, R56). -/
theorem witness_CharacterJoinsTheLine_font :
    (moved (some { font := 61, pos := 5 })).SetsCharacterFrom 5 false (moved (some { font := 61, pos := 5 }))
      ∧ (moved none).SetsCharacterFrom 5 true (moved none)
      ∧ (moved (some { font := 61, pos := 2 })).SetsCharacterFrom 5 false (moved (some { font := 61, pos := 5 }))
      ∧ (withPos (moved (some { font := 60, pos := 2 })) 4 (posn 60 .refused)).SetsCharacterFrom 5 true
        { withPos (moved none) 4 (posn 60 .refused) with composer.fontSub := true } := by
  refine ⟨.inr ⟨_, rfl, .inl ⟨?_, rfl, rfl, rfl⟩⟩, .inl ⟨rfl, ?_, rfl, rfl⟩, .inr ⟨_, rfl, .inr (.inl ⟨?_, ?_, ?_, rfl, rfl⟩)⟩,
    .inr ⟨_, rfl, .inr (.inr ⟨?_, ?_, ?_, rfl, rfl⟩)⟩⟩ <;> decide

/-- R55: a character waits for its font at an entry that holds it, at a position called, and for a position. -/
theorem witness_CharacterJoinsTheLine_waits :
    let s := moved (some { font := 60, pos := 2 });
    WordNext s 0x41 ∧ s.composer.todo = [] ∧ s.composer.held = none ∧ s.composer.state = .setting
      ∧ ¬ s.StillHolds { font := 60, pos := 2 } ∧ (withPos s 4 (posn 60 .loading)).FontHeldAt 60 4 := by decide

theorem witness_CharacterJoinsTheLine_waits_at_a_place :
    (moved (some { font := 60, pos := 2 })).FontPlace 60 4
      ∧ (withAll (moved none) { posn 62 .mounted with inUse := 1 }).FontNoPlace 60
      ∧ (withAll (moved none) { posn 62 .mounted with inUse := 1 }).QueueCanFree := by decide

theorem witness_CharacterJoinsTheLine_in_lookahead :
    let s : State := { overflowing 3 with composer.state := .lookahead };
    WordNext s 0x41 ∧ isLetter (0x41#16).toNat = true ∧ s.composer.line.sums.k < 160 := by decide

/-- R94: no font is available to a character or to a tie, in SETTING and to a letter in LOOKAHEAD, before and after the
first copy error on the line. -/
theorem witness_CharacterJoinsTheLine_no_font :
    ∀ noFont ∈ [false, true],
      (∀ x ∈ [(ComposerState.setting, 0x21), (.setting, 0x7E), (.setting, 0x1F), (.lookahead, 0x41)],
        let w := BitVec.ofNat 16 x.2;
        let s : State := { copyAt x.1 true [w] with composer.noFont := noFont };
        WordNext s w ∧ s.composer.todo = [] ∧ s.composer.held = none
          ∧ (∀ q : Fin 8, s.font.table[q].ready = false) ∧ s.composer.current = none ∧ s.composer.line.gov = none
          ∧ s.composer.line.sums.k < 160)
        ∧ (withPos (copyAt .setting true [0x41]) 5 (posn 61 .refused)).FontSubstituted 61 := by decide

/-- R55: the letter is set from the default font, or waits with its ring offset; R94: it is discarded. -/
theorem test_character_in_another_font :
    (let t := nextOf (exec .character (moved none));
    t.composer.line.items.map Item.pos? = [some 5] ∧ t.intake.job.flags.fontSub = true)
      ∧ ((nextOf (exec .character (moved (some { font := 60, pos := 2 })))).composer.fontWait.bind (·.char) =
        some (0x41, 8192))
      ∧ (let t := nextOf (exec .character (copyAt .setting true [0x41]));
        t.composer.noFont = true ∧ t.intake.errKind = some .noFont ∧ t.composer.line.items = []) := by decide +kernel

/-- R1's example: 37 units through the 18 half-point lens are 3,330 fine. -/
theorem test_width_of_37_units_at_18 : fine 37 18 = 3330 := by decide

theorem witness_LookaheadAndBreakChoice :
    (∀ n ∈ [23, 25],
      let s := overflowing n;
      WordNext s 0x41 ∧ s.composer.todo = [] ∧ isLetter (0x41#16).toNat = true ∧ s.composer.line.items ≠ []
        ∧ s.composer.line.gov ≠ none ∧ s.composer.state = .setting
        ∧ s.composer.line.measure * 32 < s.composer.line.sums.minWidth + 32 * s.composer.lensSize * 5
        ∧ s.composer.line.sums.k < 160 ∧ s.composer.word.letters ≠ 24)
      ∧ (let s : State := { overflowing 3 with
          composer.state := .lookahead, composer.line.sums := { Sums.zero with c := 3200, k := 159 } };
        WordNext s 0x41 ∧ s.composer.state = .lookahead ∧ s.composer.line.sums.k < 160)
      ∧ WordNext (copyAt .setting true [0x1E]) 0x1E ∧ WordNext (copyAt .lookahead true [0x1E]) 0x1E := by decide

/-- An interword space of `setting`. -/
def someSpace : Item := .space 20 1000 1500 2000

/-- The line of the items `l` and measure `m` in `setting`, in state `x`, with the points `p` recorded for its word. -/
def breaking (x : ComposerState) (w : List Word) (m : Nat) (l : List Item) (p : List Nat) : State :=
  { setting w with
    composer.state := x
    composer.line := { Line.empty with
      items := l, sums := sumsOf l, gov := some someGov, govSize := 20, measure := m, lead := 240 }
    composer.word := { letters := letterRun l, points := p, ineligible := false } }

/-- A hyphen of `setting`. -/
def someHyphen : Item := .char 0x2D { pos := 5, lens := 4, size := 20, fontSub := false, sizeSub := false } 3200

/-- What choices 1 to 3 settle: a line of the items `l`, with `rest` carried. -/
def divided (m : Nat) (l rest : List Item) (hyphenated loose : Bool) : Break :=
  let line : Line :=
    { Line.empty with items := l, sums := sumsOf l, gov := some someGov, govSize := 20, measure := m, lead := 240 };
  { entry := lineEntry 7 1 line .justify false hyphenated loose, carried := rest
    glyph := if hyphenated then some someHyphen else none, inWord := hyphenated, overset := false }

/-- Choice 1: the line that ends before the last space fits exactly. -/
theorem witness_break_choice_1 (again : Bool) :
    (breaking .lookahead [0x20] 200 [someLetter, someLetter, someSpace, someLetter, someLetter] []).BreakChoice again
      (divided 200 [someLetter, someLetter] [someLetter, someLetter] false false) := by
  refine ⟨[someLetter, someLetter, someSpace], [someLetter, someLetter], by unfold EndWord; decide, ?_⟩
  refine .inl ⟨[someLetter, someLetter], someSpace, [someLetter, someLetter], ⟨[], [], ?_⟩, ?_, ?_⟩
  · cases again <;> decide
  · unfold ExtraFits; decide
  · decide

/-- Choice 2: the hyphen is the last glyph that fits, at the discretionary point. -/
theorem witness_break_choice_2 :
    (breaking .lookahead [0x20] 300 (List.replicate 5 someLetter) [2]).BreakChoice false
      (divided 300 [someLetter, someLetter, someHyphen] (List.replicate 3 someLetter) true false) := by
  refine ⟨[], List.replicate 5 someLetter, by unfold EndWord; decide, .inr (.inl ⟨?_, 2, someHyphen, ?_, ?_, ?_⟩)⟩
  · rintro head x rest ⟨tail, last, h, -⟩
    simp at h
  · refine ⟨by decide, by decide, by decide, by decide, by decide, by decide, ?_, by decide, by decide⟩
    exact ⟨someLetter, { pos := 5, lens := 4, size := 20, fontSub := false, sizeSub := false }, by decide⟩
  · rintro q h ⟨-, -, -, -, -, hq, -⟩
    revert hq
    have : (breaking .lookahead [0x20] 300 (List.replicate 5 someLetter) [2]).hyph.points
        ((List.replicate 5 someLetter).map Item.letter)
        (breaking .lookahead [0x20] 300 (List.replicate 5 someLetter) [2]).composer.word.points = [2] := by decide
    rw [this]
    simp +contextual
  · decide

/-- Choice 3: the line that ends before the only space is too loose to fit, and its word has no point. -/
theorem witness_break_choice_3 :
    (breaking .lookahead [0x20] 331 [someLetter, someSpace, someLetter, someLetter] []).BreakChoice false
      (divided 331 [someLetter] [someLetter, someLetter] false true) := by
  refine ⟨[someLetter, someSpace], [someLetter, someLetter], by unfold EndWord; decide,
    .inr (.inr (.inl ⟨?_, ?_, [someLetter], someSpace, [someLetter, someLetter], ⟨[], [], by decide⟩, by decide⟩))⟩
  · rintro head x rest ⟨tail, last, h, -, -, -, -⟩
    match head, h with
    | [], h =>
      rw [List.nil_append, List.cons_append, List.cons.injEq] at h
      obtain ⟨rfl, -⟩ := h
      unfold ExtraFits endedAt
      decide
    | [_], h =>
      simp only [List.cons_append, List.nil_append, List.cons.injEq] at h
      obtain ⟨rfl, rfl, -⟩ := h
      unfold ExtraFits endedAt
      decide
    | _ :: _ :: _, h => simp at h
  · rintro p g ⟨-, -, -, -, -, hp, -⟩
    revert hp
    have : (breaking .lookahead [0x20] 331 [someLetter, someSpace, someLetter, someLetter] []).hyph.points
        ([someLetter, someLetter].map Item.letter)
        (breaking .lookahead [0x20] 331 [someLetter, someSpace, someLetter, someLetter] []).composer.word.points
        = [] := by decide
    rw [this]
    simp

/-- What choice 4 settles of three letters on a line of measure `m`, cut after `n`. -/
def oversetAfter (m n : Nat) : Break :=
  let l := List.replicate n someLetter;
  let line : Line :=
    { Line.empty with items := l, sums := sumsOf l, gov := some someGov, govSize := 20, measure := m, lead := 240 };
  { entry := if n = 0 then emptyLineEntry 7 1 .left 240 20 true else lineEntry 7 1 line .left true false false
    carried := List.replicate (3 - max 1 n) someLetter, glyph := none, inWord := true, overset := true }

/-- Choice 4: of three letters with no space and no point two fit, or none. -/
theorem witness_break_choice_4 (x : Nat × Nat) (hx : x ∈ [(200, 2), (99, 0)]) :
    (breaking .lookahead [0x20] x.1 (List.replicate 3 someLetter) []).BreakChoice false (oversetAfter x.1 x.2) := by
  refine ⟨[], List.replicate 3 someLetter, by revert x; unfold EndWord; decide, .inr (.inr (.inr ⟨?_, ?_, x.2, ?_⟩))⟩
  · rintro head x rest ⟨tail, last, h, -⟩
    simp at h
  · rintro p g ⟨-, -, -, -, -, hp, -⟩
    have : ∀ x ∈ [(200, 2), (99, 0)], (breaking .lookahead [0x20] x.1 (List.replicate 3 someLetter) []).hyph.points
        ((List.replicate 3 someLetter).map Item.letter)
        (breaking .lookahead [0x20] x.1 (List.replicate 3 someLetter) []).composer.word.points = [] := by decide
    rw [this x hx] at hp
    simp at hp
  · have : ∀ x ∈ [(200, 2), (99, 0)], ∀ m ∈ List.range 4, x.2 < m →
        x.1 * 32 < (sumsOf ((List.replicate 3 someLetter).take m)).natural := by decide
    refine ⟨by revert x; decide, by revert x; decide, fun m hm hl => ?_, by revert x; decide⟩
    exact this x hx m (List.mem_range.2 (Nat.lt_succ_of_le hl)) hm

/-- The break choice makes of these lines what it settles, and takes the candidate before the last item when carried
items are tested again (R34). -/
theorem test_break_choices :
    (∀ x ∈ [(breaking .lookahead [0x20] 200 [someLetter, someLetter, someSpace, someLetter, someLetter] [],
          divided 200 [someLetter, someLetter] [someLetter, someLetter] false false),
        (breaking .lookahead [0x20] 300 (List.replicate 5 someLetter) [2],
          divided 300 [someLetter, someLetter, someHyphen] (List.replicate 3 someLetter) true false),
        (breaking .lookahead [0x20] 331 [someLetter, someSpace, someLetter, someLetter] [],
          divided 331 [someLetter] [someLetter, someLetter] false true),
        (breaking .lookahead [0x20] 200 (List.replicate 3 someLetter) [], oversetAfter 200 2),
        (breaking .setting [0x20] 99 (List.replicate 3 someLetter) [], oversetAfter 99 0)],
      x.1.doTask (.breakLine false) = x.1.broken x.2)
      ∧ (let s := breaking .setting [] 200 [someLetter, someLetter, someSpace, someSpace] [];
        s.doTask (.breakLine true) = s.broken (divided 200 [someLetter, someLetter] [someSpace] false false)) := by
  decide +kernel

/-- A hyphen glyph made while substitutions stand carries their marks after a letter set before them, and brings them to
the report and to the line (R56, R73, R20). -/
theorem test_hyphen_glyph_carries_the_marks :
    let s : State := { breaking .lookahead [] 300 (List.replicate 5 someLetter) [2] with
      composer.fontSub := true, composer.sizeSub := true };
    let t := s.doTask (.breakLine false);
    t.intake.job.flags.fontSub = true ∧ t.intake.job.flags.sizeSub = true
      ∧ t.composer.todo.head?.map (fun x => match x with
          | .offer (.line l) => (l.flags.fontSub, l.flags.sizeSub, l.items.map (fun y => y.item.hasMark (·.fontSub)))
          | _ => (false, false, [])) = some (true, true, [false, false, true]) := by decide +kernel

/-- Carried items that are all spaces, and that begin with one; a line they overflow; and the capture held. -/
theorem witness_carried_items :
    [someSpace].dropWhile Item.isSpace = [] ∧ [someSpace, someLetter].dropWhile Item.isSpace ≠ []
      ∧ [someSpace, someLetter].findSome? Item.pos? = some 5 ∧ (setting []).govOf 5 = some someGov
      ∧ (∀ i ∈ [Item.fixed 5 20 500], i.pos? = none) ∧ [Item.fixed 5 20 500].dropWhile Item.isSpace ≠ []
      ∧ (setting []).settingGov ≠ none ∧ State.reset.settingGov = none
      ∧ (breaking .setting [] 99 [someLetter] []).composer.line.measure * 32
        < (breaking .setting [] 99 [someLetter] []).composer.line.sums.minWidth := by decide

/-- The hypotheses of a break made and completed, but for the break itself, which `witness_break_choice_4` and
`witness_break_choice_1` give: at a word's 25th letter, and at a space in LOOKAHEAD. -/
theorem witness_break_completed :
    (∀ x ∈ [ComposerState.setting, .lookahead],
      let s : State := { overflowing 24 with composer.state := x, queue := List.replicate 5 (waitingEntry .cut) };
      WordNext s 0x41 ∧ s.composer.todo = [] ∧ s.composer.line.items ≠ [] ∧ s.queue.length < 6
        ∧ s.composer.line.gov ≠ none ∧ s.composer.line.sums.k < 160 ∧ s.composer.word.letters = 24
        ∧ s.currentReady { font := 61, pos := 5 } = true
        ∧ s.composer.line.measure * 32 < s.composer.line.sums.minWidth + 32 * s.composer.lensSize * 5
        ∧ (let next := s.carriedLine [someLetter] s.composer.line.gov;
          next.sums.minWidth ≤ next.measure * 32))
      ∧ (∀ x ∈ [(200, [someLetter, someLetter, someSpace, someLetter, someLetter], [someLetter, someLetter]),
          (200, List.replicate 3 someLetter, [someLetter])],
        let s := breaking .lookahead [0x20] x.1 x.2.1 [];
        WordNext s 0x20 ∧ s.composer.todo = [] ∧ s.composer.line.items ≠ [] ∧ s.queue.length < 6
          ∧ (let next := s.carriedLine x.2.2 s.composer.line.gov;
            next.items ≠ [] ∧ next.sums.k < 160 ∧ next.gov = some someGov
              ∧ next.sums.minWidth + 10 * 20 * 5 ≤ next.measure * 32)) := by decide

/-- The break at the 25th letter, over a line of two letters of which one fits (choice 4). -/
theorem witness_break_at_the_25th_letter (x : ComposerState) :
    let s : State := { overflowing 24 with composer.state := x };
    State.BreakChoice
      { s with
        composer.line := { lineOf 199 3200 with items := [someLetter, someLetter], sums := sumsOf [someLetter, someLetter] }
        composer.word := { letters := 25, points := [], ineligible := true } } false
      { oversetAfter 199 1 with carried := [someLetter] } := by
  have word : EndWord [someLetter, someLetter] [] [someLetter, someLetter] := by unfold EndWord; decide
  refine ⟨[], [someLetter, someLetter], word, .inr (.inr (.inr ⟨?_, ?_, 1, ?_⟩))⟩
  · rintro head x rest ⟨tail, last, h, -⟩
    simp at h
  · rintro p g ⟨-, -, -, -, hp, -⟩
    exact Bool.noConfusion hp
  · have : ∀ m ∈ List.range 3, 1 < m → 199 * 32 < (sumsOf ([someLetter, someLetter].take m)).natural := by decide
    refine ⟨Nat.le_succ 1, ?_, fun m hm hl => this m (List.mem_range.2 (Nat.lt_succ_of_le hl)) hm, rfl⟩
    exact (by decide : (sumsOf ([someLetter, someLetter].take 1)).natural ≤ 199 * 32)

/-- At a space in LOOKAHEAD the break is made and the space joins the carried letters; an OVERSET line is captured, and
another one counted up to 255 (R33, R35). -/
theorem test_space_in_lookahead :
    (let s := breaking .lookahead [0x20] 200 [someLetter, someLetter, someSpace, someLetter, someLetter] [];
    let t := nextOf (exec .interwordSpace s);
    t.composer.line.items = [someLetter, someLetter, someSpace] ∧ t.composer.state = .setting
      ∧ t.queue.length = 1 ∧ t.status.capture.held = false)
      ∧ (∀ x ∈ [(false, 1, 1), (true, 254, 255), (true, 255, 255)],
        let s := breaking .lookahead [0x20] 200 (List.replicate 3 someLetter) [];
        let s : State := { s with status.capture.held := x.1, status.capture.count := x.2.1 };
        let t := nextOf (exec .interwordSpace s);
        t.composer.line.items = [someLetter, someSpace] ∧ t.status.capture.count = x.2.2
          ∧ t.status.capture.held = true ∧ t.flagSet .overset = true) := by decide +kernel

/-- A digit wider than the measure meets an empty line. -/
theorem witness_wider_than_the_measure :
    let s : State := { setting [0x31] with composer.measure := 99, queue := List.replicate 5 (waitingEntry .cut) };
    WordNext s 0x31 ∧ ReadyToSet s ∧ 0x21 ≤ (0x31#16).toNat ∧ (0x31#16).toNat ≤ 0x7E
      ∧ isLetter (0x31#16).toNat = false ∧ s.currentReady { font := 61, pos := 5 } = true ∧ s.composer.line.items = []
      ∧ s.composer.measure * 32 < 32 * s.composer.lensSize * 5 ∧ s.queue.length < 6 := by decide

/-- The 25th letter of a word ends lookahead at once; a later letter that overflows the line enters it (R25). -/
theorem test_lookahead_at_the_25th_letter :
    (nextOf (exec .character (overflowing 24))).composer.state = .setting
      ∧ (nextOf (exec .character (overflowing 25))).composer.state = .lookahead := by decide +kernel

/-- R27: a line that reaches its item limit in the middle of a word bars that word from hyphenation, and one that
reaches it after a space bars no word. -/
theorem test_item_limit_bars_the_word_it_cuts :
    let word : WordRun := { letters := 1, points := [], ineligible := false };
    let s : State := { setting [] with composer.line := lineOf 3600 3200, composer.word := word };
    s.capWord.composer.word.ineligible = true
      ∧ (let s : State := { s with composer.line.items := [someLetter, .space 20 1000 1500 2000] };
        s.capWord.composer.word.ineligible = false) := by decide

theorem witness_SpacesJoinTheLine :
    (let s : State := { setting [0x20] with composer.line := lineOf 100 2200 };
    WordNext s 0x20 ∧ ReadyToSet s ∧ s.composer.line.items ≠ [] ∧ s.composer.line.gov = some someGov
      ∧ s.composer.line.sums.k < 160 ∧ s.composer.lensSize = 20
      ∧ s.composer.line.sums.minWidth + 10 * 20 * 5 = s.composer.line.measure * 32)
      ∧ (let s : State := { setting [0x1F] with composer.line := lineOf 100 1700 };
      WordNext s 0x1F ∧ ReadyToSet s
        ∧ s.composer.line.sums.minWidth + 15 * 20 * 5 = s.composer.line.measure * 32)
      ∧ (let s : State := { setting [0x8801] with composer.line := lineOf 100 3100 };
      CommandNext s .fixspace 0x8801 ∧ ReadyToSet s ∧ (s.completedBy 0x8801).inline = 1
        ∧ s.composer.line.sums.minWidth + 1 * 20 * 5 = s.composer.line.measure * 32)
      ∧ (let s : State := { setting [0x887F] with composer.line := lineOf 3600 3200 };
      CommandNext s .fixspace 0x887F ∧ ReadyToSet s ∧ (s.completedBy 0x887F).inline = 127
        ∧ s.composer.line.sums.minWidth + 127 * 20 * 5 ≤ s.composer.line.measure * 32)
      ∧ WordNext (setting [0x20]) 0x20 ∧ ReadyToSet (setting [0x20]) ∧ (setting [0x20]).composer.line.items = []
      ∧ (∀ x ∈ [(124, 1), (3600, 160)],
        let line := (breaking .setting [] x.1 [someLetter, someSpace] []).composer.line;
        let s : State := { setting [0x20] with
          composer.line := { line with sums := { line.sums with k := x.2 } }, queue := List.replicate 5 (waitingEntry .cut) };
        WordNext s 0x20 ∧ ReadyToSet s ∧ s.queue.length < 6 ∧ s.composer.line.gov = some someGov
          ∧ stripSpaces s.composer.line.items ≠ []
          ∧ (s.composer.line.measure * 32 < s.composer.line.sums.minWidth + 10 * s.composer.lensSize * 5
            ∨ 160 ≤ s.composer.line.sums.k)) := by
  decide

/-- An interword space made through a substituted lens sets SIZE SUBSTITUTED in the report (R56, R194). -/
theorem test_space_through_a_substituted_lens :
    (nextOf (exec .interwordSpace { breaking .setting [0x20] 3600 [someLetter] [] with
      composer.sizeSub := true })).intake.job.flags.sizeSub = true := by decide +kernel

/-- A JOB of the number of the job before it, with no line set, marks neither word (10.2). -/
theorem test_job_of_the_same_number_marks_no_word :
    let s : State := { copyAt .setting true [] with status.marks := [] };
    (s.beginJob 7).status.marks = [] ∧ (s.beginJob 8).status.marks = [6]
      ∧ (State.beginJob { s with intake.job.linesSet := 3 } 7).status.marks = [7] := by decide

theorem witness_JobsBeginAndEnd :
    (∀ x ∈ [(ComposerState.outsideJob, false), (.setting, true), (.lookahead, true), (.discarding, false)],
      let s := lastOperand (copyAt x.1 x.2 []) .job 0x8100 [] 0;
      CommandNext s .job 0 ∧ (s.completedBy 0).dropped = false ∧ (s.completedBy 0).operand = 0)
      ∧ (let s : State := { copyAt .discarding false [9] with
          intake.decoder := some { cmd := .job, word := 0x8100, offset := 8190, operands := [], remaining := 1,
                                   dropped := true } };
      CommandNext s .job 9 ∧ (s.completedBy 9).dropped = true)
      ∧ (∀ x ∈ [ComposerState.outsideJob, .discarding],
        let s := lastOperand (copyAt x false []) .job 0x8100 [] 1;
        CommandNext s .job 1 ∧ (s.completedBy 1).dropped = false ∧ (s.completedBy 1).operand = 1
          ∧ s.composer.todo = [] ∧ s.composer.state = x) := by decide

/-- JOB and ENDJOB in SETTING and in LOOKAHEAD, with the greatest queue that takes the line and the JOBEND, and with those
that hold the first or the second of them. The break of the word in LOOKAHEAD is `witness_break_choice_4`'s. -/
theorem witness_JobsBeginAndEnd_inside :
    ∀ q ∈ [4, 5, 6],
      (∀ x ∈ [(ComposerState.setting, [], 0), (.setting, [someLetter, someSpace], 1),
          (.lookahead, List.replicate 3 someLetter, 2)],
        let s : State := { breaking x.1 [] 200 x.2.1 [] with queue := List.replicate q (waitingEntry .cut) };
        let a := lastOperand s .job 0x8100 [] 0xFFFF;
        let b := lastOperand s .endjob 0x8200 [] 0x1234;
        CommandNext a .job 0xFFFF ∧ (a.completedBy 0xFFFF).dropped = false ∧ (a.completedBy 0xFFFF).operand = 0xFFFF
          ∧ CommandNext b .endjob 0x1234 ∧ (b.completedBy 0x1234).operand = 0x1234 ∧ s.composer.todo = []
          ∧ s.composer.state = x.1 ∧ s.queue.length = q
          ∧ (let next := s.carriedLine [someLetter] s.composer.line.gov;
            next.sums.minWidth ≤ next.measure * 32 ∧ stripSpaces next.items ≠ [])) := by decide

/-- ENDJOB in LOOKAHEAD queues the line broken, the line of the carried letters and the JOBEND, and waits with what finds
the queue full (R26, R89, R105). -/
theorem test_endjob_in_lookahead :
    (∀ x ∈ [(3, 6, ComposerState.outsideJob), (4, 6, .queueWait), (6, 6, .queueWait)],
      let s : State := { breaking .lookahead [] 200 (List.replicate 3 someLetter) [] with
        queue := List.replicate x.1 (waitingEntry .cut) };
      let t := nextOf (exec .endjob (lastOperand s .endjob 0x8200 [] 0));
      t.queue.length = x.2.1 ∧ t.composer.state = x.2.2 ∧ t.intake.job.inProgress = (x.1 != 3)) := by decide +kernel

theorem witness_MeasureLeadAndSize :
    (∀ v ∈ [0, 1, 10080, 10081], let s := lastOperand (copyAt .setting true []) .measure 0x8300 [] (BitVec.ofNat 16 v);
      CommandNext s .measure (BitVec.ofNat 16 v) ∧ v = (s.completedBy (BitVec.ofNat 16 v)).operand.toNat)
      ∧ (∀ v ∈ [0, 2880, 2881], let s := lastOperand (copyAt .lookahead true []) .lead 0x8400 [] (BitVec.ofNat 16 v);
        CommandNext s .lead (BitVec.ofNat 16 v) ∧ v = (s.completedBy (BitVec.ofNat 16 v)).operand.toNat)
      ∧ ∀ v ∈ [0, 1, 255],
        let w := BitVec.ofNat 16 (0x8600 + v);
        CommandNext (copyAt .setting true [w]) .size w ∧ v = ((copyAt .setting true [w]).completedBy w).inline := by decide

/-- R73: 17 half-points asked of the power-on list are set through the 16 half-point lens, substituted; 11 through the
12 half-point lens. -/
theorem test_size_substitution :
    chooseLens powerOnLenses 17 = (2, true) ∧ chooseLens powerOnLenses 18 = (3, false)
      ∧ chooseLens powerOnLenses 11 = (0, true) := by decide

theorem witness_QuadEndsTheLine :
    (∀ x ∈ [(0x8700, 5), (0x8703, 6)],
      let w := BitVec.ofNat 16 x.1;
      let s : State := { copyAt .setting true [w] with queue := List.replicate x.2 (waitingEntry .cut) };
      CommandNext s .quad w ∧ ReadyToSet s ∧ (quadAlign (s.completedBy w).inline).isSome = true
        ∧ s.queue.length = x.2)
      ∧ (quadAlign 0).isSome = true ∧ (quadAlign 3).isSome = true
      ∧ CommandNext (copyAt .setting true [0x8704]) .quad 0x8704
      ∧ 3 < ((copyAt .setting true [0x8704]).completedBy 0x8704).inline := by decide

theorem witness_FontResolves :
    (∀ x ∈ [ComposerState.setting, .lookahead], ∀ n ∈ [0, 1, 999, 1000],
      let s := lastOperand (copyAt x true []) .font 0x8500 [] (BitVec.ofNat 16 n);
      CommandNext s .font (BitVec.ofNat 16 n) ∧ s.composer.state = x
        ∧ n = (s.completedBy (BitVec.ofNat 16 n)).operand.toNat ∧ s.composer.held = none ∧ s.composer.todo = [])
      ∧ (∀ x ∈ [PosState.mounted, .fixed, .refused, .requested, .loading],
        let s := withPos (lastOperand (copyAt .setting true []) .font 0x8500 [] 61) 5 (posn 61 x);
        CommandNext s .font 61 ∧ s.FontHeldAt 61 5 ∧ s.font.table[(5 : Fin 8)].state = x) := by decide

/-- R52 for font 61, whose home is position 5: the home position VACANT or REFUSED; or taken, with the lowest such one chosen;
the oldest MOUNTED position not in use, the home position among equals. -/
theorem witness_FontResolves_places :
    let s := lastOperand (copyAt .setting true []) .font 0x8500 [] 61;
    let full := withAll s { posn 60 .mounted with age := 3 };
    ∀ x ∈ [(s, (5 : Fin 8)), (withPos s 5 (posn 60 .refused), 5), (withPos s 5 (posn 60 .mounted), 0), (full, 5),
        (withPos full 7 (posn 60 .refused), 7), (withPos full 5 { posn 60 .mounted with age := 2 }, 0),
        (withPos full 6 { posn 60 .mounted with age := 4 }, 6),
        (withPos full 5 { posn 60 .mounted with age := 9, inUse := 1 }, 0)],
      x.1.FontPlace 61 x.2 := by decide

/-- R53 for font 61: with every position in use by the queue, a wait; with all FIXED, or in use by the line, substitution. -/
theorem witness_FontResolves_no_place :
    let s := lastOperand (copyAt .setting true []) .font 0x8500 [] 61;
    let used := withAll s { posn 60 .mounted with inUse := 1 };
    let fixed := withAll s (posn 60 .fixed);
    let held : State := { withPos fixed 5 { posn 60 .mounted with inUse := 1 } with composer.line := lineOf 3600 3200 };
    (used.FontNoPlace 61 ∧ used.QueueCanFree) ∧ fixed.FontSubstituted 61 ∧ held.FontSubstituted 61 := by decide

/-- The position called is the one R52 chooses, with the font to remove named (R57). -/
theorem test_font_called :
    let s := withAll (lastOperand (copyAt .lookahead true []) .font 0x8500 [] 61) { posn 60 .mounted with age := 3 };
    let t := nextOf (exec .font (withPos s 6 { posn 62 .mounted with age := 4 }));
    t.font.table[(6 : Fin 8)].font = 61 ∧ .mountCall 6 61 (some 62) ∈ t.panel.unsent
      ∧ t.composer.fontWait = some { font := 61, target := .entry 6 none, char := none, inLookahead := true } := by
  decide +kernel

theorem witness_HyphenatorCommands :
    (∀ n ∈ [0x0000, 0x9779, 0x888A],
      let v := BitVec.ofNat 16 n;
      let s := lastOperand (copyAt .setting true []) .hyph 0x8900 [] v;
      CommandNext s .hyph v ∧ v = (s.completedBy v).operand ∧ s.composer.state ≠ .discarding)
      -- a word of two letters, its count right and wrong, and a character that is no letter
      ∧ (let s : State := { lastOperand (copyAt .outsideJob false []) .unexcept 0x8B02 [] 0x6162 with
            hyph.dictionary := [{ word := [0x61, 0x62], never := true, positions := [] }] };
      CommandNext s .unexcept 0x6162 ∧ s.composer.state ≠ .discarding ∧ (s.completedBy 0x6162).inline = 2
        ∧ (s.completedBy 0x6162).values = [0x61, 0x62])
      ∧ (let s := lastOperand (copyAt .outsideJob false []) .unexcept 0x8B01 [] 0x6100;
      CommandNext s .unexcept 0x6100 ∧ (s.completedBy 0x6100).inline < 2)
      ∧ (let s := lastOperand (copyAt .outsideJob false []) .unexcept 0x8B19 (List.replicate 12 0x6161) 0x6100;
      CommandNext s .unexcept 0x6100 ∧ 24 < (s.completedBy 0x6100).inline)
      ∧ (let s := lastOperand (copyAt .outsideJob false []) .exceptWord 0x8A02 [0x6130] 0x8000;
      CommandNext s .exceptWord 0x8000 ∧ 0x30 ∈ (s.completedBy 0x8000).values) := by decide

/-- EXCEPT of a word of three letters: its count word and its positions, accepted and refused. -/
theorem witness_HyphenatorCommands_positions :
    ∀ x ∈ [(0x8000, [], true), (0x0001, [0x0100], true), (0x0002, [0x0102], true), (0x8001, [0x0100], false),
        (0x0000, [], false), (0x0018, List.replicate 12 0x0102, false), (0x0001, [0x0000], false),
        (0x0001, [0x0300], false), (0x0002, [0x0202], false)],
      let ops : List Word := [0x6162, 0x4300, BitVec.ofNat 16 x.1] ++ x.2.1.map (BitVec.ofNat 16);
      let w := ops.getLastD 0;
      let s := lastOperand (copyAt .outsideJob false []) .exceptWord 0x8A03 ops.dropLast w;
      let d := s.completedBy w;
      let count := (d.operands.drop ((d.inline + 1) / 2)).headD 0;
      let n := count.toNat % 32;
      let positions := valuesOf (d.operands.drop ((d.inline + 1) / 2 + 1)) n;
      CommandNext s .exceptWord w ∧ d.inline = 3 ∧ d.values.map foldLetter = [0x61, 0x62, 0x63]
        ∧ count = BitVec.ofNat 16 x.1
        ∧ decide ((count.getLsbD 15 = true ∧ n ≠ 0) ∨ (count.getLsbD 15 = false ∧ (n = 0 ∨ 23 < n))
          ∨ (∃ i ∈ positions, i = 0 ∨ d.inline ≤ i) ∨ ¬ positions.Pairwise (· < ·)) = !x.2.2 := by decide

/-- The dictionaries EXCEPT meets: of 511 words and of 512 without the word, and one that holds it. -/
theorem witness_HyphenatorCommands_dictionary :
    let e : DictEntry := { word := [0x7A, 0x7A], never := true, positions := [] };
    let x : DictEntry := { word := [0x61, 0x62], never := true, positions := [] };
    (∀ y ∈ List.replicate 512 e, y.word ≠ [0x61, 0x62]) ∧ (List.replicate 511 e).length < 512
      ∧ ¬ (List.replicate 512 e).length < 512
      ∧ [e, x, e] = [e] ++ x :: [e] ∧ x.word = [0x61, 0x62] ∧ (∀ y ∈ [e] ++ [e], y.word ≠ [0x61, 0x62]) := by
  decide +kernel

/-- An EXCEPT of a word held replaces the entry in its place, the dictionary full or not (R45). -/
theorem test_except_replaces :
    let e (n : Nat) : DictEntry := { word := [0x7A, n], never := true, positions := [] };
    let s : State := { lastOperand (copyAt .outsideJob false []) .exceptWord 0x8A02 [0x5A62, 0x0001] 0x0100 with
      hyph.dictionary := [e 0x61, e 0x62, e 0x63] };
    (nextOf (exec .exceptWord s)).hyph.dictionary
      = [e 0x61, { word := [0x7A, 0x62], never := false, positions := [1] }, e 0x63] := by decide +kernel

theorem witness_LensesMountAndRelease :
    (let s : State := { lastOperand (copyAt .outsideJob false []) .lenses 0x8C00 [0x0A0A, 0x0A0A, 0x0A0A] 0x0A90 with
        queue := [waitingEntry .cut] };
    CommandNext s .lenses 0x0A90 ∧ s.composer.state ≠ .discarding ∧ s.queue ≠ [])
      ∧ (∀ x ∈ [(0x0A90, true), (0x0991, false)],
        let w := BitVec.ofNat 16 x.1;
        let s := lastOperand (copyAt .outsideJob false []) .lenses 0x8C00 [0x0A0A, 0x0A0A, 0x0A0A] w;
        CommandNext s .lenses w ∧ s.queue = [] ∧ s.composer.line.items = []
          ∧ (valuesOf (s.completedBy w).operands 8).all (fun h => 10 ≤ h && h ≤ 144) = x.2) :=
  by decide

/-- MOUNT of the operand `v` at position `p` is next. -/
def mounting (p v : Nat) : State :=
  lastOperand (copyAt .outsideJob false []) .mount (BitVec.ofNat 16 (0x8D00 + p)) [] (BitVec.ofNat 16 v)

theorem witness_LensesMountAndRelease_positions :
    -- out of range
    (∀ x ∈ [(8, 1), (7, 0), (7, 1000)],
      let v := BitVec.ofNat 16 x.2;
      let s := mounting x.1 x.2;
      CommandNext s .mount v ∧ s.composer.state ≠ .discarding ∧ v = (s.completedBy v).operand
        ∧ (8 ≤ (s.completedBy v).inline ∨ v.toNat % 1024 = 0 ∨ 999 < v.toNat % 1024))
      -- in use, and a font another position holds
      ∧ (∀ x ∈ [(PosState.mounted, 1, PosState.vacant), (.vacant, 0, .requested), (.vacant, 0, .fixed)],
        let s := withPos (withPos (mounting 7 61) 7 { posn 62 x.1 with inUse := x.2.1 }) 0 (posn 61 x.2.2);
        CommandNext s .mount 61 ∧ (7 : Fin 8).val = (s.completedBy 61).inline
          ∧ (0 < s.font.table[(7 : Fin 8)].inUse ∨ s.font.table[(0 : Fin 8)].claims 61 = true)) := by decide

/-- MOUNT at an entry in each state, of the font it holds and of another. -/
theorem witness_LensesMountAndRelease_mounts :
    ∀ n ∈ [0x0001, 0xC3E7], ∀ x ∈ [PosState.vacant, .requested, .loading, .mounted, .fixed, .refused],
      let v := BitVec.ofNat 16 n;
        ∀ f ∈ [v.toNat % 1024, 7],
          let s := withPos (mounting 7 n) 7 (posn f x);
          CommandNext s .mount v ∧ s.composer.state ≠ .discarding ∧ (7 : Fin 8).val = (s.completedBy v).inline
            ∧ v = (s.completedBy v).operand ∧ 1 ≤ v.toNat % 1024 ∧ v.toNat % 1024 ≤ 999
            ∧ s.font.table[(7 : Fin 8)].state = x ∧ s.font.table[(7 : Fin 8)].font = f
            ∧ s.font.table[(7 : Fin 8)].inUse = 0 ∧ s.port.disabled.library = false
            ∧ ∀ q : Fin 8, q ≠ 7 → s.font.table[q].claims (v.toNat % 1024) = false := by decide

theorem witness_LensesMountAndRelease_releases :
    (let s := copyAt .outsideJob false [0x8E08];
      CommandNext s .release 0x8E08 ∧ s.composer.state ≠ .discarding ∧ 8 ≤ (s.completedBy 0x8E08).inline)
      ∧ (let s := withPos (copyAt .outsideJob false [0x8E07]) 7 { posn 61 .mounted with inUse := 1 };
      CommandNext s .release 0x8E07 ∧ s.composer.state ≠ .discarding ∧ (7 : Fin 8).val = (s.completedBy 0x8E07).inline
        ∧ 0 < s.font.table[(7 : Fin 8)].inUse)
      ∧ ∀ x ∈ [PosState.vacant, .requested, .loading, .mounted, .fixed, .refused],
        let s : State := { withPos (copyAt .outsideJob false [0x8E07]) 7 (posn 61 x) with
          panel.calls := if x = .requested then [7] else [] };
        CommandNext s .release 0x8E07 ∧ s.font.table[(7 : Fin 8)].inUse = 0 ∧ s.font.table[(7 : Fin 8)].state = x
          ∧ s.port.disabled.library = false
          ∧ decide ((7 : Fin 8) ∈ s.panel.calls) = decide (x = .requested) := by decide

/-- A MOUNT of a font REFUSED for want of a record, at its own position, calls for it again and names it for removal; at
another position it clears the entry (R48, R57, R63). -/
theorem test_mount_after_no_record :
    ∀ x ∈ [(7, some 61, PosState.requested), (0, none, .vacant)],
      let s := withPos (mounting x.1 0x803D) 7 { posn 61 .refused with reason := some .noRecord };
      let t := nextOf (exec .mount s);
      (.mountCall (if x.1 = 7 then 7 else 0) 61 x.2.1) ∈ t.panel.unsent
        ∧ t.font.table[(7 : Fin 8)].state = x.2.2 := by decide +kernel

theorem witness_FilmCommandsQueueEntries :
    (∀ v ∈ [0, 1, 14400, 14401],
      (let s : State := { lastOperand (copyAt .outsideJob false []) .advance 0x8F00 [] (BitVec.ofNat 16 v) with
          queue := List.replicate 5 (waitingEntry .cut) };
      CommandNext s .advance (BitVec.ofNat 16 v) ∧ v = (s.completedBy (BitVec.ofNat 16 v)).operand.toNat
        ∧ s.composer.state = .outsideJob ∧ s.composer.todo = [] ∧ s.composer.line.items = [] ∧ s.queue.length < 6)
      ∧ let s := lastOperand (copyAt .setting true []) .reverse 0x9000 [] (BitVec.ofNat 16 v);
        CommandNext s .reverse (BitVec.ofNat 16 v) ∧ v = (s.completedBy (BitVec.ofNat 16 v)).operand.toNat
          ∧ s.composer.state = .setting)
      ∧ CommandNext (copyAt .setting true [0x9100]) .cut 0x9100
      ∧ (copyAt .setting true [0x9100]).composer.line.items = [] := by decide

theorem witness_ProofDisplayAndMark :
    (∀ n ∈ [0, 2, 3], CommandNext (copyAt .outsideJob false [BitVec.ofNat 16 (0x9200 + n)]) .proofMode
        (BitVec.ofNat 16 (0x9200 + n)))
      ∧ (copyAt .outsideJob false []).composer.state ≠ .discarding
      ∧ (let s := lastOperand (copyAt .outsideJob false []) .display 0x9321 (List.replicate 16 0x4142) 0x4300;
      CommandNext s .display 0x4300 ∧ 32 < (s.completedBy 0x4300).inline)
      ∧ (let s := lastOperand (copyAt .outsideJob false []) .display 0x9320 (List.replicate 15 0x4142) 0x4143;
      CommandNext s .display 0x4143 ∧ (s.completedBy 0x4143).inline ≤ 32)
      ∧ (let s : State := { lastOperand (copyAt .lookahead true []) .mark 0x9400 [] 7 with
            composer.pendingMarks := [1, 2, 3] };
      CommandNext s .mark 7 ∧ s.composer.state = .lookahead ∧ s.composer.pendingMarks.length < 4)
      ∧ let s := lastOperand (copyAt .outsideJob false []) .mark 0x9400 [] 7;
        CommandNext s .mark 7 ∧ (s.completedBy 7).operand = 7 ∧ s.composer.state = .outsideJob
          ∧ (∀ e, s.queue.getLast? = some e → e.photo = .exposed) := by
  refine ⟨by decide, by decide, by decide, by decide, by decide, by decide, by decide, by decide, ?_⟩
  rintro e ⟨⟩

/-- R106: a MARK outside a job at an entry with three and with four marks, and at one that is EXPOSED; a fifth pending MARK
in SETTING, with the queue free and full, and in LOOKAHEAD, whose break is `witness_break_choice_4`'s. -/
theorem witness_ProofDisplayAndMark_marks :
    (∀ x ∈ [([1, 2, 3], PhotoState.waiting), ([1, 2, 3, 4], .inExposure), ([], .exposed)],
      let e : Entry := { waitingEntry .cut with marks := x.1, photo := x.2 };
      let s : State := { lastOperand (copyAt .outsideJob false []) .mark 0x9400 [] 7 with queue := [waitingEntry .cut, e] };
      CommandNext s .mark 7 ∧ s.queue = [waitingEntry .cut] ++ [e]
        ∧ (e.photo ≠ .exposed ∧ (e.marks.length < 4 ∨ 4 ≤ e.marks.length) ∨ s.queue.getLast? = some e))
      ∧ (∀ x ∈ [(ComposerState.setting, 5), (.setting, 6), (.lookahead, 4)],
        let s : State := { breaking x.1 [] 200 (List.replicate 3 someLetter) [] with
          queue := List.replicate x.2 (waitingEntry .cut), composer.pendingMarks := [1, 2, 3, 4] };
        let s := lastOperand s .mark 0x9400 [] 7;
        CommandNext s .mark 7 ∧ 4 ≤ s.composer.pendingMarks.length ∧ s.composer.todo = []
          ∧ s.composer.line.items ≠ [] ∧ s.queue.length = x.2
          ∧ (let next := s.carriedLine [someLetter] s.composer.line.gov;
            next.sums.minWidth ≤ next.measure * 32)) := by decide

/-- The fifth MARK is the single pending mark of the line after the ones it ended (R106, log 17). -/
theorem test_fifth_mark :
    ∀ x ∈ [(ComposerState.setting, [], 1), (.lookahead, List.replicate 3 someLetter, 2)],
      let s : State := { breaking x.1 [] 200 x.2.1 [] with composer.pendingMarks := [1, 2, 3, 4] };
      let t := nextOf (exec .mark (lastOperand s .mark 0x9400 [] 7));
      t.composer.pendingMarks = [7] ∧ t.composer.line.items = [] ∧ t.queue.length = x.2.2
        ∧ t.queue.head?.map (·.marks) = some [1, 2, 3, 4] := by decide +kernel

/-- A machine HALTED, one with a call out, and one with neither; the line 1 of each (R144). -/
theorem test_line_1 :
    let halted : State := { State.reset with
      seq.state := .halted, seq.halt := some .lamp, seq.failed := some .flash, panel.calls := [5] };
    let calling : State := { withPos State.reset 5 (posn 61 .requested) with panel.calls := [5, 2] };
    halted.line1 false none = .halted (some .lamp) (some .flash) .nothing
      ∧ calling.seq.state ≠ .halted ∧ calling.panel.calls = 5 :: [2] ∧ calling.line1 false none = .call 5 61 none
      ∧ State.reset.seq.state ≠ .halted ∧ State.reset.panel.calls = []
      ∧ State.reset.line1 false (some (.moved 0)) = .status .copy .idle none 0 (some (.moved 0)) := by decide

/-! ### Waits -/

theorem witness_HeldWorkGoesOn :
    (let s : State := { copyAt .queueWait true [] with
        composer.held := some (.entry (.line someLine)), queue := List.replicate 5 (waitingEntry .cut) };
    Quiet s ∧ s.composer.held = some (.entry (.line someLine)) ∧ s.queue.length < 6 ∧ s.composer.todo = [])
      ∧ (let s : State := { copyAt .queueWait false [] with
            composer.held := some (.mark 9), queue := [{ waitingEntry .cut with photo := .exposed }] };
      Quiet s ∧ s.composer.held = some (.mark 9) ∧ s.composer.state = .queueWait ∧ s.intake.job.inProgress = false
        ∧ s.queue.getLast? = some { waitingEntry .cut with photo := .exposed })
      ∧ (let s : State := { copyAt .queueWait false [] with composer.held := some (.mark 9) };
        s.queue.getLast? = none)
      ∧ let s : State := { copyAt .queueWait false [] with composer.held := some (.entry .cut) };
        Quiet s ∧ s.composer.held = some (.entry .cut) ∧ s.queue.length < 6 ∧ s.composer.todo = [] := by decide

theorem witness_HeldWorkGoesOn_kinds :
    (∃ l, EntryKind.line someLine = .line l ∧ [someLine] = [l]) ∧ ∀ l, EntryKind.cut ≠ .line l :=
  ⟨⟨_, rfl, rfl⟩, nofun⟩

/-- The worked example of 3.9: the LINE queued holds items of positions 3 and 6, which go to age 0, and the others that
are MOUNTED or FIXED age by one (R50). -/
theorem test_ages_of_the_worked_example :
    let e (p : Fin 8) (x : PosState) (age : Nat) : Position := { posn (61 + p.val) x with age := age };
    let item (p : Fin 8) : SetItem :=
      { item := .char 0x41 { pos := p, lens := 4, size := 20, fontSub := false, sizeSub := false } 3200, pos := 0,
        width := 3200 };
    let s : State := { State.reset with
      font.table := #v[e 0 .mounted 2, e 1 .fixed 0, e 2 .mounted 0, e 3 .mounted 0, e 4 .mounted 5, e 5 .requested 0,
        e 6 .mounted 1, e 7 .mounted 0] };
    let t := s.agePositions { someLine with items := [item 6, item 3] };
    (t.font.table.map (·.age)).toList = [3, 1, 1, 0, 6, 0, 0, 1] := by decide +kernel

theorem witness_FontWaitEnds :
    (∀ selected ∈ [true, false],
      let w : FontWait := { font := 61, target := .entry 5 (some selected), char := none, inLookahead := false };
      let s : State := { setting [] with composer.state := .fontWait, composer.fontWait := some w };
      Quiet s ∧ s.composer.fontWait = some w ∧ w.char = none ∧ s.composer.todo = []
        ∧ w.target = .entry 5 (some selected))
      ∧ let w : FontWait := { font := 61, target := .position true, char := none, inLookahead := true };
        let s : State := { setting [] with composer.state := .fontWait, composer.fontWait := some w };
        Quiet s ∧ s.composer.fontWait = some w ∧ w.target = .position true ∧ s.font.table[(5 : Fin 8)].font = w.font
          ∧ s.font.table[(5 : Fin 8)].ready = true
          ∧ (∀ q : Fin 8, q ≠ 5 → s.font.table[q].font = w.font → s.font.table[q].state = .vacant) := by decide

theorem witness_CallTimerExpires :
    ∀ x ∈ [(0, false), (3, true), (4, true), (4, false)],
      let s := withPos State.reset 7 { posn 61 .requested with callStep := x.1, wait := x.2 };
      Quiet s ∧ s.font.table[(7 : Fin 8)].state = .requested ∧ s.font.table[(7 : Fin 8)].callStep = x.1
        ∧ s.font.table[(7 : Fin 8)].wait = x.2 := by decide

/-! ### The photounit -/

/-- The queue holds `k`, WAITING, and the film account is `f`. -/
def toStart (k : EntryKind) (remaining position : Int) : State :=
  { State.reset with
    queue := [waitingEntry k]
    seq.film := { loaded := remaining + position, remaining := remaining, position := position, cutTotal := 0 } }

/-- A LINE with one letter at 7 and lead `n`. -/
def letterLine (n : Nat) : LineEntry :=
  { someLine with lead := n, items := [{ item := someLetter, pos := 7, width := 3200 }] }

theorem witness_EntryStarts :
    (∀ x ∈ [(EntryKind.line someLine, (240 : Int), (1 : Int)), (.move 1, 1, 0), (.move (-5), 0, 1), (.cut, 0, 0),
        (.move 2, 1, 0), (.line someLine, 239, 0), (.line (letterLine 0), 0, 0), (.line { someLine with lead := 0 }, 0, 0),
        (.move (-5), 0, 0), (.jobEnd someEnd, 0, 0)],
      let s := toStart x.1 x.2.1 x.2.2;
      Quiet s ∧ s.seq.state = .idle ∧ s.panel.ownership = .copy ∧ s.queue = [waitingEntry x.1]
        ∧ (waitingEntry x.1).photo = .waiting ∧ s.seq.film.remaining = x.2.1 ∧ s.seq.film.position = x.2.2
        ∧ s.waitingReport = none)
      ∧ 0 < someLine.lead ∧ (someLine.lead : Int) ≤ 240 ∧ (239 : Int) < someLine.lead
      ∧ nextCharFrom 0 (letterLine 0).items = some 0
      ∧ (letterLine 0).items[0]? = some { item := someLetter, pos := 7, width := 3200 }
      ∧ nextCharFrom 0 someLine.items = none := by decide

/-- R113: a JOBEND is completed as it is started, and its report is written. -/
theorem test_jobend_starts :
    let t := nextOf (exec .entryStart (toStart (.jobEnd someEnd) 0 0));
    t.queue = [] ∧ t.flagSet .jobReport = true ∧ t.status.reports[(0 : Fin 8)].job = 640 := by decide +kernel

/-- A LINE with one letter, in exposure. -/
def oneLetter : Entry :=
  { waitingEntry (.line { someLine with items := [{ item := someLetter, pos := 7, width := 3200 }] }) with
    photo := .inExposure, proof := .waiting }

/-- That letter is being set: `o` is outstanding, and the values `p`, `i`, `t` are held. -/
def exposing (x : SeqState) (o : Order) (p i : Option (Fin 8)) (t : Option Int) : State :=
  { State.reset with
    queue := [oneLetter]
    seq.state := x, seq.order := some o, seq.item := some 0
    seq.shifted := p, seq.lens := i, seq.escapement := t }

/-- The entry `e` in exposure makes its film move or its cut. -/
def onFilm (e : Entry) (a : Action) (o : Order) : State :=
  { exposing .moving o none none none with
    queue := [e], seq.item := none, seq.action := some a
    seq.film := { loaded := 240, remaining := 240, position := 0, cutTotal := 0 } }

/-- An entry of kind `k` in exposure. -/
def exposedNow (k : EntryKind) : Entry := { waitingEntry k with photo := .inExposure }

theorem witness_MotionsAreConfirmed :
    (∀ x ∈ [(SeqState.shifting, Order.shift 5, none, none, none), (.shifting, .shift 5, none, some 4, none),
        (.shifting, .shift 5, none, some 4, some 7), (.lens, .lens 4, some 5, none, none),
        (.lens, .lens 4, some 5, none, some 7), (.stepping, .step 7, some 5, some 4, none)],
      let s := exposing x.1 x.2.1 x.2.2.1 x.2.2.2.1 x.2.2.2.2;
      Quiet s ∧ s.seq.manual = none ∧ s.seq.order = some x.2.1 ∧ s.seq.item = some 0 ∧ s.charAt 0 = some (5, 4, 7)
        ∧ s.seq.state = x.1 ∧ s.seq.shifted = x.2.2.1 ∧ s.seq.lens = x.2.2.2.1)
      ∧ (exposing .moving (.move 240 false) none none none).seq.manual = none
      ∧ (exposing .cutting .cut none none none).seq.order = some .cut
      -- the entry of a film move or a cut
      ∧ (let s := onFilm oneLetter .leadMove (.move 240 false);
      Quiet s ∧ s.seq.manual = none ∧ s.seq.order = some (.move 240 false) ∧ s.inExposure = some oneLetter
        ∧ s.seq.action = some .leadMove
        ∧ oneLetter.kind = .line { someLine with items := [] ++ { item := someLetter, pos := 7, width := 3200 } :: [] })
      ∧ (∀ x ∈ [(EntryKind.line someLine, Action.leadMove, Order.move 240 false), (.move 1, .filmMove, .move 1 false),
          (.move (-14400), .filmMove, .move (-1) true), (.cut, .cut, .cut)],
        let s := onFilm (exposedNow x.1) x.2.1 x.2.2;
        Quiet s ∧ s.seq.manual = none ∧ s.seq.order = some x.2.2 ∧ s.inExposure = some (exposedNow x.1)
          ∧ s.queue = [exposedNow x.1] ∧ s.waitingReport = none ∧ s.seq.action = some x.2.1)
      ∧ someLine.items = []
      ∧ ∀ x ∈ [ManualMotion.move 5, .cut],
        let m : Manual := { motion := x, expiry := 0, deadline := 10, leftHalted := false };
        let s : State := { State.reset with seq.manual := some m, panel.ownership := .panel };
        Quiet s ∧ s.seq.manual = some m ∧ s.panel.ownership = .panel := by decide

/-- A reverse MOVE shortened at the last cut: the film used falls by the distance moved, and CLAMPED is marked (R128,
R133). -/
theorem test_clamped_reverse_confirmed :
    let s := onFilm (exposedNow (.move (-720))) .filmMove (.move (-240) true);
    let s : State := { s with exposure := { Exposure.none with tag := (exposedNow .cut).tag, film := 100 } };
    let t := nextOf (exec .motionComplete s);
    t.exposure.film = -140 ∧ t.exposure.clamped = true ∧ t.queue = [] ∧ t.seq.state = .idle := by decide +kernel

/-- 6.9: a shift confirmed, the lens is changed next. -/
theorem test_shift_then_lens :
    let t := nextOf (exec .motionComplete (exposing .shifting (.shift 5) none none none));
    t.seq.shifted = some 5 ∧ t.seq.order = some (.lens 4) ∧ t.seq.state = .lens := by decide

theorem witness_DeadlinesRetryThenHalt :
    (∀ o ∈ [Order.shift 5, .lens 4, .step 7, .move 240 false, .cut], ∀ n ∈ [0, 1],
      let s : State := { exposing .moving o none none none with seq.expiry := n };
      Quiet s ∧ s.seq.order = some o ∧ s.seq.expiry = n)
      ∧ ∀ n ∈ [0, 1],
        let m : Manual := { motion := .cut, expiry := n, deadline := 5, leftHalted := true };
        let s : State := { State.reset with seq.manual := some m, panel.ownership := .panel };
        Quiet s ∧ s.seq.manual = some m ∧ m.expiry = n ∧ s.panel.ownership = .panel := by decide

theorem witness_FlashesAreSeenOrMissed :
    (let s := exposing .flashing .flash (some 5) (some 4) (some 7);
    Quiet s ∧ s.seq.order = some .flash ∧ s.seq.state = .flashing ∧ s.queue = [oneLetter]
      ∧ oneLetter.photo = .inExposure ∧ s.seq.item = some 0
      ∧ nextCharFrom (0 + 1) (oneLetter.kind.items.drop (0 + 1)) = none ∧ s.panel.ownership = .copy
      ∧ s.waitingReport = none ∧ oneLetter.proof ≠ .proofed ∧ s.seq.miss = 0)
      ∧ (let e : Entry := { oneLetter with kind := .line { someLine with
            items := [{ item := someLetter, pos := 7, width := 3200 }, { item := someLetter, pos := 9, width := 3200 }] } };
      let s : State := { exposing .flashing .flash (some 5) (some 4) (some 7) with queue := [e] };
      s.queue = [e] ∧ nextCharFrom (0 + 1) (e.kind.items.drop (0 + 1)) = some 1 ∧ s.charAt 1 = some (5, 4, 9)
        ∧ s.seq.shifted = some 5 ∧ s.seq.lens = some 4 ∧ s.seq.escapement ≠ some 9)
      ∧ ({ exposing .flashing .flash none none none with seq.miss := 1 } : State).seq.miss ≠ 0 := by decide

/-! ### The panel -/

/-- Ownership is the panel's. -/
def owned : State := { State.reset with panel.ownership := .panel }

theorem witness_OwnershipIsTakenAndReturned :
    (Quiet State.reset ∧ State.reset.panel.ownership = .copy ∧ State.reset.panel.ownership ≠ .panel
      ∧ (State.reset.panel.outbound.filter PanelMessage.isRefused).length < 8)
      ∧ (let s : State := { owned with queue := [{ waitingEntry .cut with photo := .exposed, proof := .waiting }] };
      Quiet s ∧ s.panel.ownership = .panel ∧ s.seq.state = .idle ∧ (∀ e ∈ s.queue, e.photo ≠ .waiting))
      ∧ let e : Entry := { waitingEntry .cut with photo := .inExposure };
        let s : State := { owned with queue := [e], seq.state := .halted, seq.failed := some .cut };
        Quiet s ∧ s.panel.ownership = .panel ∧ s.seq.state = .halted ∧ s.seq.failed = some .cut
          ∧ s.inExposure = some e ∧ e.kind = .cut := by decide

/-- With an entry in exposure the panel waits for its completion (R136). -/
theorem test_take_with_an_entry_in_exposure :
    (nextOf (exec .take (exposing .flashing .flash none none none))).panel.ownership = .taking := by decide

/-- One SHOW serves a halt from COPY, and one the RETURN of a HALTED Sequencer, as the tables of 7.8 show (log 51). -/
theorem test_one_show_for_a_halt_and_for_its_return :
    let free (s : State) : State := { s with panel.sending := none, panel.outbound := [] };
    let e : Entry := { waitingEntry .cut with photo := .inExposure };
    let h : State := free { State.reset with
      queue := [e], seq.state := .cutting, seq.action := some .cut, seq.order := some .cut, seq.expiry := 1 };
    let halted := nextOf (exec .motionDeadlineExpiry h);
    let back := nextOf (exec .returnMachine (free halted));
    halted.panel.ownership = .panel ∧ (halted.panel.unsent.filter PanelMessage.isDisplay).length = 1
      ∧ halted.panel.sending = some (.display (.halted (some .cutter) (some .cut) .cut) [])
      ∧ back.panel.unsent = [.display (.status .copy .cutting none 0 none) []] := by decide +kernel

/-- HALTED FILM LOW at the lead move of a LINE, or at a MOVE, one tick short. -/
def filmShort (k : EntryKind) (a : Action) : State :=
  { owned with
    queue := [{ waitingEntry k with photo := .inExposure }], seq.state := .halted, seq.halt := some .filmLow
    seq.failed := some a, panel.sending := none, panel.outbound := []
    seq.film := { loaded := 239, remaining := 239, position := 0, cutTotal := 0 } }

theorem witness_OwnershipIsTakenAndReturned_short :
    ∀ x ∈ [(EntryKind.move 240, Action.filmMove), (.line someLine, .leadMove)],
      let s := filmShort x.1 x.2;
      Quiet s ∧ s.panel.ownership = .panel ∧ s.seq.state = .halted ∧ s.seq.failed = some x.2
        ∧ s.inExposure = some { waitingEntry x.1 with photo := .inExposure } ∧ s.seq.film.remaining < 240
        ∧ (someLine.lead : Int) = 240 ∧ s.panel.sending = none ∧ s.panel.outbound = [] ∧ s.panel.calls = [] := by decide

/-- A RETURN whose resumption halts again at once changes the ownership twice, each change with its SHOW (R138, R139). -/
theorem test_return_with_the_film_still_short :
    ∀ x ∈ [(EntryKind.move 240, Action.filmMove, HeldSubject.move), (.line someLine, .leadMove, .line 640 1)],
      let t := nextOf (exec .returnMachine (filmShort x.1 x.2.1));
      t.panel.ownership = .panel ∧ t.panel.unsent =
        [.display (.status .copy .moving none 0 none) [],
          .display (.halted (some .filmLow) (some x.2.1) x.2.2) [], .alarm .once] := by decide +kernel

/-- A reverse MOVE with nothing left to run back is completed at its resumption, and no SHOW reads HALTED (R128, R144). -/
theorem test_resumption_that_completes :
    let s := filmShort (.move (-5)) .filmMove;
    let s : State := { s with
      exposure.tag := some { number := 640, serial := 1 }
      waitingReport := some { tag := { number := 640, serial := 1 }, outcome := .aborted, flags := JobFlags.none,
                              linesSet := 0 } };
    let t := nextOf (exec .returnMachine s);
    t.seq.state = .idle ∧ t.queue = []
      ∧ t.panel.unsent = [.display (.status .copy .moving (some 640) 0 none) [],
        .display (.status .copy .moving none 0 none) []] := by decide +kernel

theorem witness_OperatorReportsOnTheDisc :
    Quiet State.reset ∧ (State.reset.panel.outbound.filter PanelMessage.isRefused).length < 8
      ∧ (let s := withPos State.reset 7 (posn 999 .requested);
      Quiet s ∧ s.font.table[(7 : Fin 8)].state = .requested ∧ s.font.table[(7 : Fin 8)].font = 999
        ∧ s.font.fetchList = [] ∧ s.font.fetch = none ∧ s.port.disabled.library = false
        ∧ (∀ q : Fin 8, q ≠ 7 → s.font.table[q].font ≠ 999) ∧ s.font.table[(7 : Fin 8)].font ≠ 1)
      ∧ (withPos State.reset 0 (posn 61 .loading)).font.table[(0 : Fin 8)].state = .loading
      ∧ (let s := withPos State.reset 0 { posn 61 .mounted with inUse := 1 };
      s.font.table[(0 : Fin 8)].ready = true ∧ 0 < s.font.table[(0 : Fin 8)].inUse
        ∧ s.font.table[(0 : Fin 8)].state ≠ .requested)
      ∧ (let s := withPos State.reset 0 (posn 61 .fixed);
      s.font.table[(0 : Fin 8)].inUse = 0 ∧ s.font.table[(0 : Fin 8)].ready = true)
      ∧ State.reset.font.table[(7 : Fin 8)].inUse = 0 ∧ State.reset.font.table[(7 : Fin 8)].state = .vacant := by
  decide

/-- An unsolicited mount at a position in each state it may have, of a font REFUSED elsewhere, with a fetch in flight; with
LIBRARY disabled; of a font another position has; and positions to be emptied. -/
theorem witness_OperatorReportsOnTheDisc_mounts :
    (∀ x ∈ [PosState.vacant, .refused, .mounted, .fixed], ∀ n ∈ [1, 999],
      let s := withPos (withPos (withPos State.reset 3 (posn 7 .loading)) 2 (posn n .refused)) 0 (posn 61 x);
      let s : State := { s with font.fetchList := [3], font.fetch := some (.search 5) };
      Quiet s ∧ s.font.table[(0 : Fin 8)].state ≠ .requested ∧ s.font.table[(0 : Fin 8)].state ≠ .loading
        ∧ s.font.table[(0 : Fin 8)].inUse = 0 ∧ s.port.disabled.library = false
        ∧ (s.font.table[(2 : Fin 8)].state = .refused ∧ s.font.table[(2 : Fin 8)].font = n)
        ∧ ∀ q : Fin 8, q ≠ 0 → s.font.table[q].claims n = false)
      ∧ (let s : State := { withPos State.reset 7 (posn 999 .requested) with
            port.disabled := State.reset.port.disabled.set .library true };
      s.port.disabled.library = true ∧ s.font.fetchList.filter (· ≠ (7 : Fin 8)) = [] ∧ s.font.fetch = none)
      ∧ (∀ x ∈ [PosState.requested, .loading, .mounted, .fixed],
        let s := withPos State.reset 7 (posn 61 x);
        Quiet s ∧ s.font.table[(7 : Fin 8)].font = 61 ∧ s.font.table[(7 : Fin 8)].state = x
          ∧ s.font.table[(0 : Fin 8)].state = .vacant ∧ s.font.table[(0 : Fin 8)].inUse = 0
          ∧ s.port.disabled.library = false ∧ s.font.table[(7 : Fin 8)].inUse = 0) := by decide +kernel

/-- A font that another position has is refused DUPLICATE, and a mount nobody called for clears the font REFUSED elsewhere
(R48, R60). -/
theorem test_unsolicited_mounts :
    (let s : State := { withPos State.reset 7 (posn 61 .mounted) with panel.sending := none, panel.outbound := [] };
      (nextOf (exec (.mounted 0 61) s)).panel.sending = some (.refused .duplicate))
      ∧ let t := nextOf (exec (.mounted 0 61) (withPos State.reset 7 (posn 61 .refused)));
        t.font.table[(0 : Fin 8)].state = .loading ∧ t.font.table[(7 : Fin 8)] = Position.vacant := by decide +kernel

theorem witness_OperatorMovesTheFilm :
    Quiet State.reset ∧ (State.reset.panel.outbound.filter PanelMessage.isRefused).length < 8
      ∧ State.reset.panel.ownership ≠ .panel
      ∧ (Quiet owned ∧ owned.panel.ownership = .panel ∧ owned.seq.manual = none ∧ owned.seq.film.remaining < 1
        ∧ owned.seq.film.position = 0 ∧ owned.seq.state = .idle ∧ owned.panel.calls = [])
      ∧ (let s : State := { owned with
            seq.manual := some { motion := .cut, expiry := 0, deadline := 5, leftHalted := false } };
      Quiet s ∧ (s.panel.outbound.filter PanelMessage.isRefused).length < 8 ∧ s.panel.ownership = .panel
        ∧ s.seq.manual ≠ none ∧ 1 ≤ 1 ∧ 1200 ≤ 1200 ∧ (-14400 : Int) ≠ 0 ∧ (-14400 : Int).natAbs ≤ 14400)
      ∧ let s : State := { owned with
            seq.film := { loaded := 14401, remaining := 14400, position := 1, cutTotal := 0 } };
        Quiet s ∧ s.panel.ownership = .panel ∧ s.seq.manual = none ∧ 14400 ≤ s.seq.film.remaining
          ∧ 0 < s.seq.film.position := by decide

/-- The film's length in inches, 1,440 ticks each (R130). -/
theorem test_film_loaded :
    (nextOf (exec (.filmLoaded 1200) owned)).seq.film.loaded = 1728000
      ∧ (nextOf (exec (.filmLoaded 1201) owned)).seq.film.loaded = 0 := by decide

/-- Nothing is being sent to the panel. -/
def freeLink : State := { State.reset with panel.sending := none, panel.outbound := [] }

theorem witness_MessagesBothWays :
    Quiet State.reset ∧ (State.reset.panel.outbound.filter PanelMessage.isRefused).length < 8
      ∧ (([] : List Nat).length = 0 ∧ 32 < (List.replicate 33 0x41).length ∧ 0x1F < 0x20 ∧ 0x7F > 0x7E)
      ∧ (1 ≤ [0x20].length ∧ (List.replicate 32 0x7E).length ≤ 32
        ∧ (∀ c ∈ List.replicate 32 0x7E, 0x20 ≤ c ∧ c ≤ 0x7E) ∧ ∀ c ∈ [0x20], 0x20 ≤ c ∧ c ≤ 0x7E)
      ∧ State.reset.panel.inbox = none ∧ ({ State.reset with panel.inbox := some [0x41] } : State).panel.inbox ≠ none
      ∧ State.reset.intake.job.inProgress = false ∧ OutboundInv State.reset ∧ State.reset.panel.sending ≠ none
      ∧ OutboundInv freeLink ∧ freeLink.panel.sending = none := by decide

/-- Seven REFUSED wait, and eight, behind an ALARM. -/
theorem witness_MessagesBothWays_list :
    ∀ n ∈ [7, 8],
      let l := PanelMessage.alarm .sound :: .refused .busy :: List.replicate (n - 1) (.refused .noJob);
      let s : State := { State.reset with panel.outbound := l };
      s.panel.sending ≠ none ∧ (s.panel.outbound.filter PanelMessage.isRefused).length = n
        ∧ s.panel.outbound = [.alarm .sound] ++ .refused .busy :: List.replicate (n - 1) (.refused .noJob)
        ∧ (∀ m ∈ [PanelMessage.alarm .sound], m.isRefused = false) := by decide

/-- A message made on a free link begins at once; the next one waits, and it alone can be replaced (R142). -/
theorem test_message_on_a_free_link :
    let s := freeLink.toPanel (.alarm .once);
    s.panel.sending = some (.alarm .once) ∧ s.panel.outbound = []
      ∧ ((s.toPanel (.alarm .sound)).toPanel (.alarm .silence)).panel.outbound = [.alarm .silence]
      ∧ (nextOf (exec .panelMessageSent (s.toPanel (.alarm .sound)))).panel.sending = some (.alarm .sound) := by decide

/-! ### Proofs and justification -/

/-- An entry in DETACHED mode that waits for its proof. -/
def unproofed : Entry := { waitingEntry .cut with mode := .detached, proof := .waiting }

/-- The items of a text set through the 18 half-point lens in the font of position `p`. -/
def textItems (p : Fin 8) (text : List Char) : List Item :=
  let a : Attr := { pos := p, lens := 3, size := 18, fontSub := false, sizeSub := false };
  text.map (fun c =>
    if c = ' ' then .space 18 1080 1440 2520 else if c = '~' then .tie 18 1440 else .char c.toNat a 90)

/-- 8.8: the margin and the text of line 37 of job 905, behind the header of its job. -/
theorem test_proof_of_the_worked_example :
    let opening := textItems 6 ['T', 'h', 'e', ' ', 'c', 'i', 't', 'y', ' '];
    let name := textItems 7 ['M', 'A', 'Y', 'O', 'R', ' '];
    let closing := textItems 6 ['m', 'e', 't', ' ', 'a', 't', ' ', '7', '~', 'p', '.', 'm', '.', ' ', 'b', 'u', 'd', '-'];
    let s := withPos (withPos State.reset 6 (posn 22 .mounted)) 7 (posn 23 .mounted);
    let l : LineEntry := { someLine with
      job := 905, number := 37, align := .justify, govSize := 18, gov := some { someGov with font := 22, pos := 6 }
      items := (opening ++ name ++ closing).map (fun i => { item := i, pos := 0, width := 90 })
      flags := { someLine.flags with hyphenated := true, loose := true } };
    (s.formRecords (.line l)).map (·.chars) =
      [codesOf ['J', 'O', 'B', ' ', '9', '0', '5'],
        codesOf [' ', ' ', ' ', '3', '7', 'J', 'H', 'L', ' ', ' ', ' ', ' ', ' ',
          'T', 'h', 'e', ' ', 'c', 'i', 't', 'y', ' ', '[', 'F', ' ', '2', '3', ']', 'M', 'A', 'Y', 'O', 'R', ' ',
          '[', 'F', ' ', '2', '2', ']', 'm', 'e', 't', ' ', 'a', 't', ' ', '7', '~', 'p', '.', 'm', '.', ' ',
          'b', 'u', 'd', '-']] := by decide +kernel

theorem witness_ProofBeginsAndPrinterPort :
    (({ someEnd with outcome := .unterminated } : JobEndEntry).outcome = .unterminated
      ∧ someEnd.outcome = .complete ∧ someLine.number ≤ 65535) ∧
    (let s : State := { State.reset with queue := [waitingEntry .cut, unproofed, unproofed] };
    Quiet s ∧ s.queue = [waitingEntry .cut] ++ unproofed :: [unproofed] ∧ (waitingEntry .cut).proof = .proofed
      ∧ unproofed.proof = .waiting ∧ unproofed.proof ≠ .inProof ∧ s.port.disabled.spool = false)
      ∧ (let s : State := { State.reset with
            queue := [unproofed], proof.gap := 65534, port.disabled := State.reset.port.disabled.set .spool true };
      Quiet s ∧ unproofed.mode = .detached ∧ ¬ s.port.disabled.spool = false
        ∧ (∀ x ∈ s.queue, x.photo ≠ .exposed))
      -- the nine words of the record of a CUT in the last nine, and in the last eight, with the other half taken and free
      ∧ (∀ x ∈ [(4087, HalfState.full, true), (4088, .full, false), (4088, .empty, true)],
        let s : State := { State.reset with
          queue := [unproofed], proof.writePoint := { half := .a, offset := x.1 }, proof.halfA := .filling
          proof.halfB := x.2.1 };
        let words := ((s.formRecords unproofed.kind).map (fun r => 1 + (r.chars.length + 1) / 2)).sum;
        Quiet s ∧ words = 9 ∧ (decide (x.1 + words ≤ 4096 ∨ s.proof.half .b = .empty)) = x.2.2)
      ∧ (∀ n ∈ [0, 2],
        let s : State := { State.reset with
          proof.port := .awaiting, proof.buffer := some [0x41], proof.portIndex := n };
        Quiet s ∧ s.proof.port = .awaiting ∧ s.proof.buffer = some [0x41] ∧ s.proof.stalled = false
          ∧ (s.proof.portIndex + 1 < [0x41].length + 2 ∨ s.proof.portIndex + 1 = [0x41].length + 2)
          ∧ s.proof.port ≠ .idle)
      ∧ ({ State.reset with proof.stalled := true } : State).proof.stalled = true := by decide

/-- Two letters and a space, to be set on a line too narrow for the space's normal width. -/
def tightLine : Line :=
  let items : List Item := [someLetter, .space 20 1000 1500 2000, someLetter];
  { Line.empty with
    items := items, sums := sumsOf items, gov := some someGov, govSize := 20, measure := 240, lead := 240 }

theorem witness_SpacesShareTheExtraExactly :
    tightLine.sums = sumsOf tightLine.items ∧ 0 < tightLine.sums.n
      ∧ (setLine tightLine .left false).align = .justify := by decide

/-- 1.12: the normal line's word starts and spaces, as ticks; the head's right edge and its LOOSE; and the first position
and the right edge of the byline, CENTRE and RIGHT. -/
theorem test_worked_lines :
    let word (w : Nat) : Item := .char 0x41 { pos := 5, lens := 4, size := 18, fontSub := false, sizeSub := false } w;
    let lineWith (m limit size : Nat) (items : List Item) : Line :=
      { Line.empty with
        items := items, sums := sumsOf items, gov := some { someGov with limit := limit }, govSize := size, measure := m };
    let sp : Item := .space 18 1080 1440 2520;
    let normal := lineWith 2640 2 18 [word 9450, sp, word 19080, sp, word 13320, sp, word 18090, sp, word 18450];
    let head := setLine (lineWith 2640 3 48 ((List.replicate 6 (word 10600)) ++ [word 10800])) .justify false;
    let byline := lineWith 2640 0 16 [word 20000, .space 16 960 1280 2240, word 25600];
    (setLine normal .justify false).items.map (·.pos) = [0, 295, 343, 939, 987, 1403, 1451, 2016, 2063]
      ∧ (setLine normal .justify false).edge = 84480 ∧ head.edge = 78720 ∧ head.loose = true
      ∧ [Align.left, .centre, .right].map (fun a => ((setLine byline a false).items.map (·.pos)).head?)
        = [some 0, some 588, some 1175]
      ∧ [Align.left, .centre, .right].map (fun a => (setLine byline a false).edge) = [46880, 65680, 84480] := by decide

/-- R14's examples. -/
theorem test_space_shares :
    (List.range 5).map (spaceShare (-483) 5) = [-96, -96, -97, -97, -97]
      ∧ (List.range 4).map (spaceShare 330 4) = [83, 83, 82, 82] := by decide

theorem witness_HyphenPointsKeepTheMinimums :
    (∃ p ∈ [1], 1 ≤ p ∧ p < [0x61, 0x62].length)
      ∧ (∀ p ∈ [0, 2], p = 0 ∨ [0x61, 0x62].length ≤ p)
      ∧ (let e : DictEntry := { word := [0x61, 0x62], never := false, positions := [1] };
      [e] = [] ++ e :: [] ∧ e.word = [0x61, 0x62])
      ∧ (∀ x ∈ State.reset.hyph.dictionary, x.word ≠ [0x61, 0x62])
      ∧ let l : Line := { lineOf 500 0 with items := List.replicate 5 someLetter };
        let s : State := { setting [] with composer.word := { letters := 5, points := [2], ineligible := false } };
        (s.hyphenBreak l 5).isSome = true := by decide

end Sys2Proof.Tests
end

section
/-! PROOFS. The interword spaces of a JUSTIFY line (R14): what the running sums and the walk say of a line's spaces, and
the floor division's shares. -/

namespace Sys2Proof.Machine

/-! ### The running sums over a line's interword spaces (R8) -/

/-- The width an item adds to Nrm: an interword space its normal width, every other item nothing (R8). -/
def Item.normalWidth : Item → Nat
  | .space _ _ nrm _ => nrm
  | _ => 0

theorem Sums.add_n (s : Sums) (last : Option Item) (i : Item) :
    (s.add last i).n = if i.isSpace then s.n + 1 else s.n := by
  cases i <;> rfl

theorem Sums.add_nrm (s : Sums) (last : Option Item) (i : Item) :
    (s.add last i).nrm = if i.isSpace then s.nrm + i.normalWidth else s.nrm := by
  cases i <;> rfl

theorem sumsFrom_n (l : List Item) (s : Sums) (last : Option Item) :
    (sumsFrom s last l).n = s.n + (l.filter Item.isSpace).length := by
  induction l generalizing s last with
  | nil => rfl
  | cons i l ih =>
    rw [sumsFrom, ih, Sums.add_n]
    cases hi : i.isSpace
    · simp [hi]
    · simp [hi]; omega

theorem sumsFrom_nrm (l : List Item) (s : Sums) (last : Option Item) :
    (sumsFrom s last l).nrm = s.nrm + ((l.filter Item.isSpace).map Item.normalWidth).sum := by
  induction l generalizing s last with
  | nil => rfl
  | cons i l ih =>
    rw [sumsFrom, ih, Sums.add_nrm]
    cases hi : i.isSpace
    · simp [hi]
    · simp [hi]; omega

/-- n counts the interword spaces (R8). -/
theorem sumsOf_n (l : List Item) : (sumsOf l).n = (l.filter Item.isSpace).length :=
  (sumsFrom_n l Sums.zero none).trans (Nat.zero_add _)

/-- Nrm is the sum of the interword spaces' normal widths (R8). -/
theorem sumsOf_nrm (l : List Item) : (sumsOf l).nrm = ((l.filter Item.isSpace).map Item.normalWidth).sum :=
  (sumsFrom_nrm l Sums.zero none).trans (Nat.zero_add _)

/-! ### The walk over a line's interword spaces (R18) -/

theorem setWidth_of_isSpace {i : Item} (hi : i.isSpace = true) (share : Nat → Int) (n : Nat) :
    setWidth share n i = i.normalWidth + share n := by
  cases i with
  | space => rfl
  | _ => contradiction

/-- One item of the walk; where it leaves the fine position does not matter to the widths. -/
theorem walk_cons (share : Nat → Int) (ls f : Int) (n : Nat) (i : Item) (l : List Item) :
    ∃ f', (walk share ls f n (i :: l)).1 = { item := i, pos := tickOf f, width := setWidth share n i }
      :: (walk share ls f' (if i.isSpace then n + 1 else n) l).1 :=
  ⟨_, rfl⟩

/-- Each interword space of a finished line with the width it was set at, from the left. -/
def spacesSet (items : List SetItem) : List (Item × Int) :=
  (items.filter (fun x => x.item.isSpace)).map (fun x => (x.item, x.width))

/-- The walk sets the `j`-th of its interword spaces at its normal width and the `j`-th share after the `n` spaces
before the walk. -/
theorem spacesSet_walk (share : Nat → Int) (ls f : Int) (n : Nat) (l : List Item) :
    spacesSet (walk share ls f n l).1
      = (l.filter Item.isSpace).mapIdx (fun j i => (i, (i.normalWidth : Int) + share (n + j))) := by
  induction l generalizing f n with
  | nil => rfl
  | cons i l ih =>
    obtain ⟨f', hw⟩ := walk_cons share ls f n i l
    rw [hw]
    cases hi : i.isSpace
    · simpa [spacesSet, hi] using ih f' n
    · have ht := ih f' (n + 1)
      simp only [Nat.add_assoc, Nat.add_comm 1] at ht
      simpa [spacesSet, hi, List.mapIdx_cons, setWidth_of_isSpace hi] using ht

/-- extra′ of a line: what letterspacing leaves of the extra width for the interword spaces (R13). -/
def Line.extraLeft (l : Line) : Int :=
  extraOf l.measure l.sums - letterspace l.sums l.limitFine (extraOf l.measure l.sums) * l.sums.g

/-- A JUSTIFY line with interword spaces shares extra′ among them (R13, R14). -/
theorem setLine_items_of_justify {l : Line} {a : Align} {overset : Bool} (hn : 0 < l.sums.n)
    (hj : (setLine l a overset).align = .justify) :
    ∃ ls, (setLine l a overset).items = (walk (spaceShare l.extraLeft l.sums.n) ls 0 0 l.items).1 := by
  have hal : alignSet a overset (extraOf l.measure l.sums) = .justify := hj
  exact ⟨letterspace l.sums l.limitFine (extraOf l.measure l.sums),
    by simp [setLine, hal, hn, startOffset, Line.extraLeft]⟩

/-- The interword spaces of a JUSTIFY line, from the left: each at its normal width and its share of extra′. -/
theorem spacesSet_of_justify {l : Line} {a : Align} {overset : Bool} (hn : 0 < l.sums.n)
    (hj : (setLine l a overset).align = .justify) :
    spacesSet (setLine l a overset).items = (l.items.filter Item.isSpace).mapIdx
      (fun j i => (i, (i.normalWidth : Int) + spaceShare l.extraLeft l.sums.n j)) := by
  obtain ⟨ls, hs⟩ := setLine_items_of_justify hn hj
  rw [hs, spacesSet_walk]
  simp only [Nat.zero_add]

/-! ### The shares of the floor division (R14) -/

/-- The remainder left by the floor quotient is the Euclidean one, whatever the sign of `extra`. -/
theorem sub_floor_mul_eq_emod (extra : Int) (n : Nat) : extra - extra / n * n = extra % n := by
  rw [Int.emod_def, Int.mul_comm]

/-- The first `k` shares take the quotient each, and one more for each of them among the first r. -/
theorem sum_spaceShare (extra : Int) (n k : Nat) (hk : k ≤ n) (hn : 0 < n) :
    ((List.range k).map (spaceShare extra n)).sum = k * (extra / n) + min (k : Int) (extra % n) := by
  have hr : 0 ≤ extra % n := Int.emod_nonneg _ (by omega)
  induction k with
  | zero => simp [hr]
  | succ k ih =>
    rw [List.range_succ, List.map_append, List.sum_append, ih (by omega)]
    simp only [List.map_cons, List.map_nil, List.sum_singleton, spaceShare, sub_floor_mul_eq_emod, Nat.cast_succ,
      Int.add_mul, Int.one_mul]
    split <;> omega

/-- All `n` shares together are exactly the width shared out (R14). -/
theorem sum_spaceShare_all (extra : Int) (n : Nat) (hn : 0 < n) :
    ((List.range n).map (spaceShare extra n)).sum = extra := by
  have hr : extra % n < n := Int.emod_lt_of_pos _ (by omega)
  rw [sum_spaceShare extra n n le_rfl hn, min_eq_right hr.le, Int.mul_ediv_add_emod]

/-- A sum of two parts, one by the entry and one by its place, is the sum of the entries' parts and of the places'. -/
theorem sum_mapIdx_add {α : Type} (f : α → Int) (g : Nat → Int) (l : List α) :
    (l.mapIdx (fun j i => f i + g j)).sum = (l.map f).sum + ((List.range l.length).map g).sum := by
  induction l using List.reverseRecOn with
  | nil => rfl
  | append_singleton l i ih =>
    simp only [List.mapIdx_concat, List.length_append, List.length_singleton, List.range_succ, List.map_append,
      List.map_cons, List.map_nil, List.sum_append, List.sum_singleton, ih]
    omega

/-! ### The statement -/

/-- Settles O58: the list of the spaces as they were set gives the count, each width and the total. -/
theorem spacesShareTheExtraExactly : Obligations.SpacesShareTheExtraExactly := by
  intro l a overset hs hn hj extra q r spaces
  have hset : spaces.map (fun x => (x.item, x.width)) = (l.items.filter Item.isSpace).mapIdx
      (fun j i => (i, (i.normalWidth : Int) + spaceShare extra l.sums.n j)) := spacesSet_of_justify hn hj
  have hcount : (l.items.filter Item.isSpace).length = l.sums.n := by rw [hs, sumsOf_n]
  have hr : r = extra % l.sums.n := sub_floor_mul_eq_emod extra l.sums.n
  refine ⟨?_, ?_, ?_, ?_, ?_⟩
  · exact hr ▸ Int.emod_nonneg _ (by omega)
  · exact hr ▸ Int.emod_lt_of_pos _ (by omega)
  · simpa [hcount] using congrArg List.length hset
  · intro j h mn nrm mx pos width hsp
    have hpair := congrArg (·[j]?) hset
    simp only [List.getElem?_map, hsp, List.getElem?_mapIdx, Option.map_some] at hpair
    obtain ⟨i, -, hi⟩ := Option.map_eq_some_iff.1 hpair.symm
    obtain ⟨rfl, rfl⟩ := Prod.mk.inj hi
    rfl
  · have hwidths : spaces.map (·.width) = (l.items.filter Item.isSpace).mapIdx
        (fun j i => (i.normalWidth : Int) + spaceShare extra l.sums.n j) := by
      simpa [Function.comp_def, List.mapIdx_eq_zipIdx_map] using congrArg (List.map Prod.snd) hset
    have hnrm : ((l.items.filter Item.isSpace).map (fun i => (i.normalWidth : Int))).sum = l.sums.nrm := by
      rw [hs, sumsOf_nrm, Nat.cast_list_sum, List.map_map]; rfl
    rw [hwidths, sum_mapIdx_add, hnrm, hcount, sum_spaceShare_all extra l.sums.n hn]

end Sys2Proof.Machine
end

section
/-! PROOFS. The hyphen points of a word (R37 to R42): where its candidates come from, which of them the minimums keep,
and the point at which a hyphen break divides the line. -/

namespace Sys2Proof.Machine

/-! ### The minimums (R42) -/

@[simp] theorem mem_keepMinimums (left right length : Nat) (points : List Nat) (i : Nat) :
    i ∈ keepMinimums left right length points ↔ i ∈ points ∧ left ≤ i ∧ right ≤ length - i := by
  simp [keepMinimums]

/-- Every hyphen point of a word leaves both minimums, whatever its candidates are. -/
theorem Hyphenator.minimums_of_mem_points {h : Hyphenator} {word recorded : List Nat} {i : Nat}
    (hi : i ∈ h.points word recorded) : h.leftMin ≤ i ∧ h.rightMin ≤ word.length - i :=
  ((mem_keepMinimums _ _ _ _ i).1 hi).2

/-! ### The discretionary points and the dictionary's entry of a word (R38, R39) -/

@[simp] theorem mem_discretionaryPoints (recorded : List Nat) (length i : Nat) :
    i ∈ discretionaryPoints recorded length ↔ i ∈ recorded ∧ 1 ≤ i ∧ i < length := by
  simp [discretionaryPoints]

/-- A word has no discretionary point when none recorded stands between two of its letters. -/
theorem discretionaryPoints_eq_nil {recorded : List Nat} {length : Nat}
    (hr : ∀ p ∈ recorded, p = 0 ∨ length ≤ p) : discretionaryPoints recorded length = [] := by
  refine List.eq_nil_iff_forall_not_mem.2 fun p hp => ?_
  obtain ⟨hmem, hfirst, hlast⟩ := (mem_discretionaryPoints recorded length p).1 hp
  rcases hr p hmem with h0 | hlen <;> omega

/-- The dictionary answers with the first entry that holds the word. -/
theorem lookupWord_append_cons {before after : List DictEntry} {e : DictEntry} {word : List Nat} (he : e.word = word)
    (hb : ∀ x ∈ before, x.word ≠ word) : lookupWord (before ++ e :: after) word = some e :=
  List.find?_eq_some_iff_append.2 ⟨by simp [he], before, after, rfl, fun x hx => by simp [hb x hx]⟩

theorem lookupWord_eq_none {d : List DictEntry} {word : List Nat} (hd : ∀ x ∈ d, x.word ≠ word) :
    lookupWord d word = none :=
  List.find?_eq_none.2 fun x hx => by simp [hd x hx]

/-! ### The points of a word by the source of its candidates (R37) -/

section
variable {h : Hyphenator} {word recorded : List Nat}

theorem Hyphenator.points_of_discretionary (hown : discretionaryPoints recorded word.length ≠ []) :
    h.points word recorded
      = keepMinimums h.leftMin h.rightMin word.length (sortPoints (discretionaryPoints recorded word.length)) := by
  simp [Hyphenator.points, hown]

theorem Hyphenator.points_of_entry {e : DictEntry} (hown : discretionaryPoints recorded word.length = [])
    (he : lookupWord h.dictionary word = some e) :
    h.points word recorded
      = keepMinimums h.leftMin h.rightMin word.length (sortPoints (if e.never then [] else e.positions)) := by
  simp [Hyphenator.points, hown, he]

theorem Hyphenator.points_of_ruleEngine (hown : discretionaryPoints recorded word.length = [])
    (he : lookupWord h.dictionary word = none) :
    h.points word recorded = keepMinimums h.leftMin h.rightMin word.length (sortPoints (rulePoints word)) := by
  simp [Hyphenator.points, hown, he]

end

/-! ### The hyphen break (R30) -/

/-- A division at a point ends the line with the letters before the point and a hyphen glyph, and carries the rest. -/
theorem State.hyphenAt_eq_some {s : State} {l : Line} {start p : Nat} {d : Division}
    (hd : s.hyphenAt l start p = some d) :
    d.carried = l.items.drop (start + p) ∧ ∃ g, d.ended = l.items.take (start + p) ++ [g] := by
  simp only [State.hyphenAt] at hd
  split at hd
  next g _ =>
    cases (Option.ite_none_right_eq_some.1 hd).2
    exact ⟨rfl, g, rfl⟩
  next => cases hd

/-- Choice 2 divides the line at one of the points of the word at its end. -/
theorem State.hyphenBreak_eq_some {s : State} {l : Line} {r : Nat} {d : Division} (hd : s.hyphenBreak l r = some d) :
    ∃ i ∈ s.hyph.points ((l.items.drop (l.items.length - r)).map Item.letter) s.composer.word.points,
      s.hyphenAt l (l.items.length - r) i = some d := by
  obtain ⟨-, hfind⟩ := Option.ite_none_right_eq_some.1 hd
  obtain ⟨x, hx, rfl⟩ := List.exists_of_findSome?_eq_some hfind
  simpa using hx

/-! ### The statement -/

/-- Settles O59: the points are the kept ones among the candidates of each source, and a hyphen break takes one of
them. -/
theorem hyphenPointsKeepTheMinimums : Obligations.HyphenPointsKeepTheMinimums := by
  refine ⟨fun h word recorded i => ⟨?discretionary, fun hr => ⟨?entry, ?ruleEngine⟩⟩, ?hyphenBreak⟩
  case discretionary =>
    rintro ⟨p, hp, hfirst, hlast⟩
    have hown : discretionaryPoints recorded word.length ≠ [] :=
      List.ne_nil_of_mem ((mem_discretionaryPoints _ _ p).2 ⟨hp, hfirst, hlast⟩)
    simp [Hyphenator.points_of_discretionary hown]
  case entry =>
    intro before after e hdict he hb
    have hfound : lookupWord h.dictionary word = some e := hdict ▸ lookupWord_append_cons he hb
    rw [Hyphenator.points_of_entry (discretionaryPoints_eq_nil hr) hfound]
    cases hn : e.never <;> simp
  case ruleEngine =>
    intro hd
    simp [Hyphenator.points_of_ruleEngine (discretionaryPoints_eq_nil hr) (lookupWord_eq_none hd)]
  case hyphenBreak =>
    intro s l r d hd
    obtain ⟨i, hi, hat⟩ := State.hyphenBreak_eq_some hd
    obtain ⟨hcarried, hended⟩ := State.hyphenAt_eq_some hat
    obtain ⟨hleft, hright⟩ := Hyphenator.minimums_of_mem_points hi
    have hlen : l.items.length - (l.items.length - r) = min r l.items.length := by omega
    rw [List.length_map, List.length_drop, hlen] at hright
    exact ⟨i, hi, hleft, hright, hcarried, hended⟩

end Sys2Proof.Machine
end

section
/-! PROOFS. The flag cell and the mask cell (R172, R173): what a host write to each does, and why no job abort and no
intervention reaches the mask. -/

namespace Sys2Proof.Machine

/-! ### Host writes to the two cells (R172, R173) -/

theorem State.hostNow_flagCell (s : State) (v : Word) (bus : BusResult) :
    s.hostNow { offset := flagCell, data := v, bus := bus }
      = s.flagCellWritten { offset := flagCell, data := v, bus := bus } := rfl

theorem State.hostNow_maskCell (s : State) (v : Word) (bus : BusResult) :
    s.hostNow { offset := maskCell, data := v, bus := bus }
      = s.maskCellWritten { offset := maskCell, data := v, bus := bus } := rfl

theorem State.hostNow_interventionCell (s : State) (v : Word) (bus : BusResult) :
    s.hostNow { offset := interventionCell, data := v, bus := bus }
      = s.interventionWritten { offset := interventionCell, data := v, bus := bus } := rfl

/-! ### What the Bank Port keeps for the host -/

/-- The part of the Bank Port that a job abort and an intervention leave: the event mask and the host cycles that wait.
The second decides what else follows the event. -/
def State.hostSide (s : State) : Word × List HostCycle := (s.port.mask, s.port.hostQueue)

theorem hostSide_of_inner {s t : State} (h : t.inner = s.inner) : t.hostSide = s.hostSide :=
  congrArg (fun i : Inner => (i.outer.mask, i.outer.hostQueue)) h

theorem mask_of_hostSide {s t : State} (h : t.hostSide = s.hostSide) : t.port.mask = s.port.mask :=
  congrArg Prod.fst h

theorem quiet_of_hostSide {s t : State} (h : t.hostSide = s.hostSide) (hq : Quiet s) : Quiet t :=
  (congrArg Prod.snd h).trans hq

@[simp] theorem State.hostStore_hostSide (s : State) (off : Nat) (w : Word) (bus : BusResult) :
    (s.hostStore off w bus).hostSide = s.hostSide := by
  cases bus <;> rfl

/-! ### The end of a command -/

/-- What follows an event leaves the mask when no waiting host cycle can be served. -/
theorem State.mask_of_done {s t : State} (hs : Quiet s ∨ s.port.cycle.isSome ∨ s.port.held.isSome)
    (h : s.done = .next t) : t.port.mask = s.port.mask := by
  rw [State.done, State.settle_eq s hs] at h
  cases h
  rfl

/-- An event that keeps the host's side leaves the mask. -/
theorem State.mask_of_event {s t u : State} (hs : Quiet s) (hu : u.hostSide = s.hostSide) (h : u.done = .next t) :
    t.port.mask = s.port.mask :=
  (State.mask_of_done (.inl (quiet_of_hostSide hu hs)) h).trans (mask_of_hostSide hu)

/-- The same for an event that may not happen. -/
theorem State.mask_of_answer {s t : State} {o : Option State} (hs : Quiet s)
    (ho : ∀ u, o = some u → u.hostSide = s.hostSide) (h : s.answer o = .next t) : t.port.mask = s.port.mask := by
  cases o with
  | none => cases h; rfl
  | some u => exact State.mask_of_event hs (ho u rfl) h

/-! ### Interventions (R190) -/

/-- CLEAR PATH enables a requester, and does no more to the Bank Port (R182). -/
theorem State.clearPathTaken_hostSide {s t : State} {arg : Nat} (h : s.clearPathTaken arg = some t) :
    t.hostSide = s.hostSide := by
  obtain ⟨r, -, rfl⟩ := Option.map_eq_some_iff.1 h
  exact (hostSide_of_inner (State.markIf_inner _ _ _)).trans rfl

theorem State.withdrawTaken_inner {s t : State} {arg : Nat} (h : s.withdrawTaken arg = some t) :
    t.inner = s.inner := by
  unfold State.withdrawTaken at h
  split at h
  · obtain ⟨-, hv⟩ := Option.ite_none_right_eq_some.1 h
    cases hv
    exact State.vacate_inner _ _ _
  · cases h

theorem State.ringResetTaken_inner {s t : State} (h : s.ringResetTaken = some t) : t.inner = s.inner := by
  obtain ⟨-, hv⟩ := Option.ite_none_right_eq_some.1 h
  cases hv
  simp

/-- Every intervention that is taken leaves the mask and the host cycles that wait. -/
theorem State.intervene_hostSide {s t : State} {v : Word} (h : s.intervene v = some t) : t.hostSide = s.hostSide := by
  unfold State.intervene at h
  split at h
  · cases h; exact hostSide_of_inner (State.jobAbort_inner _ _)
  · exact hostSide_of_inner (State.withdrawTaken_inner h)
  · exact State.clearPathTaken_hostSide h
  · cases h; exact hostSide_of_inner (State.markIf_inner _ _ _)
  · cases h; exact hostSide_of_inner (State.markIf_inner _ _ _)
  · cases h; exact hostSide_of_inner (by simp)
  · exact hostSide_of_inner (State.ringResetTaken_inner h)
  · cases h; exact hostSide_of_inner (State.markAll_inner _)
  · cases h

/-- The word the host writes there may be taken or refused: either way they stand (R174). -/
theorem State.interventionWritten_hostSide (s : State) (c : HostCycle) :
    (s.interventionWritten c).hostSide = s.hostSide := by
  unfold State.interventionWritten
  split
  next t ht => rw [State.hostStore_hostSide, State.intervene_hostSide ht]
  next => exact State.hostStore_hostSide _ _ _ _

/-- A word the host writes to the intervention cell leaves the mask, whether its cycle begins at once or waits behind a
part cycle or a hold. -/
theorem State.mask_of_interventionCommand {s t : State} {v : Word} {bus : BusResult} (hs : Quiet s)
    (h : s.hostCommand interventionCell v bus = .next t) : t.port.mask = s.port.mask := by
  have hin : interventionCell < bankWords := by decide
  rw [State.hostCommand, if_pos hin, State.hostWrite] at h
  split at h
  next =>
    rw [State.hostNow_interventionCell] at h
    exact State.mask_of_event hs (s.interventionWritten_hostSide _) h
  next hbusy =>
    have hwaits : s.port.cycle.isSome ∨ s.port.held.isSome := by
      by_contra hidle
      obtain ⟨hcycle, hheld⟩ := not_or.1 hidle
      exact hbusy (by simp [Option.not_isSome_iff_eq_none.1 hcycle, Option.not_isSome_iff_eq_none.1 hheld, hs])
    exact State.mask_of_done (s := { s with port.hostQueue := s.port.hostQueue ++ [_] }) (.inr hwaits) h

/-- Every row of an intervention is a host write to the intervention cell (R174). -/
theorem exec_of_intervention {c : Instr} {arg : Byte} {w : Word} {bus : BusResult}
    (hc : c ∈ [Instr.unknownIntervention w bus, .abortJob arg bus, .withdraw arg bus, .clearPath arg bus,
      .inboxTaken arg bus, .captureTaken arg bus, .returnRequest arg bus, .ringReset arg bus, .repost arg bus])
    (s : State) : ∃ v, exec c s = s.hostCommand interventionCell v bus := by
  simp only [List.mem_cons, List.not_mem_nil, or_false] at hc
  rcases hc with rfl | rfl | rfl | rfl | rfl | rfl | rfl | rfl | rfl <;> exact ⟨_, rfl⟩

/-! ### The other roads of a job abort: CANCEL and the expiry of the hold limit (R79, R141, R170) -/

/-- CANCEL aborts the job in progress or is refused; both stay outside the Bank Port (R141). -/
theorem State.cancelled_inner (s : State) :
    (if s.intake.job.inProgress then s.jobAbort .aborted else s.refuse .noJob).inner = s.inner := by
  split <;> simp

@[simp] theorem State.overrunOutside_inner (s : State) : s.overrunOutside.inner = s.inner := by
  simp [State.overrunOutside]

/-- A job abort with outcome OVERRUN, or DISCARDING with no job in progress, stays outside the Bank Port (R79). -/
theorem State.overrunAbort_inner (s : State) :
    (if s.intake.job.inProgress then s.jobAbort .overrun else s.overrunOutside).inner = s.inner := by
  split <;> simp

/-- Once the held write has reached the bank, the overrun stays outside the Bank Port but for the intake's request. -/
theorem State.overrun_inner (s : State) (c : HostCycle) :
    (s.overrun c).inner
      = (State.hostStore { s with port.held := none, port.holdTimer := .idle } c.offset c.data c.bus).inner := by
  unfold State.overrun
  rw [State.raise_inner, State.overrunAbort_inner, State.mark_inner, State.giveUpRequest_inner, inner_mk]

theorem State.onHoldExpiry_hostSide {s t : State} (h : s.onHoldExpiry = some t) : t.hostSide = s.hostSide := by
  unfold State.onHoldExpiry at h
  split at h
  next c _ =>
    obtain ⟨-, hv⟩ := Option.ite_none_right_eq_some.1 h
    cases hv
    exact (hostSide_of_inner (s.overrun_inner c)).trans (State.hostStore_hostSide _ _ _ _)
  next => cases h

/-! ### The statement -/

/-- Settles O15: each cell's write is what `hostNow` makes of its offset; and the panel's CANCEL, the hold limit's expiry
and every intervention keep the host's side of the Bank Port, where the mask is. -/
theorem flagAndMaskCellWrites : Obligations.FlagAndMaskCellWrites := by
  refine ⟨?flagCell, ?maskCell, rfl, ?mask⟩
  case flagCell =>
    intro s v hs
    exact State.hostCommand_endsIn hs (by decide) (s.hostNow_flagCell v .good) hs.2.2
  case maskCell =>
    intro s v hs
    exact State.hostCommand_endsIn hs (by decide) (s.hostNow_maskCell v .good) hs.2.2
  case mask =>
    intro s t c arg w bus hs hc h
    rcases List.mem_cons.1 hc with rfl | hc
    · exact State.mask_of_event hs (hostSide_of_inner s.cancelled_inner) h
    rcases List.mem_cons.1 hc with rfl | hc
    · exact State.mask_of_answer hs (fun _ => State.onHoldExpiry_hostSide) h
    · obtain ⟨v, hv⟩ := exec_of_intervention hc s
      exact State.mask_of_interventionCommand hs (hv ▸ h)

end Sys2Proof.Machine
end

section
/-! PROOFS. The interrupt line (R189): the flags are the cell's fourteen low bits, the line is read off the flag set and
the mask bit by bit, and a raise acts on its own flag's bit. -/

namespace Sys2Proof.Machine

/-! ### The flags and their bits (11.3) -/

/-- A flag's bit is its place in the order of 11.3. -/
theorem EventFlag.ofNat_bit (f : EventFlag) : EventFlag.ofNat f.bit = f := by cases f <;> rfl

/-- No two flags share a bit. -/
theorem EventFlag.bit_inj {f g : EventFlag} : f.bit = g.bit ↔ f = g :=
  (Function.LeftInverse.injective EventFlag.ofNat_bit).eq_iff

theorem EventFlag.bit_ofNat : ∀ i < 14, (EventFlag.ofNat i).bit = i := by decide

theorem EventFlag.bit_lt (f : EventFlag) : f.bit < 14 := by cases f <;> decide

theorem EventFlag.bit_lt_width (f : EventFlag) : f.bit < 16 := f.bit_lt.trans (by decide)

/-- Of the flags' bits, a flag's word holds its own alone. -/
theorem EventFlag.getLsbD_word (f g : EventFlag) : f.word.getLsbD g.bit = decide (g = f) := by
  have hword : f.word = BitVec.twoPow 16 f.bit := rfl
  simp [hword, EventFlag.bit_inj, EventFlag.bit_lt_width, eq_comm]

/-- The bits of the cells that name a flag are the fourteen low ones. -/
theorem getLsbD_flagBits : ∀ i < 16, flagBits.getLsbD i = decide (i < 14) := by decide

/-- A word meets the flags' bits when one of the flags has its bit in it. -/
theorem and_flagBits_ne_zero_iff (w : Word) : w &&& flagBits ≠ 0 ↔ ∃ f : EventFlag, w.getLsbD f.bit = true := by
  constructor
  · intro hw
    by_contra hnone
    refine hw (BitVec.eq_of_getLsbD_eq fun i hi => ?_)
    by_cases hflag : i < 14
    · have hbit : w.getLsbD i = false := by
        simpa [EventFlag.bit_ofNat i hflag] using not_exists.1 hnone (EventFlag.ofNat i)
      simp [hbit]
    · simp [getLsbD_flagBits i hi, hflag]
  · rintro ⟨f, hf⟩ hzero
    have hbit := congrArg (BitVec.getLsbD · f.bit) hzero
    simp [hf, getLsbD_flagBits f.bit f.bit_lt_width, f.bit_lt] at hbit

/-! ### The line, and the flag set after a raise -/

/-- The line is asserted exactly when some event flag is set whose mask bit is set (R189). -/
theorem State.interruptLine_iff (s : State) :
    s.interruptLine = true ↔ ∃ f : EventFlag, s.flagSet f = true ∧ s.port.mask.getLsbD f.bit = true := by
  simp only [State.interruptLine, bne_iff_ne, and_flagBits_ne_zero_iff, BitVec.getLsbD_and, Bool.and_eq_true,
    State.flagSet]

/-- The flag set and the mask decide the line. -/
theorem State.interruptLine_congr {s t : State} (hflags : ∀ f, s.flagSet f = t.flagSet f)
    (hmask : s.port.mask = t.port.mask) : s.interruptLine = t.interruptLine := by
  rw [Bool.eq_iff_iff]
  simp only [State.interruptLine_iff, hflags, hmask]

/-- A raise sets its own flag and leaves the others (R188). -/
theorem State.flagSet_raise (s : State) (f g : EventFlag) :
    (s.raise f).flagSet g = (s.flagSet g || decide (g = f)) := by
  unfold State.raise
  split
  next hset =>
    by_cases hgf : g = f
    · simp [hgf, hset]
    · simp [hgf]
  next => simp [State.flagSet, EventFlag.getLsbD_word]

/-- A raise asserts the line when the flag's mask bit is set, and never deasserts it. -/
theorem State.interruptLine_raise (s : State) (f : EventFlag) :
    (s.raise f).interruptLine = (s.interruptLine || s.port.mask.getLsbD f.bit) := by
  rw [Bool.eq_iff_iff]
  simp only [Bool.or_eq_true, State.interruptLine_iff, State.flagSet_raise, State.raise_port,
    decide_eq_true_eq, or_and_right, exists_or, exists_eq_left]

/-! ### The statement -/

/-- Settles O17: the line's bits are those of the flag set under the mask, and the state that a write to the flag cell
or the mask cell ends in is the one O15 gives. -/
theorem interruptLineFollows : Obligations.InterruptLineFollows := by
  obtain ⟨hflagCell, hmaskCell, -⟩ := flagAndMaskCellWrites
  refine ⟨State.interruptLine_iff, by decide, State.interruptLine_raise, ?writes, ?moves⟩
  case writes =>
    intro s v hs
    refine ⟨⟨_, hflagCell s v hs, ?clear⟩, ⟨_, hmaskCell s v hs, ?latch⟩⟩
    case clear =>
      rw [State.interruptLine_iff]
      simp [State.flagSet, State.requesting, EventFlag.bit_lt_width, and_assoc]
    case latch =>
      exact State.interruptLine_iff _
  case moves =>
    intro s t hline
    by_contra hsame
    obtain ⟨hflags, hmask⟩ := not_or.1 hsame
    exact hline (State.interruptLine_congr (fun f => not_not.1 (not_exists.1 hflags f)) (not_not.1 hmask))

end Sys2Proof.Machine
end

section
/-! PROOFS. The shape of a step: what a command answers, what idles, and what power-on leaves. -/

namespace Sys2Proof.Machine

/-! ### Raising a flag (R188) -/

theorem mem_foldl_insertOffset (l acc : List Nat) (b : Nat) :
    b ∈ l.foldl (fun acc o => insertOffset o acc) acc ↔ b ∈ l ∨ b ∈ acc := by
  induction l generalizing acc with
  | nil => simp
  | cons a l ih => rw [List.foldl_cons, ih, mem_insertOffset, List.mem_cons]; tauto

/-- A mark adds its offsets to the change marks, and takes none away (R183). -/
@[simp] theorem State.mem_mark (s : State) (l : List Nat) (b : Nat) :
    b ∈ (s.mark l).status.marks ↔ b ∈ l ∨ b ∈ s.status.marks := mem_foldl_insertOffset l _ b

@[simp] theorem State.mark_flagSet (s : State) (l : List Nat) (f : EventFlag) :
    (s.mark l).flagSet f = s.flagSet f := rfl

@[simp] theorem State.markIf_flagSet (s : State) (b : Bool) (l : List Nat) (f : EventFlag) :
    (s.markIf b l).flagSet f = s.flagSet f := by simp [State.flagSet]

theorem State.raise_of_flagSet {s : State} {f : EventFlag} (h : s.flagSet f = true) : s.raise f = s := by
  simp [State.raise, h]

/-- Settles O16: the branch of a set flag is the state itself, the other adds the flag and marks the flag cell. -/
theorem raiseAddsTheFlag : Obligations.RaiseAddsTheFlag := by
  intro s f
  refine ⟨State.raise_of_flagSet, fun hclear => ⟨?_, fun g hg => ?_, ?_, State.raise_frame s f⟩⟩
  · simp [State.flagSet_raise]
  · simp [State.flagSet_raise, hg]
  · simp [State.raise, hclear, flagCell]

/-! ### The front of the queue, and the state after power-on -/

/-- Settles O1: `step` on a queue with a front command. -/
theorem stepRunsFrontCommand : Obligations.StepRunsFrontCommand := fun _ _ _ => rfl

/-- Settles O5: each invariant read off the reset state. -/
theorem invariantsAtReset : Obligations.InvariantsAtReset := by
  exact ⟨reset_memWf, rfl, by decide, nofun, by decide, by decide, by decide⟩

/-- Settles O3: each value read off the reset state. -/
theorem powerOnValues : Obligations.PowerOnValues := by
  refine ⟨⟨rfl, rfl, rfl, ?ports⟩, by decide, by decide, by decide, ⟨?table, by decide, rfl, rfl⟩, by decide, by decide,
    by decide, by decide, rfl, rfl, rfl, rfl, rfl, rfl, rfl, ?reports⟩
  case ports => intro r; cases r <;> decide
  case table => decide
  case reports => decide

/-! ### Events that do not hold -/

theorem State.answer_none (s : State) : s.answer none = .next s := rfl

theorem State.nextRow_of_run_nil {s : State} (h : s.intake.run = []) : s.nextRow = none := by
  simp [State.nextRow, h]

theorem State.headAs_of_run_nil {s : State} (h : s.intake.run = []) (r : CopyRow) : s.headAs r = none := by
  simp [State.headAs, State.nextRow_of_run_nil h]

theorem State.onWord_of_run_nil {s : State} (h : s.intake.run = []) (r : CopyRow) (f : State → Word → Nat → State) :
    s.onWord r f = none := by simp [State.onWord, State.headAs_of_run_nil h]

theorem State.onCommand_of_run_nil {s : State} (h : s.intake.run = []) (c : Cmd) (f : State → Command → State) :
    s.onCommand c f = none := by simp [State.onCommand, State.headAs_of_run_nil h]

theorem State.onCycle_of_no_cycle {s : State} (h : s.port.cycle = none) (k : CycleKind)
    (f : State → CycleRequest → State) : s.onCycle k f = none := by simp [State.onCycle, State.inProgress, h]

theorem State.onFault_of_no_cycle {s : State} (h : s.port.cycle = none) : s.onFault = none := by
  simp [State.onFault, State.inProgress, h]

/-- Settles O2: in each row the guard of the event fails, and the answer is the state itself. -/
theorem nothingToDoChangesNothing : Obligations.NothingToDoChangesNothing := by
  refine ⟨fun s hs => by simp [step, hs], fun s => ⟨?cycle, ?grant, ?hold, ?pass, ?held, ?wait, ?timer, ?motion, ?copy,
    ?acknowledge, ?stall, ?words⟩⟩
  case cycle =>
    intro h
    simp [exec, execRefetchRead, execLibrarySearchRead, execLibraryRecordRead, execDrainRead, execSpoolWrite,
      execStatusWrite, execBankFault, State.onCycle_of_no_cycle h, State.onFault_of_no_cycle h, State.answer_none]
  case grant =>
    intro h
    have hnone : s.firstWaiting = none := by simp [State.firstWaiting, h]
    simp [exec, execArbiterGrant, hnone, State.answer_none]
  case hold =>
    intro h
    simp [exec, execHoldRelease, execHoldLimitExpiry, State.onRelease, State.onHoldExpiry, h, State.answer_none]
  case pass =>
    intro h
    have hcannot : s.passCanBegin = false := by
      rcases h with h | h
      · simp [State.passCanBegin, h]
      · simp [State.passCanBegin, Option.isSome_iff_ne_none.1 h]
    simp [exec, execPostingPassBegin, hcannot, State.answer_none]
  case held =>
    intro h
    simp [exec, execHeldEntryAccepted, execMarkWaitEnd, State.onHeldEntry, State.onHeldMark, h, State.answer_none]
  case wait =>
    intro h
    simp [exec, execFontWaitEnd, execFontPositionRerun, State.onFontWaitEnd, State.onPositionRerun, h,
      State.answer_none]
  case timer =>
    intro p h
    simp only [exec, execCallTimerExpiry, State.onCallTimer, if_neg h, State.answer_none]
  case motion =>
    intro hm ho
    simp [exec, execMotionComplete, execMotionDeadlineExpiry, execFlashSeen, execFlashMissed, execFlashTimeout,
      execManualDeadlineExpiry, State.onCompletion, State.onDeadline, State.onManualDeadline, State.flashing,
      State.motion, hm, ho, State.answer_none]
  case copy =>
    intro h
    simp [exec, execEntryStart, execTake, State.canStart, h, State.answer_none]
  case acknowledge =>
    intro h
    simp [exec, execPrinterAcknowledge, h, State.answer_none]
  case stall =>
    intro h
    simp [exec, execPrinterStalled, h, State.answer_none]
  case words =>
    intro h
    simp only [List.forall_mem_cons, List.not_mem_nil, IsEmpty.forall_iff, implies_true, and_true]
    simp [exec, execFiller, execDiscretionaryHyphen, execTie, execInterwordSpace, execCharacter, execInvalidCode,
      execUnknownCommand, execCommandWord, execOperandWord, execJob, execEndjob, execMeasure, execLead, execFont,
      execSize, execQuad, execFixspace, execHyph, execExceptWord, execUnexcept, execLenses, execMount, execRelease,
      execAdvance, execReverse, execCut, execProofMode, execDisplay, execMark, State.onWord_of_run_nil h,
      State.onCommand_of_run_nil h, State.nextRow_of_run_nil h, State.answer_none]

end Sys2Proof.Machine
end

section
/-! PROOFS. What Font Control's operations can change, in one relation: the position table's block, a FONT WAIT, the
panel's calls and messages, the flags with the marks, and the requests. -/

namespace Sys2Proof.Machine

/-- The state `s` with what Font Control's operations can change taken from `t`: Font Control itself, the Composer's FONT
WAIT, the panel's calls, alarm and messages, the event flags, the change marks and the requests. -/
def State.fontFrom (s t : State) : State :=
  { s with
    font := t.font
    composer.fontWait := t.composer.fontWait
    panel.outbound := t.panel.outbound
    panel.sending := t.panel.sending
    panel.calls := t.panel.calls
    panel.alarm := t.panel.alarm
    status.flags := t.status.flags
    status.marks := t.status.marks
    port.requests := t.port.requests }

/-- The two states differ in nothing else. -/
def FontFrame (s t : State) : Prop := t = s.fontFrom t

namespace FontFrame

theorem refl (s : State) : FontFrame s s := rfl

theorem trans {s t u : State} (h : FontFrame s t) (h' : FontFrame t u) : FontFrame s u :=
  Eq.trans h' (show t.fontFrom u = (s.fontFrom t).fontFrom u from congrArg (State.fontFrom · u) h)

theorem font (s : State) (f : FontControl) : FontFrame s { s with font := f } := rfl

theorem foldl {α : Type} {f : State → α → State} (hf : ∀ s a, FontFrame s (f s a)) :
    ∀ (l : List α) (s : State), FontFrame s (l.foldl f s)
  | [], s => refl s
  | a :: l, s => (hf s a).trans (foldl hf l (f s a))

section
variable {s t : State} (h : FontFrame s t)
include h
theorem queue : t.queue = s.queue := (congrArg State.queue h :)
theorem mem : t.mem = s.mem := (congrArg State.mem h :)
theorem seq : t.seq = s.seq := (congrArg State.seq h :)
theorem intake : t.intake = s.intake := (congrArg State.intake h :)
theorem hyph : t.hyph = s.hyph := (congrArg State.hyph h :)
theorem exposure : t.exposure = s.exposure := (congrArg State.exposure h :)
theorem waitingReport : t.waitingReport = s.waitingReport := (congrArg State.waitingReport h :)
theorem proof : t.proof = s.proof := (congrArg State.proof h :)
theorem freeCount : t.freeCount = s.freeCount := (congrArg State.freeCount h :)
theorem pending : t.pending = s.pending := (congrArg State.pending h :)
theorem composer : t.composer = { s.composer with fontWait := t.composer.fontWait } := congrArg State.composer h
theorem port : t.port = { s.port with requests := t.port.requests } := congrArg State.port h
theorem panel : t.panel = { s.panel with
    outbound := t.panel.outbound, sending := t.panel.sending, calls := t.panel.calls, alarm := t.panel.alarm } :=
  congrArg State.panel h
theorem status : t.status = { s.status with flags := t.status.flags, marks := t.status.marks } :=
  congrArg State.status h
end

end FontFrame

/-! ### The operations of Font Control -/

theorem State.mark_fontFrame (s : State) (l : List Nat) : FontFrame s (s.mark l) := rfl

theorem State.raise_fontFrame (s : State) (f : EventFlag) : FontFrame s (s.raise f) := by
  rw [FontFrame, s.raise_frame f]; rfl

theorem State.setPosition_fontFrame (s : State) (p : Fin 8) (e : Position) : FontFrame s (s.setPosition p e) := by
  rw [FontFrame, s.setPosition_frame p e]; rfl

theorem State.dropWidths_fontFrame (s : State) (p : Fin 8) : FontFrame s (s.dropWidths p) := rfl

theorem State.giveUpRequest_fontFrame (s : State) (r : Requester) : FontFrame s (s.giveUpRequest r) := by
  rw [FontFrame, s.giveUpRequest_frame r]; rfl

theorem State.endCall_fontFrame (s : State) (p : Fin 8) : FontFrame s (s.endCall p) := by
  rw [FontFrame, s.endCall_frame p]; rfl

theorem State.makeCall_fontFrame (s : State) (p : Fin 8) : FontFrame s (s.makeCall p) := by
  rw [FontFrame, s.makeCall_frame p]; rfl

theorem State.sendCall_fontFrame (s : State) (p : Fin 8) : FontFrame s (s.sendCall p) := rfl

theorem State.refusePosition_fontFrame (s : State) (p : Fin 8) (r : Reason) : FontFrame s (s.refusePosition p r) :=
  (s.setPosition_fontFrame p _).trans (State.raise_fontFrame _ _)

theorem State.refreshInUseAt_fontFrame (s : State) (p : Fin 8) : FontFrame s (s.refreshInUseAt p) := by
  unfold State.refreshInUseAt
  dsimp only
  split <;> rfl

theorem State.refreshInUse_fontFrame (s : State) : FontFrame s s.refreshInUse :=
  FontFrame.foldl State.refreshInUseAt_fontFrame _ _

theorem State.beginFetches_fontFrame : ∀ (n : Nat) (s : State), FontFrame s (s.beginFetches n)
  | 0, s => .refl s
  | n + 1, s => by
    unfold State.beginFetches
    split
    · split
      · exact ((FontFrame.font s _).trans (State.refusePosition_fontFrame _ _ _)).trans
          (State.beginFetches_fontFrame n _)
      · rfl
    · rfl

theorem State.startFetches_fontFrame (s : State) : FontFrame s s.startFetches := s.beginFetches_fontFrame 9

theorem State.joinFetchList_fontFrame (s : State) (p : Fin 8) : FontFrame s (s.joinFetchList p) :=
  (FontFrame.font s _).trans (State.startFetches_fontFrame _)

theorem State.endFetch_fontFrame (s : State) : FontFrame s s.endFetch :=
  (FontFrame.font s _).trans (State.startFetches_fontFrame _)

theorem State.leaveFetchList_fontFrame (s : State) (p : Fin 8) : FontFrame s (s.leaveFetchList p) := by
  unfold State.leaveFetchList
  dsimp only
  split
  · exact ((FontFrame.font s _).trans (State.giveUpRequest_fontFrame _ _)).trans
      (State.startFetches_fontFrame _)
  · rfl

theorem State.refuseFetch_fontFrame (s : State) (p : Fin 8) (r : Reason) : FontFrame s (s.refuseFetch p r) :=
  (s.refusePosition_fontFrame p r).trans (State.endFetch_fontFrame _)

theorem State.leaveOldState_fontFrame (s : State) (p : Fin 8) (old : PosState) :
    FontFrame s (s.leaveOldState p old) := by
  unfold State.leaveOldState
  split
  · exact s.endCall_fontFrame p
  · exact s.leaveFetchList_fontFrame p
  · exact .refl s

theorem State.vacate_fontFrame (s : State) (p : Fin 8) (r : Option Reason) : FontFrame s (s.vacate p r) :=
  ((s.setPosition_fontFrame p _).trans (State.dropWidths_fontFrame _ _)).trans (State.leaveOldState_fontFrame _ _ _)

theorem State.clearRefused_fontFrame (s : State) (p : Fin 8) (n : Nat) : FontFrame s (s.clearRefused p n) :=
  FontFrame.foldl (fun s q => by
    split
    exacts [s.vacate_fontFrame q none, .refl s]) _ _

theorem State.requestFont_fontFrame (s : State) (p : Fin 8) (n : Nat) (fix wait : Bool) (o : Origin) :
    FontFrame s (s.requestFont p n fix wait o) :=
  ((((s.setPosition_fontFrame p _).trans (State.dropWidths_fontFrame _ _)).trans
    (State.leaveOldState_fontFrame _ _ _)).trans (State.clearRefused_fontFrame _ _ _)).trans
    (State.makeCall_fontFrame _ _)

theorem State.loadFont_fontFrame (s : State) (p : Fin 8) (n : Nat) (fix : Bool) (o : Option Origin) :
    FontFrame s (s.loadFont p n fix o) :=
  ((((s.setPosition_fontFrame p _).trans (State.dropWidths_fontFrame _ _)).trans
    (State.leaveOldState_fontFrame _ _ _)).trans (State.clearRefused_fontFrame _ _ _)).trans
    (State.joinFetchList_fontFrame _ _)

theorem State.fetchSucceeds_fontFrame (s : State) (p : Fin 8) (r : WidthRecord) : FontFrame s (s.fetchSucceeds p r) :=
  ((FontFrame.font s _).trans (State.setPosition_fontFrame _ p _)).trans (State.endFetch_fontFrame _)

theorem State.agePositions_fontFrame (s : State) (l : LineEntry) : FontFrame s (s.agePositions l) :=
  FontFrame.foldl (fun s p => by
    dsimp only
    split
    exacts [s.setPosition_fontFrame p _, .refl s]) _ _

theorem State.withdrawCalls_fontFrame (s : State) (t : JobTag) : FontFrame s (s.withdrawCalls t) :=
  FontFrame.foldl (fun s p => by
    split
    exacts [s.vacate_fontFrame p _, .refl s]) _ _

theorem State.callFont_fontFrame (s : State) (n : Nat) (p : Fin 8) : FontFrame s (s.callFont n p) :=
  s.requestFont_fontFrame p n _ _ _

theorem State.emptyPosition_fontFrame (s : State) (p : Fin 8) : FontFrame s (s.emptyPosition p) := by
  unfold State.emptyPosition
  split
  exacts [.refl s, s.vacate_fontFrame p none]

theorem State.mountAt_fontFrame (s : State) (p : Fin 8) (n : Nat) (fix wait : Bool) :
    FontFrame s (s.mountAt p n fix wait) := by
  unfold State.mountAt
  dsimp only
  split
  · exact s.setPosition_fontFrame p _
  split
  · exact s.setPosition_fontFrame p _
  split
  · exact s.setPosition_fontFrame p _
  · exact s.requestFont_fontFrame p n _ _ _

theorem State.toPanel_fontFrame (s : State) (m : PanelMessage) : FontFrame s (s.toPanel m) := rfl

theorem State.mountedReport_fontFrame (s : State) (p : Fin 8) (n : Nat) : FontFrame s (s.mountedReport p n) := by
  unfold State.mountedReport
  dsimp only
  (repeat' split)
  exacts [s.loadFont_fontFrame p n _ _, s.toPanel_fontFrame _, s.toPanel_fontFrame _, s.toPanel_fontFrame _,
    s.toPanel_fontFrame _, s.loadFont_fontFrame p n _ _]

theorem State.repeatCall_fontFrame (s : State) (p : Fin 8) (k : Nat) : FontFrame s (s.repeatCall p k) :=
  (s.setPosition_fontFrame p _).trans (State.sendCall_fontFrame _ _)

theorem State.searched_fontFrame (s : State) (q : CycleRequest) : FontFrame s (s.searched q) := by
  unfold State.searched
  split
  · (repeat' split)
    exacts [rfl, rfl, s.refuseFetch_fontFrame _ _]
  · exact .refl s

theorem State.recordWordRead_fontFrame (s : State) (q : CycleRequest) : FontFrame s (s.recordWordRead q) := by
  unfold State.recordWordRead
  split
  · dsimp only
    (repeat' split)
    exacts [rfl, s.refuseFetch_fontFrame _ _, s.fetchSucceeds_fontFrame _ _]
  · exact .refl s

end Sys2Proof.Machine
end

section
/-! PROOFS. What a piece of the Composer's work can change when it offers no entry: the Composer, the job with the copy
error record, Font Control, the panel's calls and messages, the status record and the requests. The set queue stands. -/

namespace Sys2Proof.Machine

/-- The state `s` with what the Composer's work can change, but for the set queue, taken from `t`. -/
def State.workFrom (s t : State) : State :=
  { s with
    composer := t.composer
    intake.job := t.intake.job
    intake.errKind := t.intake.errKind
    intake.errOffset := t.intake.errOffset
    font := t.font
    panel.outbound := t.panel.outbound
    panel.sending := t.panel.sending
    panel.calls := t.panel.calls
    panel.alarm := t.panel.alarm
    status := t.status
    port.requests := t.port.requests }

/-- The two states differ in nothing else. -/
def WorkFrame (s t : State) : Prop := t = s.workFrom t

namespace WorkFrame

theorem refl (s : State) : WorkFrame s s := rfl

theorem trans {s t u : State} (h : WorkFrame s t) (h' : WorkFrame t u) : WorkFrame s u :=
  Eq.trans h' (show t.workFrom u = (s.workFrom t).workFrom u from congrArg (State.workFrom · u) h)

theorem of_fontFrame {s t : State} (h : FontFrame s t) : WorkFrame s t :=
  Eq.trans h (show s.fontFrom t = s.workFrom (s.fontFrom t) from rfl) |>.trans (congrArg s.workFrom h.symm)

theorem composer (s : State) (c : Composer) : WorkFrame s { s with composer := c } := rfl

theorem job (s : State) (c : Composer) (j : JobState) : WorkFrame s { s with composer := c, intake.job := j } := rfl

theorem status (s : State) (w : StatusWriter) (j : JobState) : WorkFrame s { s with status := w, intake.job := j } := rfl

theorem queue {s t : State} (h : WorkFrame s t) : t.queue = s.queue := (congrArg State.queue h :)

end WorkFrame

/-! ### The Composer's operations -/

theorem State.mark_workFrame (s : State) (l : List Nat) : WorkFrame s (s.mark l) := rfl

theorem State.markIf_workFrame (s : State) (b : Bool) (l : List Nat) : WorkFrame s (s.markIf b l) := by
  rw [WorkFrame, s.markIf_frame b l]; rfl

theorem State.raise_workFrame (s : State) (f : EventFlag) : WorkFrame s (s.raise f) := .of_fontFrame (s.raise_fontFrame f)

theorem State.refreshInUse_workFrame (s : State) : WorkFrame s s.refreshInUse := .of_fontFrame s.refreshInUse_fontFrame

theorem State.copyError_workFrame (s : State) (k : CopyError) (off : Nat) : WorkFrame s (s.copyError k off) := by
  rw [WorkFrame, s.copyError_frame k off]; rfl

theorem State.setComposer_workFrame (s : State) (x : ComposerState) : WorkFrame s (s.setComposer x) :=
  (WorkFrame.composer s _).trans (State.markIf_workFrame _ _ _)

theorem State.push_workFrame (s : State) (l : List Task) : WorkFrame s (s.push l) := rfl

theorem State.joinItem_workFrame (s : State) (i : Item) : WorkFrame s (s.joinItem i) :=
  (WorkFrame.job s _ _).trans (State.refreshInUse_workFrame _)

theorem State.prepareLine_workFrame (s : State) : WorkFrame s s.prepareLine := by
  unfold State.prepareLine
  dsimp only
  (repeat' split) <;> rfl

theorem State.ineligible_workFrame (s : State) : WorkFrame s s.ineligible := rfl

theorem State.capWord_workFrame (s : State) : WorkFrame s s.capWord := by
  unfold State.capWord
  split <;> rfl

theorem State.lookaheadLetter_workFrame (s : State) (i : Item) : WorkFrame s (s.lookaheadLetter i) := by
  unfold State.lookaheadLetter
  dsimp only
  split
  · exact ((s.joinItem_workFrame i).trans (State.ineligible_workFrame _)).trans (State.push_workFrame _ _)
  · exact (s.joinItem_workFrame i).trans (State.setComposer_workFrame _ _)

theorem State.addLetter_workFrame (s : State) (t : Token) (i : Item) : WorkFrame s (s.addLetter t i) := by
  unfold State.addLetter
  dsimp only
  split
  · exact s.capWord_workFrame.trans (State.push_workFrame _ _)
  split
  · exact s.lookaheadLetter_workFrame i
  · exact s.joinItem_workFrame i

theorem State.addOther_workFrame (s : State) (t : Token) (i : Item) : WorkFrame s (s.addOther t i) := by
  unfold State.addOther
  dsimp only
  split
  · split
    · exact (s.joinItem_workFrame i).trans (State.push_workFrame _ _)
    split
    · exact s.capWord_workFrame.trans (State.push_workFrame _ _)
    · rfl
  · exact s.joinItem_workFrame i

theorem State.discardNoFont_workFrame (s : State) (off : Nat) : WorkFrame s (s.discardNoFont off) := by
  unfold State.discardNoFont
  split
  · rfl
  · exact (WorkFrame.composer s _).trans (State.copyError_workFrame _ _ _)

theorem State.setCharIn_workFrame (s : State) (p : Fin 8) (c off : Nat) : WorkFrame s (s.setCharIn p c off) := by
  unfold State.setCharIn
  dsimp only
  split
  · exact s.prepareLine_workFrame.trans (State.addLetter_workFrame _ _ _)
  · exact s.prepareLine_workFrame.trans (State.addOther_workFrame _ _ _)

theorem State.setCharDefault_workFrame (s : State) (c off : Nat) : WorkFrame s (s.setCharDefault c off) := by
  unfold State.setCharDefault
  split
  · exact s.setCharIn_workFrame _ c off
  · exact s.discardNoFont_workFrame off

theorem State.enterFontWait_workFrame (s : State) (n : Nat) (t : WaitTarget) (c : Option (Nat × Nat)) :
    WorkFrame s (s.enterFontWait n t c) :=
  (WorkFrame.composer s _).trans (State.setComposer_workFrame _ _)

theorem State.callFont_workFrame (s : State) (n : Nat) (p : Fin 8) : WorkFrame s (s.callFont n p) :=
  .of_fontFrame (s.callFont_fontFrame n p)

theorem State.reresolve_workFrame (s : State) (n c off : Nat) : WorkFrame s (s.reresolve n c off) := by
  unfold State.reresolve
  split
  · exact (WorkFrame.composer s _).trans (State.setCharIn_workFrame _ _ _ _)
  · exact s.enterFontWait_workFrame _ _ _
  · exact (s.callFont_workFrame _ _).trans (State.enterFontWait_workFrame _ _ _ _)
  · exact s.enterFontWait_workFrame _ _ _
  · exact (WorkFrame.composer s _).trans (State.setCharDefault_workFrame _ _ _)

theorem State.setChar_workFrame (s : State) (c off : Nat) : WorkFrame s (s.setChar c off) := by
  unfold State.setChar
  split
  · exact s.setCharDefault_workFrame c off
  · split
    · exact s.setCharIn_workFrame _ c off
    · exact s.reresolve_workFrame _ c off

theorem State.setSpace_workFrame (s : State) : WorkFrame s s.setSpace := by
  unfold State.setSpace
  dsimp only
  split
  · rfl
  refine s.prepareLine_workFrame.trans ?_
  split
  · rfl
  · split
    · rfl
    · exact State.joinItem_workFrame _ _

theorem State.setTie_workFrame (s : State) (off : Nat) : WorkFrame s (s.setTie off) := by
  unfold State.setTie
  split
  · exact s.discardNoFont_workFrame off
  · exact s.prepareLine_workFrame.trans (State.addOther_workFrame _ _ _)

theorem State.setFixed_workFrame (s : State) (u : Nat) : WorkFrame s (s.setFixed u) := by
  unfold State.setFixed
  dsimp only
  split
  · exact s.prepareLine_workFrame.trans (State.addOther_workFrame _ _ _)
  · exact s.addOther_workFrame _ _

theorem State.takeToken_workFrame (s : State) (t : Token) : WorkFrame s (s.takeToken t) := by
  unfold State.takeToken
  split
  · rfl
  split
  · rfl
  split
  · exact s.setChar_workFrame _ _
  · exact s.setTie_workFrame _
  · exact s.setSpace_workFrame
  · exact s.setFixed_workFrame _

theorem State.makeOverset_workFrame (s : State) (l : List Item) : WorkFrame s (s.makeOverset l) :=
  ((WorkFrame.status s _ _).trans (State.markIf_workFrame _ _ _)).trans (State.raise_workFrame _ _)

theorem State.finishBreak_workFrame (s : State) (e : LineEntry) (l : List Item) (g : Option GovFont) (w : WordRun) :
    WorkFrame s (s.finishBreak e l g w) :=
  ((WorkFrame.composer s _).trans (State.setComposer_workFrame _ _)).trans (State.push_workFrame _ _)

theorem State.breakLine_workFrame (s : State) (again : Bool) : WorkFrame s (s.breakLine again) := by
  unfold State.breakLine
  dsimp only
  split
  · exact s.finishBreak_workFrame _ _ _ _
  split
  · exact WorkFrame.trans (t := State.noteGlyph s _) rfl (State.finishBreak_workFrame _ _ _ _ _)
  split
  · exact s.finishBreak_workFrame _ _ _ _
  · exact (s.makeOverset_workFrame _).trans (State.finishBreak_workFrame _ _ _ _ _)

theorem State.retestLine_workFrame (s : State) : WorkFrame s s.retestLine := by
  unfold State.retestLine
  split <;> rfl

theorem State.beginJob_workFrame (s : State) (n : Word) : WorkFrame s (s.beginJob n) :=
  ((((WorkFrame.job s _ _).trans (WorkFrame.composer _ _)).trans (State.markIf_workFrame _ _ _)).trans
    (State.markIf_workFrame _ _ _)).trans (State.setComposer_workFrame _ _)

theorem State.leaveJob_workFrame (s : State) : WorkFrame s s.leaveJob :=
  (((WorkFrame.job s _ _).trans (State.mark_workFrame _ _))).trans (State.setComposer_workFrame _ _)

/-- Every piece of work but an offered entry leaves the set queue. -/
theorem State.doTask_workFrame (s : State) (t : Task) (h : ∀ k, t ≠ .offer k) : WorkFrame s (s.doTask t) := by
  cases t with
  | breakLine again => exact s.breakLine_workFrame again
  | offer k => exact absurd rfl (h k)
  | newLine carried previous => exact WorkFrame.composer s _
  | retest => exact s.retestLine_workFrame
  | token t => exact s.takeToken_workFrame t
  | endLine a always => exact WorkFrame.composer s _
  | jobEnd o given => exact WorkFrame.job s _ _
  | beginJob n => exact s.beginJob_workFrame n
  | leaveJob => exact s.leaveJob_workFrame
  | addMark v => exact WorkFrame.composer s _

end Sys2Proof.Machine
end

section
/-! PROOFS. The length of the set queue (R103): an entry is accepted only when there is room, and every other operation
leaves the queue or shortens it. -/

namespace Sys2Proof.Machine

/-! ### Operations that leave the set queue -/

@[simp] theorem State.giveUpRequest_queue (s : State) (r : Requester) : (s.giveUpRequest r).queue = s.queue :=
  (s.giveUpRequest_fontFrame r).queue
@[simp] theorem State.refreshInUse_queue (s : State) : s.refreshInUse.queue = s.queue := s.refreshInUse_fontFrame.queue
@[simp] theorem State.vacate_queue (s : State) (p : Fin 8) (r : Option Reason) : (s.vacate p r).queue = s.queue :=
  (s.vacate_fontFrame p r).queue
@[simp] theorem State.flagClamped_queue (s : State) : s.flagClamped.queue = s.queue :=
  (congrArg State.queue s.flagClamped_frame :)
@[simp] theorem State.alarmOnce_queue (s : State) : s.alarmOnce.queue = s.queue :=
  (congrArg State.queue s.alarmOnce_frame :)
@[simp] theorem State.ownBy_queue (s : State) (o : Ownership) : (s.ownBy o).queue = s.queue :=
  (congrArg State.queue (s.ownBy_frame o) :)
@[simp] theorem State.setOwnership_queue (s : State) (o : Ownership) : (s.setOwnership o).queue = s.queue :=
  (congrArg State.queue (s.setOwnership_frame o) :)
@[simp] theorem State.postMark_queue (s : State) (v : Word) : (s.postMark v).queue = s.queue :=
  (congrArg State.queue (s.postMark_frame v) :)
@[simp] theorem State.writeReport_queue (s : State) (r : Report) : (s.writeReport r).queue = s.queue :=
  (congrArg State.queue (s.writeReport_frame r) :)
@[simp] theorem State.setExposure_queue (s : State) (x : Exposure) : (s.setExposure x).queue = s.queue :=
  (congrArg State.queue (s.setExposure_frame x) :)
@[simp] theorem State.setHalt_queue (s : State) (k : Option HaltKind) : (s.setHalt k).queue = s.queue :=
  (congrArg State.queue (s.setHalt_frame k) :)
@[simp] theorem State.setHalf_queue (s : State) (h : Half) (x : HalfState) : (s.setHalf h x).queue = s.queue :=
  (congrArg State.queue (s.setHalf_frame h x) :)
@[simp] theorem State.setWritePoint_queue (s : State) (p : SpoolPoint) : (s.setWritePoint p).queue = s.queue :=
  (congrArg State.queue (s.setWritePoint_frame p) :)
@[simp] theorem State.setDrainPoint_queue (s : State) (p : SpoolPoint) : (s.setDrainPoint p).queue = s.queue :=
  (congrArg State.queue (s.setDrainPoint_frame p) :)
@[simp] theorem State.setGap_queue (s : State) (n : Nat) : (s.setGap n).queue = s.queue :=
  (congrArg State.queue (s.setGap_frame n) :)
@[simp] theorem State.withdrawCalls_queue (s : State) (t : JobTag) : (s.withdrawCalls t).queue = s.queue :=
  (s.withdrawCalls_fontFrame t).queue
@[simp] theorem State.agePositions_queue (s : State) (l : LineEntry) : (s.agePositions l).queue = s.queue :=
  (s.agePositions_fontFrame l).queue

@[simp] theorem State.postMarks_queue (s : State) (l : List Word) : (s.postMarks l).queue = s.queue := by
  induction l generalizing s with
  | nil => rfl
  | cons v l ih => exact (ih (s.postMark v)).trans (s.postMark_queue v)

@[simp] theorem State.startExposure_queue (s : State) (t : Option JobTag) : (s.startExposure t).queue = s.queue := by
  unfold State.startExposure
  (repeat' split) <;> simp

@[simp] theorem State.addFilmUsed_queue (s : State) (t : Option JobTag) (d : Int) :
    (s.addFilmUsed t d).queue = s.queue := by
  unfold State.addFilmUsed
  split <;> rfl

@[simp] theorem State.clampExposure_queue (s : State) (t : Option JobTag) : (s.clampExposure t).queue = s.queue := by
  unfold State.clampExposure
  split <;> rfl

@[simp] theorem State.countLineExposed_queue (s : State) (t : Option JobTag) :
    (s.countLineExposed t).queue = s.queue := by
  unfold State.countLineExposed
  split <;> simp

@[simp] theorem State.reportJobEnd_queue (s : State) (t : Option JobTag) (j : JobEndEntry) :
    (s.reportJobEnd t j).queue = s.queue := by simp [State.reportJobEnd]

@[simp] theorem State.reportAbort_queue (s : State) (r : WaitingReport) : (s.reportAbort r).queue = s.queue := by
  simp only [State.reportAbort]
  split <;> simp

@[simp] theorem State.abortReport_queue (s : State) (r : WaitingReport) : (s.abortReport r).queue = s.queue := by
  unfold State.abortReport
  split <;> simp

@[simp] theorem State.sendOrder_queue (s : State) (a : Action) (o : Order) : (s.sendOrder a o).queue = s.queue := by
  simp [State.sendOrder]

@[simp] theorem State.haltAt_queue (s : State) (k : HaltKind) (a : Action) : (s.haltAt k a).queue = s.queue := by
  simp only [State.haltAt, State.alarmOnce_queue]
  split <;> simp

@[simp] theorem State.charAction_queue (s : State) (p i : Fin 8) (t : Int) : (s.charAction p i t).queue = s.queue := by
  unfold State.charAction
  (repeat' split) <;> simp

@[simp] theorem State.workItem_queue (s : State) : s.workItem.queue = s.queue := by
  unfold State.workItem
  split <;> simp

@[simp] theorem State.forwardMove_queue (s : State) (a : Action) (t : Int) : (s.forwardMove a t).queue = s.queue := by
  unfold State.forwardMove
  split <;> simp

@[simp] theorem State.leaveHalt_queue (s : State) : s.leaveHalt.queue = s.queue := by simp [State.leaveHalt]

@[simp] theorem State.setFilm_queue (s : State) (f : Film) : (s.setFilm f).queue = s.queue := rfl

@[simp] theorem State.filmMoved_queue (s : State) (t : Option JobTag) (d : Int) (c : Bool) :
    (s.filmMoved t d c).queue = s.queue := by
  unfold State.filmMoved
  cases c <;> simp

@[simp] theorem State.leaveManual_queue (s : State) (m : Manual) : (s.leaveManual m).queue = s.queue := by
  simp [State.leaveManual]

@[simp] theorem State.sendManual_queue (s : State) (m : ManualMotion) : (s.sendManual m).queue = s.queue := by
  simp [State.sendManual]

@[simp] theorem State.moveWritePoint_queue (s : State) : s.moveWritePoint.queue = s.queue := by
  unfold State.moveWritePoint
  split <;> simp

@[simp] theorem State.fillHalf_queue (s : State) : s.fillHalf.queue = s.queue := by simp [State.fillHalf]

@[simp] theorem State.leaveHalf_queue (s : State) : s.leaveHalf.queue = s.queue := by simp [State.leaveHalf]

@[simp] theorem State.recordWritten_queue (s : State) (r : RecordRole) : (s.recordWritten r).queue = s.queue := by
  cases r with
  | gap => exact s.setGap_queue 0
  | header => rfl
  | own => rfl

@[simp] theorem State.clearProofJob_queue (s : State) : s.clearProofJob.queue = s.queue := by
  unfold State.clearProofJob
  split <;> rfl

@[simp] theorem State.recordRead_queue (s : State) (n : Nat) (l : List Nat) : (s.recordRead n l).queue = s.queue := by
  simp only [State.recordRead, State.printRecord, State.portReady]
  split <;> simp

@[simp] theorem State.drainWord_queue (s : State) (w : Word) : (s.drainWord w).queue = s.queue := by
  unfold State.drainWord State.headerRead
  dsimp only
  (repeat' split) <;> simp

@[simp] theorem State.charSent_queue (s : State) : s.charSent.queue = s.queue := by
  unfold State.charSent
  dsimp only
  (repeat' split) <;> rfl

@[simp] theorem State.advancePass_queue (s : State) : s.advancePass.queue = s.queue := by
  unfold State.advancePass
  split <;> rfl

@[simp] theorem State.hostStore_queue (s : State) (off : Nat) (w : Word) (b : BusResult) :
    (s.hostStore off w b).queue = s.queue := by cases b <;> rfl

@[simp] theorem State.disturb_queue (s : State) (off : Nat) : (s.disturb off).queue = s.queue := by
  unfold State.disturb
  (repeat' split)
  · exact (congrArg State.queue (s.rereadSlot_frame _) :)
  · exact (State.refuseFetch_fontFrame _ _ _).queue.trans (s.giveUpRequest_queue _)
  · rfl
  · rfl

/-! ### Operations that leave the set queue or shorten it -/

@[simp] theorem State.wakePositionWait_queue (s : State) : s.wakePositionWait.queue = s.queue := rfl

/-- The entries that leave are those both consumers are done with (R108). -/
theorem State.releaseDone_queue (s : State) : s.releaseDone.queue = s.queue.filter (fun e => !e.done) := by
  unfold State.releaseDone
  split
  next => rw [State.wakePositionWait_queue, State.refreshInUse_queue]
  next hnone =>
    refine (List.filter_eq_self.2 fun e he => ?_).symm
    simpa using fun hd => hnone (List.any_eq_true.2 ⟨e, he, hd⟩)

theorem State.releaseDone_queue_le (s : State) : s.releaseDone.queue.length ≤ s.queue.length := by
  rw [State.releaseDone_queue]
  exact List.length_filter_le _ _

theorem length_modifyFirst (f : Entry → Bool) (g : Entry → Entry) (l : List Entry) :
    (modifyFirst f g l).length = l.length := by
  induction l with
  | nil => rfl
  | cons e l ih =>
    unfold modifyFirst
    split <;> simp [ih]

theorem State.queueComplete_queue_le (s : State) (e : Entry) : (s.queueComplete e).queue.length ≤ s.queue.length := by
  unfold State.queueComplete
  dsimp only
  refine (State.releaseDone_queue_le _).trans (le_of_eq ?_)
  (repeat' split) <;> simp [State.markExposed, length_modifyFirst]

theorem State.completeEntry_queue_le (s : State) : s.completeEntry.queue.length ≤ s.queue.length := by
  unfold State.completeEntry
  split
  · exact le_rfl
  · dsimp only
    split <;> simp [State.queueComplete_queue_le]

theorem State.takeUpFrom_queue_le (s : State) (i : Nat) : (s.takeUpFrom i).queue.length ≤ s.queue.length := by
  unfold State.takeUpFrom
  split
  · exact le_rfl
  · split
    · simp
    · exact s.completeEntry_queue_le

theorem State.reverseMove_queue_le (s : State) (tag : Option JobTag) (t : Int) :
    (s.reverseMove tag t).queue.length ≤ s.queue.length := by
  unfold State.reverseMove
  dsimp only
  split
  · simp
  · refine (State.completeEntry_queue_le _).trans (le_of_eq ?_)
    split <;> simp

theorem State.filmWork_queue_le (s : State) (e : Entry) : (s.filmWork e).queue.length ≤ s.queue.length := by
  unfold State.filmWork
  split
  · split
    · exact s.takeUpFrom_queue_le 0
    · simp
  · split
    · simp
    · exact s.reverseMove_queue_le _ _
  · simp
  · exact s.completeEntry_queue_le

theorem State.startEntry_queue_le (s : State) : s.startEntry.queue.length ≤ s.queue.length := by
  unfold State.startEntry
  split
  · exact le_rfl
  · refine (State.filmWork_queue_le _ _).trans (le_of_eq ?_)
    simp [State.markInExposure, length_modifyFirst]

theorem State.startsFuel_queue_le : ∀ (n : Nat) (s : State), (s.startsFuel n).queue.length ≤ s.queue.length
  | 0, _ => le_rfl
  | n + 1, s => by
    unfold State.startsFuel
    split
    · exact (State.startsFuel_queue_le n _).trans s.startEntry_queue_le
    · exact le_rfl

theorem State.starts_queue_le (s : State) : s.starts.queue.length ≤ s.queue.length := s.startsFuel_queue_le 6

theorem State.confirm_queue_le (s : State) (o : Order) : (s.confirm o).queue.length ≤ s.queue.length := by
  cases o with
  | move d c =>
    simp only [State.confirm]
    split
    · exact (State.takeUpFrom_queue_le _ _).trans (by simp)
    · exact (State.completeEntry_queue_le _).trans (by simp)
  | cut => exact (State.completeEntry_queue_le _).trans (by simp)
  | _ => simp [State.confirm]

theorem State.resume_queue_le (s : State) : s.resume.queue.length ≤ s.queue.length := by
  unfold State.resume
  split
  next e a _ _ =>
    cases a with
    | shift | lens | step | flash => simp
    | leadMove | filmMove | cut => exact (State.filmWork_queue_le _ _).trans (by simp)
  next => simp

theorem State.goOn_queue_le (s : State) : s.goOn.queue.length ≤ s.queue.length := by
  unfold State.goOn
  split
  · exact s.starts_queue_le
  · split
    · exact le_rfl
    · exact (State.starts_queue_le _).trans s.resume_queue_le
  · exact le_rfl

theorem State.confirmManual_queue_le (s : State) (m : Manual) : (s.confirmManual m).queue.length ≤ s.queue.length :=
  (State.goOn_queue_le _).trans (by simp)

theorem State.abandonManual_queue_le (s : State) (m : Manual) : (s.abandonManual m).queue.length ≤ s.queue.length :=
  (State.goOn_queue_le _).trans (by simp [State.refuse])

theorem State.proofDone_queue_le (s : State) : s.proofDone.queue.length ≤ s.queue.length :=
  (State.releaseDone_queue_le _).trans (by simp [State.markProofed, length_modifyFirst])

theorem State.countGap_queue_le (s : State) : s.countGap.queue.length ≤ s.queue.length :=
  (State.proofDone_queue_le _).trans (by simp)

theorem State.spoolWritten_queue_le (s : State) : s.spoolWritten.queue.length ≤ s.queue.length := by
  unfold State.spoolWritten
  split
  · exact le_rfl
  dsimp only
  split
  · simp
  split
  · simp
  split
  · refine (State.proofDone_queue_le _).trans (le_of_eq ?_)
    split <;> simp
  · refine le_of_eq ?_
    split <;> simp

theorem State.spoolFault_queue_le (s : State) : s.spoolFault.queue.length ≤ s.queue.length := by
  unfold State.spoolFault
  dsimp only
  split
  · split
    · exact (State.countGap_queue_le _).trans le_rfl
    · exact le_rfl
  · exact le_rfl

theorem State.beginProof_queue_le (s : State) (e : Entry) : (s.beginProof e).queue.length ≤ s.queue.length := by
  unfold State.beginProof
  dsimp only
  split
  · exact (State.countGap_queue_le _).trans (by simp [State.markInProof, length_modifyFirst])
  · simp [State.markInProof, length_modifyFirst]

theorem State.removeEntries_queue_le (s : State) (t : JobTag) : (s.removeEntries t).queue.length ≤ s.queue.length := by
  unfold State.removeEntries
  dsimp only
  rw [State.refreshInUse_queue]
  refine (List.length_filter_le _ _).trans (le_of_eq ?_)
  split <;> simp [State.giveUpProof]

theorem State.jobAbort_queue_le (s : State) (o : JobOutcome) : (s.jobAbort o).queue.length ≤ s.queue.length := by
  unfold State.jobAbort
  dsimp only
  split
  · rw [State.withdrawCalls_queue, State.abortReport_queue]
    refine (State.removeEntries_queue_le _ _).trans (le_of_eq ?_)
    simp [State.resolveSize]
  · exact le_rfl

/-! ### Operations that may accept an entry -/

@[simp] theorem State.lineAccepted_queue (s : State) (l : LineEntry) : (s.lineAccepted l).queue = s.queue := by
  simp [State.lineAccepted]

/-- An entry accepted stands at the tail (R105). -/
theorem State.acceptEntry_queue (s : State) (k : EntryKind) : (s.acceptEntry k).queue = s.queue ++ [s.entryFor k] := by
  unfold State.acceptEntry
  cases k with
  | line l => exact State.lineAccepted_queue _ l
  | _ => rfl

theorem State.acceptEntry_queueInv {s : State} (h : s.queueRoom = true) (k : EntryKind) : QueueInv (s.acceptEntry k) := by
  simp only [State.queueRoom, decide_eq_true_eq] at h
  simp only [QueueInv, State.acceptEntry_queue, List.length_append, List.length_singleton]
  omega

theorem State.offer_queueInv {s : State} (h : QueueInv s) (k : EntryKind) : QueueInv (s.offer k) := by
  unfold State.offer
  split
  next hroom => exact State.acceptEntry_queueInv hroom k
  next => simpa [QueueInv] using h

theorem State.doTask_queueInv {s : State} (h : QueueInv s) (t : Task) : QueueInv (s.doTask t) := by
  by_cases ht : ∃ k, t = .offer k
  · obtain ⟨k, rfl⟩ := ht
    exact State.offer_queueInv h k
  · simpa [QueueInv, (s.doTask_workFrame t (fun k hk => ht ⟨k, hk⟩)).queue] using h

theorem State.runTasksFuel_queueInv : ∀ (n : Nat) {s : State}, QueueInv s → QueueInv (s.runTasksFuel n)
  | 0, _, h => h
  | n + 1, s, h => by
    unfold State.runTasksFuel
    split
    · exact h
    · split
      next => exact h
      next t rest _ => exact State.runTasksFuel_queueInv n (State.doTask_queueInv (s := { s with composer.todo := rest }) h t)

theorem State.runTasks_queueInv {s : State} (h : QueueInv s) : QueueInv s.runTasks := by
  simpa [State.runTasks, QueueInv] using State.runTasksFuel_queueInv 64 h

theorem State.work_queueInv {s : State} (h : QueueInv s) (l : List Task) : QueueInv (s.work l) :=
  State.runTasks_queueInv (s := s.push l) h

end Sys2Proof.Machine
end

section
/-! PROOFS. What every command keeps: the canonical bank (log 28), the film account's balance (R126), the bound of the set
queue (R103), the commands that wait (log 1), and STATUS enabled (R178). -/

namespace Sys2Proof.Machine

/-- What every event keeps from `s` to `t`. -/
structure Keeps (s t : State) : Prop where
  mem : MemoryInv s → MemoryInv t
  film : FilmInv s → FilmInv t
  queue : QueueInv s → QueueInv t
  pending : t.pending = s.pending
  status : s.port.disabled.status = false → t.port.disabled.status = false

namespace Keeps

theorem refl (s : State) : Keeps s s := ⟨id, id, id, rfl, id⟩

theorem trans {s t u : State} (h : Keeps s t) (h' : Keeps t u) : Keeps s u :=
  ⟨h'.mem ∘ h.mem, h'.film ∘ h.film, h'.queue ∘ h.queue, h'.pending.trans h.pending, h'.status ∘ h.status⟩

section
variable {s t : State}

theorem of_outer (ho : t.outer = s.outer) (hf : FilmInv s → FilmInv t) (hq : QueueInv s → QueueInv t) : Keeps s t := by
  have hm : t.mem = s.mem := congrArg Outer.mem ho
  have hd : t.port.disabled = s.port.disabled := congrArg Outer.disabled ho
  exact ⟨fun h => by rwa [MemoryInv, hm], hf, hq, congrArg Outer.pending ho, fun h => by rwa [hd]⟩

theorem of_account (h : t.account = s.account) (hq : t.queue.length ≤ s.queue.length) : Keeps s t :=
  of_outer (outer_of_account h) (fun hf => (congrArg (fun a : Account => a.film.conserved) h.symm :).mp hf)
    hq.trans

theorem of_inner (h : t.inner = s.inner) (hq : QueueInv s → QueueInv t) : Keeps s t :=
  of_outer (congrArg Inner.outer h) (fun hf => (congrArg (fun i : Inner => i.seq.film.conserved) h.symm :).mp hf) hq

theorem of_inner_le (h : t.inner = s.inner) (hq : t.queue.length ≤ s.queue.length) : Keeps s t := of_inner h hq.trans

theorem of_inner_eq (h : t.inner = s.inner) (hq : t.queue = s.queue) : Keeps s t :=
  of_inner_le h (hq ▸ le_rfl)

theorem of_workFrame (h : WorkFrame s t) : Keeps s t := by
  rw [WorkFrame] at h
  rw [h]
  exact ⟨id, id, id, rfl, id⟩

theorem hold (s : State) (h : Option HostCycle) (x : HoldTimer) (l : List HostCycle) :
    Keeps s { s with port.held := h, port.holdTimer := x, port.hostQueue := l } := ⟨id, id, id, rfl, id⟩

theorem taken (s : State) (i : Intake) (l : List Nat) : Keeps s (State.mark { s with intake := i } l) :=
  ⟨id, id, id, rfl, id⟩

theorem intake (s : State) (i : Intake) : Keeps s { s with intake := i } := ⟨id, id, id, rfl, id⟩

theorem panel (s : State) (l : PanelLink) : Keeps s { s with panel := l } := ⟨id, id, id, rfl, id⟩

theorem flags (s : State) (v : Word) : Keeps s { s with status.flags := v } := ⟨id, id, id, rfl, id⟩

theorem mask (s : State) (v : Word) : Keeps s { s with port.mask := v } := ⟨id, id, id, rfl, id⟩

theorem of_fontFrame (h : FontFrame s t) : Keeps s t := of_workFrame (.of_fontFrame h)

end

end Keeps

/-! ### Host cycles and what follows every event -/

theorem State.hostStore_keeps (s : State) (off : Nat) (w : Word) (b : BusResult) : Keeps s (s.hostStore off w b) := by
  cases b <;> exact ⟨memWf_writeMem off _, id, id, rfl, id⟩

theorem State.disturb_keeps (s : State) (off : Nat) : Keeps s (s.disturb off) := by
  unfold State.disturb
  split
  · split
    · split
      · rw [State.rereadSlot_frame]
        exact ⟨id, id, id, rfl, id⟩
      · exact .of_fontFrame ((s.giveUpRequest_fontFrame _).trans (State.refuseFetch_fontFrame _ _ _))
    · exact .refl s
  · exact .refl s

theorem State.jobAbort_keeps (s : State) (o : JobOutcome) : Keeps s (s.jobAbort o) :=
  .of_inner_le (s.jobAbort_inner o) (s.jobAbort_queue_le o)

theorem State.ringWrite_keeps (s : State) (c : HostCycle) : Keeps s (s.ringWrite c) := by
  unfold State.ringWrite
  split
  · split
    · exact (s.hostStore_keeps c.offset c.data c.bus).trans (Keeps.taken _ _ _)
    · exact ⟨id, id, id, rfl, id⟩
  · exact s.hostStore_keeps _ _ _

theorem State.clearPathTaken_keeps {s t : State} {arg : Nat} (h : s.clearPathTaken arg = some t) : Keeps s t := by
  obtain ⟨r, -, rfl⟩ := Option.map_eq_some_iff.1 h
  refine Keeps.trans (t := { s with port.disabled := s.port.disabled.set r false }) ⟨id, id, id, rfl, fun hs => ?_⟩
    (.of_workFrame (State.markIf_workFrame _ _ _))
  cases r with
  | status => rfl
  | intake | library | drain | spool => exact hs

theorem State.intervene_keeps {s t : State} {v : Word} (h : s.intervene v = some t) : Keeps s t := by
  unfold State.intervene at h
  split at h
  · cases h; exact s.jobAbort_keeps _
  · unfold State.withdrawTaken at h
    split at h
    · obtain ⟨-, hv⟩ := Option.ite_none_right_eq_some.1 h
      cases hv
      exact .of_fontFrame (s.vacate_fontFrame _ _)
    · cases h
  · exact State.clearPathTaken_keeps h
  · cases h; exact .of_inner_eq (by simp) (by simp)
  · cases h; exact .of_inner_eq (by simp) (by simp)
  · cases h; exact .of_inner_eq (by simp) (by simp)
  · exact .of_inner_eq (State.ringResetTaken_inner h)
      (by obtain ⟨-, hv⟩ := Option.ite_none_right_eq_some.1 h; cases hv; simp)
  · cases h; exact .of_workFrame (s.mark_workFrame _)
  · cases h

theorem State.interventionWritten_keeps (s : State) (c : HostCycle) : Keeps s (s.interventionWritten c) := by
  unfold State.interventionWritten
  split
  next t ht => exact (State.intervene_keeps ht).trans (t.hostStore_keeps _ _ _)
  next => exact s.hostStore_keeps _ _ _

theorem State.hostNow_keeps (s : State) (c : HostCycle) : Keeps s (s.hostNow c) := by
  unfold State.hostNow
  split
  · exact s.ringWrite_keeps c
  split
  · exact (Keeps.flags s _).trans (State.hostStore_keeps _ _ _ _)
  split
  · exact (Keeps.mask s _).trans (State.hostStore_keeps _ _ _ _)
  split
  · exact s.interventionWritten_keeps c
  · exact (s.hostStore_keeps _ _ _).trans (State.disturb_keeps _ _)

theorem State.hostCycles_keeps : ∀ (l : List HostCycle) (s : State), Keeps s (State.hostCycles l s)
  | [], s => ⟨id, id, id, rfl, id⟩
  | c :: l, s => by
    unfold State.hostCycles
    split
    · exact ⟨id, id, id, rfl, id⟩
    · exact ((Keeps.hold s _ _ l).trans (State.hostNow_keeps _ c)).trans
        (State.hostCycles_keeps l _)

theorem State.makeRequests_keeps (s : State) : Keeps s s.makeRequests := by
  rw [State.makeRequests_eq]
  exact ⟨id, id, id, rfl, id⟩

theorem State.settle_keeps (s : State) : Keeps s s.settle := by
  refine (s.makeRequests_keeps.trans ?_).trans (State.makeRequests_keeps _)
  unfold State.serveHost
  split
  · exact State.hostCycles_keeps _ _
  · exact .refl _

theorem State.done_keeps {s t u : State} (hu : Keeps s u) (h : u.done = .next t) : Keeps s t := by
  cases h
  exact hu.trans u.settle_keeps

/-- A command keeps what its event keeps. -/
theorem State.answer_keeps {s t : State} {o : Option State} (ho : ∀ u, o = some u → Keeps s u)
    (h : s.answer o = .next t) : Keeps s t := by
  cases o with
  | none => cases h; exact .refl s
  | some u => exact State.done_keeps (ho u rfl) h

theorem State.hostCommand_keeps {s t : State} {off : Nat} {w : Word} {b : BusResult}
    (h : s.hostCommand off w b = .next t) : Keeps s t := by
  unfold State.hostCommand at h
  split at h
  · refine State.done_keeps ?_ h
    unfold State.hostWrite
    split
    · exact s.hostNow_keeps _
    · exact ⟨id, id, id, rfl, id⟩
  · cases h

/-! ### Power-on and the ends of a hold -/

theorem State.memoryAtPowerOn_keeps (s : State) : Keeps s s.memoryAtPowerOn := by
  have hcut : Keeps s (match s.inProgress with
      | some (_, q) => if q.kind = CycleKind.spool ∨ q.kind = CycleKind.status then s.writeFaulted q.offset else s
      | none => s) := by
    split
    · split
      · exact s.hostStore_keeps _ 0 .fault
      · exact .refl s
    · exact .refl s
  unfold State.memoryAtPowerOn
  dsimp only
  split
  · exact hcut.trans (State.hostStore_keeps _ _ _ _)
  · exact hcut

theorem State.powerOn_keeps (s : State) : Keeps s s.powerOn where
  mem h := s.memoryAtPowerOn_keeps.mem h
  film _ := rfl
  queue _ := by simp [State.powerOn, QueueInv, State.reset]
  pending := s.memoryAtPowerOn_keeps.pending
  status _ := rfl

theorem State.onRelease_keeps {s t : State} (h : s.onRelease = some t) : Keeps s t := by
  unfold State.onRelease at h
  split at h
  next c _ =>
    obtain ⟨-, hv⟩ := Option.ite_none_right_eq_some.1 h
    cases hv
    exact (Keeps.hold s none _ _).trans (State.hostNow_keeps _ c)
  next => cases h

theorem State.overrunOutside_keeps (s : State) : Keeps s s.overrunOutside :=
  .of_workFrame ((WorkFrame.composer s _).trans (State.setComposer_workFrame _ _))

theorem State.overrun_keeps (s : State) (c : HostCycle) : Keeps s (s.overrun c) := by
  have hstore := (Keeps.hold s none .idle s.port.hostQueue).trans (State.hostStore_keeps _ c.offset c.data c.bus)
  have hring (u : State) (i : Intake) (l : List Nat) :
      Keeps u ((State.giveUpRequest { u with intake := i } .intake).mark l) := .of_inner_eq (by simp) (by simp)
  have habort (u : State) : Keeps u (if u.intake.job.inProgress then u.jobAbort .overrun else u.overrunOutside) := by
    split
    exacts [u.jobAbort_keeps _, u.overrunOutside_keeps]
  unfold State.overrun
  generalize State.hostStore _ c.offset c.data c.bus = u at hstore ⊢
  exact (hstore.trans ((hring u _ _).trans (habort _))).trans (.of_workFrame (State.raise_workFrame _ _))

theorem State.onHoldExpiry_keeps {s t : State} (h : s.onHoldExpiry = some t) : Keeps s t := by
  unfold State.onHoldExpiry at h
  split at h
  next c _ =>
    obtain ⟨-, hv⟩ := Option.ite_none_right_eq_some.1 h
    cases hv
    exact s.overrun_keeps c
  next => cases h

/-! ### The ends of part cycles -/

theorem State.endCycle_keeps (s : State) (r : Requester) : Keeps s (s.endCycle r) := ⟨id, id, id, rfl, id⟩

theorem State.onCycle_keeps {s t : State} {k : CycleKind} {f : State → CycleRequest → State}
    (hf : ∀ u q, Keeps u (f u q)) (h : s.onCycle k f = some t) : Keeps s t := by
  unfold State.onCycle at h
  split at h
  next r q _ =>
    obtain ⟨-, hv⟩ := Option.ite_none_right_eq_some.1 h
    cases hv
    have hw : Keeps s (if q.kind = .spool then (s.endCycle r).write q.offset q.data else s.endCycle r) := by
      split
      · exact (s.endCycle_keeps r).trans (State.hostStore_keeps _ _ _ .good)
      · exact s.endCycle_keeps r
    split
    · exact hw
    · exact hw.trans (hf _ q)
  next => cases h

theorem State.advancePass_keeps (s : State) : Keeps s s.advancePass := .of_inner_eq (by simp) (by simp)

theorem State.logFault_keeps (s : State) (r : Requester) (off : Nat) : Keeps s (s.logFault r off) := by
  refine Keeps.trans (t := { s with port.lastFault := s.port.lastFault.set r off, port.disabled := _ })
    ⟨id, id, id, rfl, fun h => ?_⟩ (.of_workFrame ((State.mark_workFrame _ _).trans (State.raise_workFrame _ _)))
  cases r <;> exact h

@[simp] theorem State.spoolFault_inner (s : State) : s.spoolFault.inner = s.inner := by
  unfold State.spoolFault
  dsimp only
  (repeat' split) <;> simp

theorem State.ownerFault_keeps (s : State) (r : Requester) (q : CycleRequest) : Keeps s (s.ownerFault r q) := by
  cases r with
  | intake => exact .refl s
  | library =>
    unfold State.ownerFault
    dsimp only
    split
    · exact .of_fontFrame (s.refuseFetch_fontFrame _ _)
    · exact .refl s
  | drain => exact ⟨id, id, id, rfl, id⟩
  | spool =>
    exact (s.hostStore_keeps q.offset 0 .fault).trans
      (.of_inner_le (State.spoolFault_inner _) (State.spoolFault_queue_le _))
  | status =>
    exact ((s.hostStore_keeps q.offset 0 .fault).trans (.of_workFrame (State.mark_workFrame _ _))).trans (State.advancePass_keeps _)

theorem State.onFault_keeps {s t : State} (h : s.onFault = some t) : Keeps s t := by
  obtain ⟨⟨r, q⟩, -, rfl⟩ := Option.map_eq_some_iff.1 h
  exact ((s.endCycle_keeps r).trans (State.logFault_keeps _ _ _)).trans (State.ownerFault_keeps _ _ _)

/-! ### The copy -/

theorem State.consume_keeps (s : State) (w : Word) : Keeps s (s.consume w) := by
  refine .of_inner_eq (by simp) ?_
  unfold State.consume State.rollSum
  dsimp only
  (repeat' split) <;> rfl

theorem State.onWord_keeps {s t : State} {r : CopyRow} {f : State → Word → Nat → State}
    (hf : ∀ u w off, Keeps u (f u w off)) (h : s.onWord r f = some t) : Keeps s t := by
  obtain ⟨w, -, rfl⟩ := Option.map_eq_some_iff.1 h
  exact (s.consume_keeps w).trans (hf _ _ _)

theorem State.onCommand_keeps {s t : State} {c : Cmd} {f : State → Command → State} (hf : ∀ u d, Keeps u (f u d))
    (h : s.onCommand c f = some t) : Keeps s t := by
  obtain ⟨w, -, rfl⟩ := Option.map_eq_some_iff.1 h
  exact ((s.consume_keeps w).trans (Keeps.intake _ _)).trans (hf _ _)

theorem State.copyError_keeps (s : State) (k : CopyError) (off : Nat) : Keeps s (s.copyError k off) :=
  .of_workFrame (s.copyError_workFrame k off)

theorem State.textWord_keeps {f : State → State} (hf : ∀ u, Keeps u (f u)) (s : State) (off : Nat) :
    Keeps s (s.textWord off f) := by
  unfold State.textWord
  split
  · split
    · exact .refl s
    · exact Keeps.trans (t := { s with intake.textRun := true }) ⟨id, id, id, rfl, id⟩ (State.copyError_keeps _ _ _)
  · exact .refl s
  · exact hf s

theorem State.jobCommand_keeps {f : State → State} (hf : ∀ u, Keeps u (f u)) (s : State) (d : Command) :
    Keeps s (s.jobCommand d f) := by
  unfold State.jobCommand
  split
  · exact s.copyError_keeps _ _
  · exact .refl s
  · exact hf s

theorem State.standingCommand_keeps {f : State → State} (hf : ∀ u, Keeps u (f u)) (s : State) :
    Keeps s (s.standingCommand f) := by
  unfold State.standingCommand
  split
  exacts [.refl s, hf s]

theorem State.work_keeps (s : State) (l : List Task) : Keeps s (s.work l) :=
  .of_inner (s.work_inner l) (fun h => State.work_queueInv h l)

theorem State.badOperand_keeps (s : State) (d : Command) : Keeps s (s.badOperand d) := s.copyError_keeps _ _

theorem State.recordPoint_keeps (s : State) : Keeps s s.recordPoint := by
  unfold State.recordPoint
  split
  exacts [⟨id, id, id, rfl, id⟩, .refl s]

theorem State.copyErrorUnlessDiscarding_keeps (s : State) (k : CopyError) (off : Nat) :
    Keeps s (s.copyErrorUnlessDiscarding k off) := by
  unfold State.copyErrorUnlessDiscarding
  split
  exacts [.refl s, s.copyError_keeps k off]

theorem State.jobEffect_keeps (s : State) (d : Command) : Keeps s (s.jobEffect d) := by
  have hroll (u : State) (w : Word) : Keeps u (u.rollSum w) := .of_inner_eq (u.rollSum_inner w) (by
    unfold State.rollSum
    split <;> rfl)
  unfold State.jobEffect
  split
  · exact .refl s
  split
  · exact ((hroll s _).trans (hroll _ _)).trans (State.badOperand_keeps _ _)
  · split <;> exact s.work_keeps _

theorem State.measureEffect_keeps (s : State) (d : Command) : Keeps s (s.measureEffect d) := by
  refine .of_inner_eq (by simp) ?_
  unfold State.measureEffect State.badOperand
  dsimp only
  (repeat' split) <;> simp

theorem State.leadEffect_keeps (s : State) (d : Command) : Keeps s (s.leadEffect d) := by
  refine .of_inner_eq (by simp) ?_
  unfold State.leadEffect
  dsimp only
  split <;> simp

theorem State.fontEffect_keeps (s : State) (d : Command) : Keeps s (s.fontEffect d) := by
  unfold State.fontEffect
  dsimp only
  split
  · split
    · exact ⟨id, id, id, rfl, id⟩
    · exact .of_workFrame (s.enterFontWait_workFrame _ _ _)
    · exact .of_workFrame ((s.callFont_workFrame _ _).trans (State.enterFontWait_workFrame _ _ _ _))
    · exact .of_workFrame (s.enterFontWait_workFrame _ _ _)
    · exact ⟨id, id, id, rfl, id⟩
  · exact s.badOperand_keeps d

theorem State.sizeEffect_keeps (s : State) (d : Command) : Keeps s (s.sizeEffect d) := by
  unfold State.sizeEffect
  split
  exacts [s.badOperand_keeps d, ⟨id, id, id, rfl, id⟩]

theorem State.quadEffect_keeps (s : State) (d : Command) : Keeps s (s.quadEffect d) := by
  unfold State.quadEffect
  split
  exacts [s.work_keeps _, s.badOperand_keeps d]

theorem State.fixspaceEffect_keeps (s : State) (d : Command) : Keeps s (s.fixspaceEffect d) := by
  unfold State.fixspaceEffect
  split
  exacts [s.work_keeps _, s.badOperand_keeps d]

theorem State.hyphEffect_keeps (s : State) (d : Command) : Keeps s (s.hyphEffect d) := by
  refine .of_inner_eq (by simp) ?_
  unfold State.hyphEffect
  dsimp only
  split <;> simp

theorem State.exceptEffect_keeps (s : State) (d : Command) : Keeps s (s.exceptEffect d) := by
  refine .of_inner_eq (by simp) ?_
  unfold State.exceptEffect State.addException State.badOperand
  dsimp only
  (repeat' split) <;> simp

theorem State.unexceptEffect_keeps (s : State) (d : Command) : Keeps s (s.unexceptEffect d) := by
  refine .of_inner_eq (by simp) ?_
  unfold State.unexceptEffect State.badOperand
  dsimp only
  split <;> simp

theorem State.lensesEffect_keeps (s : State) (d : Command) : Keeps s (s.lensesEffect d) := by
  unfold State.lensesEffect
  dsimp only
  split
  · exact s.copyError_keeps _ _
  split
  · exact ⟨id, id, id, rfl, id⟩
  · exact s.badOperand_keeps d

theorem State.mountEffect_keeps (s : State) (d : Command) : Keeps s (s.mountEffect d) := by
  unfold State.mountEffect
  dsimp only
  (repeat' split)
  exacts [s.copyError_keeps _ _, .of_fontFrame (s.mountAt_fontFrame _ _ _ _), s.badOperand_keeps d,
    s.badOperand_keeps d]

theorem State.releaseEffect_keeps (s : State) (d : Command) : Keeps s (s.releaseEffect d) := by
  unfold State.releaseEffect
  (repeat' split)
  exacts [s.copyError_keeps _ _, .of_fontFrame (s.emptyPosition_fontFrame _), s.badOperand_keeps d]

theorem State.moveEffect_keeps (s : State) (d : Command) (sign : Int) : Keeps s (s.moveEffect d sign) := by
  have hclamped : Keeps s (if moveLimit < d.operand.toNat then s.flagClamped else s) :=
    .of_inner_eq (by split <;> simp) (by split <;> simp)
  unfold State.moveEffect
  dsimp only
  split
  exacts [s.badOperand_keeps d, hclamped.trans (State.work_keeps _ _)]

theorem State.proofEffect_keeps (s : State) (d : Command) : Keeps s (s.proofEffect d) := by
  unfold State.proofEffect
  split
  exacts [.of_inner_eq (by simp) (by simp), s.badOperand_keeps d]

theorem State.displayEffect_keeps (s : State) (d : Command) : Keeps s (s.displayEffect d) := by
  unfold State.displayEffect
  split
  exacts [s.badOperand_keeps d, .of_inner_eq (by simp) (by simp)]

theorem length_addMarkToLast (v : Word) (l : List Entry) : (addMarkToLast v l).length = l.length := by
  fun_induction addMarkToLast v l <;> simp_all

theorem State.markEffect_keeps (s : State) (d : Command) : Keeps s (s.markEffect d) := by
  unfold State.markEffect
  split
  · refine .of_inner_le (by simp) (le_of_eq ?_)
    unfold State.markOutside
    (repeat' split) <;> simp [length_addMarkToLast]
  split
  · exact ⟨id, id, id, rfl, id⟩
  · exact s.work_keeps _

/-! ### Waits -/

theorem State.endFontWait_keeps (s : State) (w : FontWait) : Keeps s (s.endFontWait w) := by
  refine .of_inner (s.endFontWait_inner w) fun h => ?_
  unfold State.endFontWait
  have hset : QueueInv (State.setComposer { s with composer.fontWait := none }
      (if w.inLookahead then .lookahead else .setting)) := by simpa [QueueInv] using h
  dsimp only
  split
  exacts [State.work_queueInv hset _, State.runTasks_queueInv hset]

theorem State.waitSelects_keeps (s : State) (w : FontWait) (p : Fin 8) : Keeps s (s.waitSelects w p) :=
  (Keeps.of_workFrame (WorkFrame.composer s _)).trans (State.endFontWait_keeps _ w)

theorem State.waitSubstitutes_keeps (s : State) (w : FontWait) : Keeps s (s.waitSubstitutes w) :=
  (Keeps.of_workFrame (WorkFrame.composer s _)).trans (State.endFontWait_keeps _ w)

theorem State.acceptHeld_keeps {s : State} (hroom : s.queueRoom = true) (k : EntryKind) : Keeps s (s.acceptHeld k) := by
  have haccepted : QueueInv (State.acceptEntry { s with composer.held := none } k) :=
    State.acceptEntry_queueInv (s := { s with composer.held := none }) hroom k
  have hgoes : QueueInv ((State.acceptEntry { s with composer.held := none } k).setComposer s.baseState) := by
    rwa [QueueInv, State.setComposer_queue]
  exact .of_inner (s.acceptHeld_inner k) fun _ => State.runTasks_queueInv hgoes

theorem State.onHeldEntry_keeps {s t : State} (h : s.onHeldEntry = some t) : Keeps s t := by
  unfold State.onHeldEntry at h
  split at h
  · obtain ⟨hroom, hv⟩ := Option.ite_none_right_eq_some.1 h
    exact Option.some.inj hv ▸ State.acceptHeld_keeps hroom _
  · cases h

theorem State.onHeldMark_keeps {s t : State} (h : s.onHeldMark = some t) : Keeps s t := by
  unfold State.onHeldMark at h
  split at h
  · obtain ⟨-, hv⟩ := Option.ite_none_right_eq_some.1 h
    cases hv
    exact .of_inner_eq (by simp) (by simp)
  · cases h

theorem State.onFontWaitEnd_keeps {s t : State} (h : s.onFontWaitEnd = some t) : Keeps s t := by
  unfold State.onFontWaitEnd at h
  split at h
  · split at h
    · cases h
      split
      exacts [s.waitSelects_keeps _ _, s.waitSubstitutes_keeps _]
    · cases h
  · cases h

theorem State.rerunResolution_keeps (s : State) (w : FontWait) : Keeps s (s.rerunResolution w) := by
  unfold State.rerunResolution
  split
  · exact s.waitSelects_keeps _ _
  · exact ⟨id, id, id, rfl, id⟩
  · exact (Keeps.of_fontFrame (s.callFont_fontFrame _ _)).trans ⟨id, id, id, rfl, id⟩
  · exact ⟨id, id, id, rfl, id⟩
  · exact s.waitSubstitutes_keeps _

theorem State.onPositionRerun_keeps {s t : State} (h : s.onPositionRerun = some t) : Keeps s t := by
  unfold State.onPositionRerun at h
  split at h
  · split at h
    · cases h; exact s.rerunResolution_keeps _
    · cases h
  · cases h

theorem State.onCallTimer_keeps {s t : State} {p : Fin 8} (h : s.onCallTimer p = some t) : Keeps s t := by
  obtain ⟨-, hv⟩ := Option.ite_none_right_eq_some.1 h
  cases hv
  refine .of_fontFrame ?_
  split
  · exact s.repeatCall_fontFrame p _
  split
  · exact s.repeatCall_fontFrame p _
  · exact (s.refusePosition_fontFrame p _).trans (State.endCall_fontFrame _ _)

/-! ### The photounit -/

theorem State.onCompletion_keeps {s t : State} (h : s.onCompletion = some t) : Keeps s t := by
  unfold State.onCompletion at h
  split at h
  next m _ =>
    cases h
    have ha := s.confirmManual_account m
    refine .of_outer (congrArg Account.outer ha) (fun hf => ?_) (s.confirmManual_queue_le m).trans
    have hfilm : (s.confirmManual m).seq.film = m.motion.apply s.seq.film := congrArg Account.film ha
    exact (congrArg Film.conserved hfilm).mpr (ManualMotion.apply_conserved hf m.motion)
  next =>
    obtain ⟨o, -, rfl⟩ := Option.map_eq_some_iff.1 h
    have ha : (s.confirm o).starts.account = { outer := s.outer, film := o.apply s.seq.film } :=
      (State.starts_account _).trans (s.confirm_account o)
    refine .of_outer (congrArg Account.outer ha) (fun hf => ?_)
      ((State.starts_queue_le _).trans (s.confirm_queue_le o)).trans
    have hfilm : (s.confirm o).starts.seq.film = o.apply s.seq.film := congrArg Account.film ha
    exact (congrArg Film.conserved hfilm).mpr (Order.apply_conserved hf o)

theorem State.onDeadline_keeps {s t : State} (h : s.onDeadline = some t) : Keeps s t := by
  obtain ⟨o, -, rfl⟩ := Option.map_eq_some_iff.1 h
  split
  exacts [⟨id, id, id, rfl, id⟩, .of_account (by simp) (by simp)]

theorem State.onManualDeadline_keeps {s t : State} (h : s.onManualDeadline = some t) : Keeps s t := by
  obtain ⟨m, -, rfl⟩ := Option.map_eq_some_iff.1 h
  split
  exacts [⟨id, id, id, rfl, id⟩, .of_account (by simp) (s.abandonManual_queue_le m)]

theorem State.flashSeen_keeps (s : State) : Keeps s s.flashSeen :=
  .of_account (by simp [State.flashSeen]) ((State.starts_queue_le _).trans (State.takeUpFrom_queue_le _ _))

theorem State.flashMiss_keeps (s : State) : Keeps s s.flashMiss := by
  unfold State.flashMiss
  split
  exacts [⟨id, id, id, rfl, id⟩, .of_account (by simp) (by simp)]

/-! ### The panel -/

theorem State.refuse_keeps (s : State) (r : ReasonWord) : Keeps s (s.refuse r) := .of_workFrame rfl

theorem State.returnToCopy_keeps (s : State) : Keeps s s.returnToCopy := by
  refine .of_account ?_ ((State.goOn_queue_le _).trans (by split <;> simp))
  unfold State.returnToCopy
  rw [State.goOn_account]
  split
  exacts [account_of_inner (s.ownBy_inner _), s.setOwnership_account _]

theorem State.filmMessage_keeps {s t : State} (ht : Keeps s t) (b : Bool) : Keeps s (s.filmMessage b t) := by
  unfold State.filmMessage
  (repeat' split)
  exacts [s.refuse_keeps _, s.refuse_keeps _, s.refuse_keeps _, ht]

theorem State.manualMove_keeps (s : State) (t : Int) : Keeps s (s.manualMove t) := by
  have hsend (m : ManualMotion) : Keeps s (s.sendManual m) := .of_account (by simp) (by simp)
  unfold State.manualMove
  dsimp only
  (repeat' split)
  exacts [s.refuse_keeps _, hsend _, hsend _, .of_workFrame rfl]

theorem State.filmLoaded_keeps (s : State) (x : Nat) : Keeps s (s.setFilm (Film.load x)).display :=
  ⟨id, fun _ => Film.load_conserved x, id, rfl, id⟩

theorem State.messageReport_keeps (s : State) (l : List Nat) : Keeps s (s.messageReport l) := by
  unfold State.messageReport
  split
  exacts [.of_inner_eq (by simp) (by simp), s.refuse_keeps _]

/-! ### Every command -/

/-- Every command keeps the bank's form, the film's balance, the queue's bound, the waiting commands and STATUS. -/
theorem exec_keeps {c : Instr} {s t : State} (h : exec c s = .next t) : Keeps s t := by
  have hcopy {r} {f : State → Nat → State} (hf : ∀ (u : State) (off : Nat), Keeps u (f u off))
      (h : s.answer (s.onWord r (fun u _ off => f u off)) = .next t) : Keeps s t :=
    State.answer_keeps (fun _ => State.onWord_keeps fun u _ off => hf u off) h
  have hjob {c} {f : State → Command → State} (hf : ∀ u d, Keeps u (f u d))
      (h : s.answer (s.onCommand c (fun u d => u.jobCommand d (fun v => f v d))) = .next t) : Keeps s t :=
    State.answer_keeps (fun _ => State.onCommand_keeps fun u d => u.jobCommand_keeps (hf · d) d) h
  have hstanding {c} {f : State → Command → State} (hf : ∀ u d, Keeps u (f u d))
      (h : s.answer (s.onCommand c (fun u d => u.standingCommand (fun v => f v d))) = .next t) : Keeps s t :=
    State.answer_keeps (fun _ => State.onCommand_keeps fun u d => u.standingCommand_keeps (hf · d)) h
  have hif {p : Prop} [Decidable p] {u : State} (hu : Keeps s u) (h : s.answer (if p then some u else none) = .next t) :
      Keeps s t :=
    State.answer_keeps (fun v hv => by obtain ⟨-, hv⟩ := Option.ite_none_right_eq_some.1 hv; cases hv; exact hu) h
  cases c with
  | powerOn => exact State.done_keeps s.powerOn_keeps h
  | holdRelease => exact State.answer_keeps (fun _ => State.onRelease_keeps) h
  | holdLimitExpiry => exact State.answer_keeps (fun _ => State.onHoldExpiry_keeps) h
  | hostRingWrite | hostWrite => exact State.hostCommand_keeps h
  | flagCellWrite => exact State.hostCommand_keeps (off := flagCell) h
  | maskCellWrite => exact State.hostCommand_keeps (off := maskCell) h
  | unknownIntervention | abortJob | withdraw | clearPath | inboxTaken | captureTaken | returnRequest | ringReset
  | repost => exact State.hostCommand_keeps (off := interventionCell) h
  | arbiterGrant =>
    refine State.answer_keeps (fun u hu => ?_) h
    obtain ⟨-, hu⟩ := Option.ite_none_right_eq_some.1 hu
    obtain ⟨r, -, rfl⟩ := Option.map_eq_some_iff.1 hu
    exact ⟨id, id, id, rfl, id⟩
  | refetchRead => exact State.answer_keeps (fun _ => State.onCycle_keeps fun u q => (Keeps.taken u _ _)) h
  | librarySearchRead =>
    exact State.answer_keeps (fun _ => State.onCycle_keeps fun u q => .of_fontFrame (u.searched_fontFrame q)) h
  | libraryRecordRead =>
    exact State.answer_keeps (fun _ => State.onCycle_keeps fun u q => .of_fontFrame (u.recordWordRead_fontFrame q)) h
  | drainRead =>
    exact State.answer_keeps (fun _ => State.onCycle_keeps fun u q => .of_inner_eq (by simp) (by simp)) h
  | spoolWrite =>
    exact State.answer_keeps (fun _ => State.onCycle_keeps fun u q =>
      .of_inner_le (by simp) u.spoolWritten_queue_le) h
  | statusWrite =>
    exact State.answer_keeps (fun _ => State.onCycle_keeps fun u q =>
      (u.hostStore_keeps _ _ .good).trans (State.advancePass_keeps _)) h
  | bankFault => exact State.answer_keeps (fun _ => State.onFault_keeps) h
  | postingPassBegin => exact hif (u := s.beginPass) (.of_inner_eq (by simp) rfl) h
  | filler => exact hcopy (fun u _ => .refl u) h
  | discretionaryHyphen => exact hcopy (fun u off => u.textWord_keeps State.recordPoint_keeps off) h
  | tie => exact hcopy (fun u off => u.textWord_keeps (fun v => v.work_keeps _) off) h
  | interwordSpace => exact hcopy (fun u off => u.textWord_keeps (fun v => v.work_keeps _) off) h
  | character =>
    exact State.answer_keeps (fun _ => State.onWord_keeps fun u w off => u.textWord_keeps (fun v => v.work_keeps _) off) h
  | invalidCode => exact hcopy (fun u off => u.copyErrorUnlessDiscarding_keeps _ off) h
  | unknownCommand =>
    exact hcopy (fun u off => (Keeps.intake u _).trans
      (State.copyErrorUnlessDiscarding_keeps _ _ off)) h
  | operandWord => exact State.answer_keeps (fun _ => State.onWord_keeps fun u w _ => Keeps.intake u _) h
  | commandWord =>
    refine State.answer_keeps (fun u hu => ?_) h
    split at hu
    · exact State.onWord_keeps (fun u w off => Keeps.intake u _) hu
    · cases hu
  | job => exact State.answer_keeps (fun _ => State.onCommand_keeps State.jobEffect_keeps) h
  | endjob => exact hjob (fun u d => u.work_keeps _) h
  | measure => exact hjob State.measureEffect_keeps h
  | lead => exact hjob State.leadEffect_keeps h
  | font => exact hjob State.fontEffect_keeps h
  | size => exact hjob State.sizeEffect_keeps h
  | quad => exact hjob State.quadEffect_keeps h
  | fixspace => exact hjob State.fixspaceEffect_keeps h
  | hyph => exact hstanding State.hyphEffect_keeps h
  | exceptWord => exact hstanding State.exceptEffect_keeps h
  | unexcept => exact hstanding State.unexceptEffect_keeps h
  | lenses => exact hstanding State.lensesEffect_keeps h
  | mount => exact hstanding State.mountEffect_keeps h
  | release => exact hstanding State.releaseEffect_keeps h
  | advance => exact hstanding (fun u d => u.moveEffect_keeps d 1) h
  | reverse => exact hstanding (fun u d => u.moveEffect_keeps d (-1)) h
  | cut => exact hstanding (fun u _ => u.work_keeps _) h
  | proofMode => exact hstanding State.proofEffect_keeps h
  | display => exact hstanding State.displayEffect_keeps h
  | mark => exact hstanding State.markEffect_keeps h
  | heldEntryAccepted => exact State.answer_keeps (fun _ => State.onHeldEntry_keeps) h
  | markWaitEnd => exact State.answer_keeps (fun _ => State.onHeldMark_keeps) h
  | fontWaitEnd => exact State.answer_keeps (fun _ => State.onFontWaitEnd_keeps) h
  | fontPositionRerun => exact State.answer_keeps (fun _ => State.onPositionRerun_keeps) h
  | callTimerExpiry p => exact State.answer_keeps (fun _ => State.onCallTimer_keeps) h
  | entryStart => exact hif (.of_account (by simp) s.starts_queue_le) h
  | motionComplete => exact State.answer_keeps (fun _ => State.onCompletion_keeps) h
  | motionDeadlineExpiry => exact State.answer_keeps (fun _ => State.onDeadline_keeps) h
  | flashSeen => exact hif s.flashSeen_keeps h
  | flashMissed => exact hif s.flashMiss_keeps h
  | flashTimeout => exact hif s.flashMiss_keeps h
  | manualDeadlineExpiry => exact State.answer_keeps (fun _ => State.onManualDeadline_keeps) h
  | take => exact hif (.of_inner_eq (by simp) (by simp)) h
  | returnMachine =>
    refine State.done_keeps ?_ h
    split
    exacts [s.returnToCopy_keeps, s.refuse_keeps _]
  | mounted p n =>
    refine State.done_keeps ?_ h
    (repeat' split)
    exacts [.of_fontFrame (s.mountedReport_fontFrame _ _), s.refuse_keeps _, s.refuse_keeps _]
  | emptied p =>
    refine State.done_keeps ?_ h
    (repeat' split)
    exacts [s.refuse_keeps _, .of_fontFrame (s.emptyPosition_fontFrame _), s.refuse_keeps _]
  | decline p =>
    refine State.done_keeps ?_ h
    (repeat' split)
    exacts [.of_fontFrame ((s.refusePosition_fontFrame _ _).trans (State.endCall_fontFrame _ _)), s.refuse_keeps _,
      s.refuse_keeps _]
  | filmLoaded x => exact State.done_keeps (State.filmMessage_keeps (s.filmLoaded_keeps x) _) h
  | panelAdvance x => exact State.done_keeps (State.filmMessage_keeps (s.manualMove_keeps x) _) h
  | panelCut => exact State.done_keeps (State.filmMessage_keeps (.of_account (by simp) (by simp)) _) h
  | cancel =>
    refine State.done_keeps ?_ h
    split
    exacts [s.jobAbort_keeps _, s.refuse_keeps _]
  | message l =>
    refine State.done_keeps ?_ h
    split
    exacts [s.messageReport_keeps l, s.refuse_keeps _]
  | unknownPanelMessage => exact State.done_keeps (s.refuse_keeps _) h
  | panelMessageSent => exact State.done_keeps (Keeps.panel s _) h
  | proofBeginEntry =>
    refine State.answer_keeps (fun u hu => ?_) h
    obtain ⟨e, -, rfl⟩ := Option.map_eq_some_iff.1 hu
    refine .of_inner_le ?_ (s.beginProof_queue_le e)
    unfold State.beginProof
    dsimp only
    split <;> simp
  | printerAcknowledge => exact hif (.of_inner_eq (by simp) (by simp)) h
  | printerStatusChange b p =>
    refine State.done_keeps ?_ h
    split <;> exact ⟨id, id, id, rfl, id⟩
  | printerStalled => exact hif (.of_inner_eq (by simp) (by simp)) h

/-- A step keeps them of the queue's front command. -/
theorem step_keeps {s t : State} (h : step s = .next t) :
    (MemoryInv s → MemoryInv t) ∧ (FilmInv s → FilmInv t) ∧ (QueueInv s → QueueInv t) := by
  unfold step at h
  split at h
  · cases h; exact ⟨id, id, id⟩
  · have hk := exec_keeps h
    exact ⟨hk.mem, hk.film, hk.queue⟩

/-- Settles O6: every event that writes the bank does so by `writeMem`. -/
theorem memoryCanonicalKept : Obligations.MemoryCanonicalKept := fun _ _ hs h => (step_keeps h).1 hs

/-- Settles O7: the film account changes only by a confirmed motion and by FILM LOADED. -/
theorem filmConservedKept : Obligations.FilmConservedKept := fun _ _ hs h => (step_keeps h).2.1 hs

/-- Settles O8: only an accepted entry makes the queue longer, and it is accepted when there is room. -/
theorem queueBoundKept : Obligations.QueueBoundKept := fun _ _ hs h => (step_keeps h).2.2 hs

/-- Settles O9: the same frame, read at the waiting commands and at STATUS. -/
theorem waitingCommandsAndStatusKept : Obligations.WaitingCommandsAndStatusKept := fun _ _ _ h =>
  ⟨(exec_keeps h).pending, (exec_keeps h).status⟩

/-! ### Every command answers -/

theorem State.answer_next (s : State) (o : Option State) : ∃ t, s.answer o = .next t := by
  cases o <;> exact ⟨_, rfl⟩

theorem State.hostCommand_next (s : State) {off : Nat} (w : Word) (b : BusResult) (h : off < bankWords) :
    ∃ t, s.hostCommand off w b = .next t := ⟨_, if_pos h⟩

/-- Settles O10: a host write tests its offset, and every other command answers whatever the state. -/
theorem everyCommandAnswers : Obligations.EveryCommandAnswers := by
  refine ⟨fun s off data bus hoff => ?_, fun c s hoff => ?_⟩
  · have hfault : s.hostCommand off data bus = .fault (.offBank off) := if_neg (Nat.not_lt.2 hoff)
    exact ⟨hfault, hfault⟩
  · cases c with
    | hostRingWrite off data bus => exact s.hostCommand_next data bus (hoff off data bus (.inl rfl))
    | hostWrite off data bus => exact s.hostCommand_next data bus (hoff off data bus (.inr rfl))
    | flagCellWrite => exact s.hostCommand_next (off := flagCell) _ _ (by decide)
    | maskCellWrite => exact s.hostCommand_next (off := maskCell) _ _ (by decide)
    | unknownIntervention | abortJob | withdraw | clearPath | inboxTaken | captureTaken | returnRequest | ringReset
    | repost => exact s.hostCommand_next (off := interventionCell) _ _ (by decide)
    | powerOn | returnMachine | mounted | emptied | decline | filmLoaded | panelAdvance | panelCut | cancel | message
    | unknownPanelMessage | panelMessageSent | printerStatusChange => exact ⟨_, rfl⟩
    | _ => exact s.answer_next _

end Sys2Proof.Machine
end

section
/-! PROOFS. The host cycles that wait (R168): no event reads them or writes them before the bank serves them, so an event
made with cycles waiting is the event made without, with the same cycles waiting behind it. -/

namespace Sys2Proof.Machine

/-- The state `s` with the host cycles `l` waiting. -/
def State.withHost (s : State) (l : List HostCycle) : State := { s with port.hostQueue := l }

/-- An operation neither reads nor writes the host cycles that wait. -/
def HostBlind (f : State → State) : Prop := ∀ s l, f (s.withHost l) = (f s).withHost l

namespace HostBlind

theorem id : HostBlind (fun s => s) := fun _ _ => rfl

theorem comp {f g : State → State} (hf : HostBlind f) (hg : HostBlind g) : HostBlind (fun s => g (f s)) :=
  fun s l => (congrArg g (hf s l)).trans (hg (f s) l)

/-- What an operation is given may be read off the state, but for the cycles that wait. -/
theorem apply {α : Type} {f : α → State → State} (hf : ∀ a, HostBlind (f a)) (g : State → α)
    (hg : ∀ s l, g (s.withHost l) = g s) : HostBlind (fun s => f (g s) s) :=
  fun s l => (congrArg (f · (s.withHost l)) (hg s l)).trans (hf (g s) s l)

theorem ite {f g : State → State} (hf : HostBlind f) (hg : HostBlind g) (p : State → Prop) [DecidablePred p]
    (hp : ∀ s l, p (s.withHost l) ↔ p s) : HostBlind (fun s => if p s then f s else g s) := by
  intro s l
  simp only [hp]
  split
  exacts [hf s l, hg s l]

theorem foldl {α : Type} {f : State → α → State} (hf : ∀ a, HostBlind (f · a)) (l : List α) :
    HostBlind (fun s => l.foldl f s) := by
  induction l with
  | nil => exact id
  | cons a l ih => exact comp (hf a) ih

end HostBlind

/-! ### Marks, flags, requests and messages -/

theorem markIf_hostBlind (b : Bool) (l : List Nat) : HostBlind (·.markIf b l) := by
  intro s h
  cases b <;> rfl

theorem raise_hostBlind (f : EventFlag) : HostBlind (·.raise f) :=
  HostBlind.ite .id (fun _ _ => rfl) (fun s => s.flagSet f = true) (fun _ _ => .rfl)

theorem giveUpRequest_hostBlind (r : Requester) : HostBlind (·.giveUpRequest r) := by
  intro s l
  unfold State.giveUpRequest State.withHost
  dsimp only
  split <;> rfl

theorem display_hostBlind : HostBlind (·.display) := fun _ _ => rfl

theorem toPanel_hostBlind (m : PanelMessage) : HostBlind (·.toPanel m) := fun _ _ => rfl

theorem alarmOnce_hostBlind : HostBlind (·.alarmOnce) :=
  HostBlind.ite (fun _ _ => rfl) .id (fun s => s.panel.alarm = .silent) (fun _ _ => .rfl)

theorem endCall_hostBlind (p : Fin 8) : HostBlind (·.endCall p) := by
  have hsilence : HostBlind (fun t => if t.panel.calls.isEmpty then
      State.toPanel { t with panel.alarm := .silent } (.alarm .silence) else t) :=
    HostBlind.ite (fun _ _ => rfl) .id (fun s => s.panel.calls.isEmpty = true) (fun _ _ => .rfl)
  intro s l
  unfold State.endCall
  simp only [show (s.withHost l).panel = s.panel from rfl]
  split
  · exact hsilence (State.display { s with
      panel.calls := s.panel.calls.filter (· ≠ p),
      panel.outbound := s.panel.outbound.filter (fun x => !x.isCallFor p) }) l
  · rfl

/-! ### Font Control -/

theorem setPosition_hostBlind (p : Fin 8) (e : Position) : HostBlind (·.setPosition p e) := by
  intro s l
  unfold State.setPosition State.withHost
  dsimp only
  split <;> rfl

theorem refusePosition_hostBlind (p : Fin 8) (r : Reason) : HostBlind (·.refusePosition p r) :=
  (HostBlind.apply (setPosition_hostBlind p) (fun s => s.font.table[p].refusedFor r) (fun _ _ => rfl)).comp
    (raise_hostBlind _)

theorem beginFetches_hostBlind : ∀ n, HostBlind (State.beginFetches n)
  | 0 => .id
  | n + 1 => by
    intro s l
    unfold State.beginFetches
    simp only [show (s.withHost l).font = s.font from rfl,
      show (s.withHost l).port.disabled = s.port.disabled from rfl]
    split
    next p rest _ _ =>
      split
      · exact ((refusePosition_hostBlind p .memoryError).comp (beginFetches_hostBlind n))
          { s with font.fetchList := rest } l
      · rfl
    next => rfl

theorem startFetches_hostBlind : HostBlind (·.startFetches) := beginFetches_hostBlind 9

theorem endFetch_hostBlind : HostBlind (·.endFetch) :=
  HostBlind.comp (f := fun s : State => { s with font.fetchList := s.font.fetchList.tail, font.fetch := none })
    (fun _ _ => rfl) startFetches_hostBlind

theorem refuseFetch_hostBlind (p : Fin 8) (r : Reason) : HostBlind (·.refuseFetch p r) :=
  (refusePosition_hostBlind p r).comp endFetch_hostBlind

theorem leaveFetchList_hostBlind (p : Fin 8) : HostBlind (·.leaveFetchList p) := by
  let left (s : State) : State := { s with font.fetchList := s.font.fetchList.filter (· ≠ p) }
  exact HostBlind.ite (f := fun s => (({ left s with font.fetch := none } : State).giveUpRequest .library).startFetches)
    (g := left)
    ((HostBlind.comp (f := fun s => { left s with font.fetch := none }) (fun _ _ => rfl)
      (giveUpRequest_hostBlind _)).comp startFetches_hostBlind)
    (fun _ _ => rfl) (fun s => (s.font.fetchList.head? == some p) = true) (fun _ _ => .rfl)

theorem leaveOldState_hostBlind (p : Fin 8) (old : PosState) : HostBlind (·.leaveOldState p old) := by
  cases old with
  | requested => exact endCall_hostBlind p
  | loading => exact leaveFetchList_hostBlind p
  | _ => exact .id

theorem vacate_hostBlind (p : Fin 8) (r : Option Reason) : HostBlind (·.vacate p r) := by
  intro s l
  have h (e : Position) (old : PosState) :=
    (((setPosition_hostBlind p e).comp (g := (·.dropWidths p)) (fun _ _ => rfl)).comp
      (leaveOldState_hostBlind p old)) s l
  exact h { Position.vacant with reason := r, inUse := s.font.table[p].inUse } s.font.table[p].state

theorem fetchSucceeds_hostBlind (p : Fin 8) (r : WidthRecord) : HostBlind (·.fetchSucceeds p r) := by
  intro s l
  have h (e : Position) :=
    ((HostBlind.comp (f := fun s : State => { s with font.widths := s.font.widths.set p (some r) }) (fun _ _ => rfl)
      (setPosition_hostBlind p e)).comp endFetch_hostBlind) s l
  exact h _

theorem searched_hostBlind (q : CycleRequest) : HostBlind (·.searched q) := by
  intro s l
  unfold State.searched
  simp only [show (s.withHost l).font = s.font from rfl, show (s.withHost l).fetching = s.fetching from rfl,
    show (s.withHost l).read q.offset = s.read q.offset from rfl]
  split
  · split
    · rfl
    split
    · rfl
    · exact refuseFetch_hostBlind _ _ s l
  · rfl

theorem recordWordRead_hostBlind (q : CycleRequest) : HostBlind (·.recordWordRead q) := by
  intro s l
  unfold State.recordWordRead
  simp only [show (s.withHost l).font = s.font from rfl, show (s.withHost l).fetching = s.fetching from rfl,
    show (s.withHost l).read q.offset = s.read q.offset from rfl]
  split
  · split
    · rfl
    split
    · exact refuseFetch_hostBlind _ _ s l
    · exact fetchSucceeds_hostBlind _ _ s l
  · rfl

theorem refreshInUse_hostBlind : HostBlind (·.refreshInUse) :=
  HostBlind.foldl (f := State.refreshInUseAt) (fun p => HostBlind.ite (g := fun s : State =>
      State.mark { s with font.table := s.font.table.set p { s.font.table[p] with inUse := s.inUseOf p } }
        [mirrorOffset p + 3]) .id (fun _ _ => rfl)
    (fun s => s.font.table[p].inUse = s.inUseOf p) (fun _ _ => .rfl)) _

/-! ### The Proof Unit -/

theorem setHalf_hostBlind (h : Half) (x : HalfState) : HostBlind (·.setHalf h x) := by
  cases h
  · exact HostBlind.apply (f := fun (b : Bool) (s : State) => State.markIf { s with proof.halfA := x } b [226])
      (fun b => HostBlind.comp (f := fun s : State => { s with proof.halfA := x }) (fun _ _ => rfl)
        (markIf_hostBlind b _)) (fun s => s.proof.halfA != x) (fun _ _ => rfl)
  · exact HostBlind.apply (f := fun (b : Bool) (s : State) => State.markIf { s with proof.halfB := x } b [227])
      (fun b => HostBlind.comp (f := fun s : State => { s with proof.halfB := x }) (fun _ _ => rfl)
        (markIf_hostBlind b _)) (fun s => s.proof.halfB != x) (fun _ _ => rfl)

theorem setWritePoint_hostBlind (p : SpoolPoint) : HostBlind (·.setWritePoint p) := by
  intro s l
  exact markIf_hostBlind (s.proof.writePoint != p) [224] { s with proof.writePoint := p } l

theorem setDrainPoint_hostBlind (p : SpoolPoint) : HostBlind (·.setDrainPoint p) := by
  intro s l
  exact markIf_hostBlind (s.proof.drainPoint != p) [225] { s with proof.drainPoint := p } l

theorem setGap_hostBlind (n : Nat) : HostBlind (·.setGap n) := by
  intro s l
  exact markIf_hostBlind (s.proof.gap != n) [228] { s with proof.gap := n } l

theorem moveWritePoint_hostBlind : HostBlind (·.moveWritePoint) :=
  HostBlind.ite (HostBlind.apply setWritePoint_hostBlind
      (fun s => { half := s.proof.writePoint.half.other, offset := 0 }) (fun _ _ => rfl)) .id
    (fun s => (s.proof.writeWaits && s.proof.half s.proof.writePoint.half.other == .empty) = true) (fun _ _ => .rfl)

theorem fillHalf_hostBlind : HostBlind (·.fillHalf) := by
  intro s l
  exact (((setHalf_hostBlind s.proof.writePoint.half .full).comp
    (setWritePoint_hostBlind { half := s.proof.writePoint.half, offset := halfWords })).comp moveWritePoint_hostBlind) s l

theorem leaveHalf_hostBlind : HostBlind (·.leaveHalf) := by
  intro s l
  exact (((setHalf_hostBlind s.proof.drainPoint.half .empty).comp
    (setDrainPoint_hostBlind { half := s.proof.drainPoint.half.other, offset := 0 })).comp moveWritePoint_hostBlind) s l

theorem recordRead_hostBlind (stop : Nat) (chars : List Nat) : HostBlind (·.recordRead stop chars) := by
  intro s l
  let h := s.proof.drainPoint.half
  exact (((HostBlind.comp (f := fun s : State => { s with proof.reading := none }) (fun _ _ => rfl)
    (setDrainPoint_hostBlind { half := h, offset := stop })).comp
    (HostBlind.ite leaveHalf_hostBlind .id (fun s => (stop = halfWords && s.proof.half h == .full) = true)
      (fun _ _ => .rfl))).comp (g := (·.printRecord chars)) (fun _ _ => rfl)) s l

theorem headerRead_hostBlind (w : Word) : HostBlind (·.headerRead w) := by
  intro s l
  unfold State.headerRead
  simp only [show (s.withHost l).proof = s.proof from rfl]
  (repeat' split)
  exacts [recordRead_hostBlind _ _ s l, leaveHalf_hostBlind s l, recordRead_hostBlind _ _ s l, rfl,
    recordRead_hostBlind _ _ s l, rfl]

theorem drainWord_hostBlind (w : Word) : HostBlind (·.drainWord w) := by
  intro s l
  unfold State.drainWord
  simp only [show (s.withHost l).proof = s.proof from rfl]
  (repeat' split)
  exacts [headerRead_hostBlind w s l, rfl, recordRead_hostBlind _ _ s l]

theorem releaseDone_hostBlind : HostBlind (·.releaseDone) :=
  HostBlind.ite ((HostBlind.comp (f := fun s : State => { s with queue := s.queue.filter (fun e => !e.done) })
      (fun _ _ => rfl) refreshInUse_hostBlind).comp (g := (·.wakePositionWait)) (fun _ _ => rfl)) .id
    (fun s => s.queue.any Entry.done = true) (fun _ _ => .rfl)

theorem proofDone_hostBlind : HostBlind (·.proofDone) :=
  HostBlind.comp (f := fun s => State.markProofed { s with proof.records := [], proof.written := 0 }) (fun _ _ => rfl)
    releaseDone_hostBlind

theorem countGap_hostBlind : HostBlind (·.countGap) :=
  (HostBlind.apply setGap_hostBlind (fun s => stepUpTo 65535 s.proof.gap) (fun _ _ => rfl)).comp proofDone_hostBlind

theorem recordWritten_hostBlind (r : RecordRole) : HostBlind (·.recordWritten r) := by
  cases r with
  | gap => exact setGap_hostBlind 0
  | _ => exact fun _ _ => rfl

theorem clearProofJob_hostBlind : HostBlind (·.clearProofJob) := by
  intro s l
  unfold State.clearProofJob
  simp only [show (s.withHost l).inProof = s.inProof from rfl]
  split <;> rfl

theorem spoolWritten_hostBlind : HostBlind (·.spoolWritten) := by
  intro s l
  unfold State.spoolWritten
  simp only [show (s.withHost l).proof = s.proof from rfl]
  split
  · rfl
  next r rest _ =>
    have hset : (s.withHost l).setHalf s.proof.writePoint.half .filling
        = (s.setHalf s.proof.writePoint.half .filling).withHost l := setHalf_hostBlind _ _ s l
    have hlast := ((((HostBlind.comp (f := fun t : State => { t with proof.written := 0, proof.records := rest })
      (fun _ _ => rfl)
      (setWritePoint_hostBlind { s.proof.writePoint with offset := s.proof.writePoint.offset + r.words })).comp
      (recordWritten_hostBlind r.role)).comp
      (HostBlind.ite fillHalf_hostBlind .id (fun _ => s.proof.writePoint.offset + r.words = halfWords)
        (fun _ _ => .rfl))).comp
      (HostBlind.ite (clearProofJob_hostBlind.comp proofDone_hostBlind) .id (fun _ => rest.isEmpty = true)
        (fun _ _ => .rfl)))
    split
    · exact fillHalf_hostBlind s l
    · rw [hset]
      exact HostBlind.ite (f := fun t => { t with proof.written := t.proof.written + 1 }) (fun _ _ => rfl) hlast
        (fun t => t.proof.written + 1 < r.words) (fun _ _ => .rfl) _ l

theorem spoolFault_hostBlind : HostBlind (·.spoolFault) := by
  intro s l
  unfold State.spoolFault
  simp only [show ∀ u : ProofUnit, State.inProof { s.withHost l with proof := u } = s.inProof from fun _ => rfl,
    show ∀ u : ProofUnit, State.inProof { s with proof := u } = s.inProof from fun _ => rfl]
  split
  · split
    · exact countGap_hostBlind { s with proof.written := 0 } l
    · rfl
  · rfl

/-! ### The bank's own events -/

theorem advancePass_hostBlind : HostBlind (·.advancePass) := by
  intro s l
  unfold State.advancePass
  simp only [show (s.withHost l).status = s.status from rfl]
  split <;> rfl

theorem statusWritten_hostBlind (q : CycleRequest) : HostBlind (·.statusWritten q) :=
  HostBlind.comp (f := fun s => s.write q.offset (s.statusData q.offset q.data)) (fun _ _ => rfl) advancePass_hostBlind

theorem logFault_hostBlind (r : Requester) (off : Nat) : HostBlind (·.logFault r off) := by
  refine HostBlind.comp (f := fun s => State.mark { s with
    port.lastFault := s.port.lastFault.set r off,
    port.disabled := if r = .status then s.port.disabled else s.port.disabled.set r true } (List.range' 40 6))
    (fun _ _ => ?_) (raise_hostBlind _)
  rfl

theorem ownerFault_hostBlind (r : Requester) (q : CycleRequest) : HostBlind (·.ownerFault r q) := by
  cases r with
  | intake => exact .id
  | library =>
    intro s l
    unfold State.ownerFault
    simp only [show (s.withHost l).font = s.font from rfl, show (s.withHost l).fetching = s.fetching from rfl]
    split
    · exact refuseFetch_hostBlind _ _ s l
    · rfl
  | drain => exact fun _ _ => rfl
  | spool => exact HostBlind.comp (f := (·.writeFaulted q.offset)) (fun _ _ => rfl) spoolFault_hostBlind
  | status =>
    exact HostBlind.comp (f := fun s => (s.writeFaulted q.offset).markAll) (fun _ _ => rfl) advancePass_hostBlind

theorem hostStore_hostBlind (off : Nat) (w : Word) (b : BusResult) : HostBlind (·.hostStore off w b) := by
  cases b <;> exact fun _ _ => rfl

/-! ### A job abort -/

theorem setComposer_hostBlind (x : ComposerState) : HostBlind (·.setComposer x) := by
  intro s l
  exact markIf_hostBlind (s.composer.state != x) [5] { s with composer.state := x } l

theorem resolveSize_hostBlind (n : Nat) : HostBlind (·.resolveSize n) := fun _ _ => rfl

theorem giveUpProof_hostBlind : HostBlind (·.giveUpProof) :=
  HostBlind.comp (f := fun s : State => { s with proof.records := [], proof.written := 0 }) (fun _ _ => rfl)
    (giveUpRequest_hostBlind .spool)

theorem removeEntries_hostBlind (t : JobTag) : HostBlind (·.removeEntries t) := by
  intro s l
  unfold State.removeEntries
  exact (((HostBlind.ite giveUpProof_hostBlind .id
    (fun s => s.queue.any (fun e => e.removedBy t && e.proof == .inProof) = true) (fun _ _ => .rfl)).comp
    (g := fun s => { s with queue := s.queue.filter (fun e => !e.removedBy t) }) (fun _ _ => rfl)).comp
    refreshInUse_hostBlind) s l

theorem writeReport_hostBlind (r : Report) : HostBlind (·.writeReport r) := by
  intro s l
  exact raise_hostBlind .jobReport (State.mark
    { s with status.reports := s.status.reports.set s.status.nextSlot r, status.nextSlot := s.status.nextSlot + 1 } _) l

theorem setExposure_hostBlind (x : Exposure) : HostBlind (·.setExposure x) := by
  intro s l
  exact ((markIf_hostBlind (s.exposure.lines != x.lines) [8]).comp
    (HostBlind.ite .id display_hostBlind (fun _ => s.exposure.tag = x.tag) (fun _ _ => .rfl)))
    { s with exposure := x } l

theorem reportAbort_hostBlind (r : WaitingReport) : HostBlind (·.reportAbort r) := by
  intro s l
  exact ((writeReport_hostBlind _).comp (HostBlind.ite (setExposure_hostBlind Exposure.none) .id
    (fun _ => s.reachesRecord (some r.tag) = true) (fun _ _ => .rfl))) s l

theorem abortReport_hostBlind (r : WaitingReport) : HostBlind (·.abortReport r) :=
  HostBlind.ite (fun _ _ => rfl) (reportAbort_hostBlind r)
    (fun s => s.inExposure.any (fun e => e.tag == some r.tag) = true) (fun _ _ => .rfl)

theorem withdrawCalls_hostBlind (t : JobTag) : HostBlind (·.withdrawCalls t) :=
  HostBlind.foldl (f := fun (s : State) (p : Fin 8) =>
      if s.font.table[p].state = .requested ∧ s.font.table[p].origin = some (.font t) then
        s.vacate p (some .withdrawn)
      else s) (fun p => HostBlind.ite (vacate_hostBlind p _) .id
    (fun s => s.font.table[p].state = .requested ∧ s.font.table[p].origin = some (.font t)) (fun _ _ => .rfl)) _

theorem jobAbort_hostBlind (o : JobOutcome) : HostBlind (·.jobAbort o) := by
  intro s l
  show (s.withHost l).jobAbort o = (s.jobAbort o).withHost l
  unfold State.jobAbort
  by_cases hjob : s.intake.job.inProgress = true
  · rw [if_pos hjob, if_pos (show (s.withHost l).intake.job.inProgress = true from hjob)]
    have hsize := resolveSize_hostBlind initialSize
      { s with composer := s.composer.aborted, intake.job.inProgress := false, intake.job.sum := 0,
               intake.decoder := s.intake.decoder.map Command.drop } l
    have hrest (r : WaitingReport) := (((HostBlind.comp (f := (·.mark [6])) (fun _ _ => rfl)
      (setComposer_hostBlind .discarding)).comp (removeEntries_hostBlind s.currentTag)).comp
      (abortReport_hostBlind r)).comp (withdrawCalls_hostBlind s.currentTag)
    exact (congrArg (fun u : State => ((((u.mark [6]).setComposer .discarding).removeEntries
      s.currentTag).abortReport _).withdrawCalls s.currentTag) hsize).trans (hrest _ _ l)
  · rw [if_neg hjob, if_neg (show ¬ (s.withHost l).intake.job.inProgress = true from hjob)]

/-! ### Host writes -/

theorem rereadSlot_hostBlind (k : Nat) : HostBlind (·.rereadSlot k) := by
  intro s l
  show (s.withHost l).rereadSlot k = (s.rereadSlot k).withHost l
  unfold State.rereadSlot
  by_cases h : s.port.cycle = some .library
  · rw [if_pos h, if_pos (show (s.withHost l).port.cycle = some .library from h)]
    exact giveUpRequest_hostBlind .library s l
  · rw [if_neg h, if_neg (show (s.withHost l).port.cycle ≠ some .library from h)]
    rfl

theorem disturb_hostBlind (off : Nat) : HostBlind (·.disturb off) := by
  intro s l
  have hrest (k n : Nat) : HostBlind fun s => { s.rereadSlot k with font.fetch := some (.record k [] true n) } :=
    (rereadSlot_hostBlind k).comp (g := fun s => { s with font.fetch := some (.record k [] true n) }) (fun _ _ => rfl)
  have hbusy (p : Fin 8) : HostBlind fun s => (s.giveUpRequest .library).refuseFetch p .busy :=
    (giveUpRequest_hostBlind .library).comp (refuseFetch_hostBlind p .busy)
  show (s.withHost l).disturb off = (s.disturb off).withHost l
  unfold State.disturb
  rw [show (s.withHost l).font = s.font from rfl, show (s.withHost l).fetching = s.fetching from rfl]
  split
  · split
    · split
      · exact hrest _ _ s l
      · exact hbusy _ s l
    · rfl
  · rfl

theorem mark_hostBlind (l : List Nat) : HostBlind (·.mark l) := fun _ _ => rfl

theorem takeRingWord_hostBlind (c : HostCycle) : HostBlind (·.takeRingWord c) := by
  intro s l
  have htaken (b : Bool) : HostBlind fun u => State.mark
      { u with intake.run := if b then u.intake.run ++ [c.data] else u.intake.run, intake.fill := u.intake.fill + 1,
               intake.intakeOffset := ringAfter u.intake.intakeOffset 1 } (if b then [17, 19, 20] else [17, 19]) :=
    HostBlind.comp (f := fun u => { u with
      intake.run := if b then u.intake.run ++ [c.data] else u.intake.run, intake.fill := u.intake.fill + 1,
      intake.intakeOffset := ringAfter u.intake.intakeOffset 1 }) (fun _ _ => rfl) (mark_hostBlind _)
  exact ((hostStore_hostBlind c.offset c.data c.bus).comp (htaken _)) s l

theorem ringWrite_hostBlind (c : HostCycle) : HostBlind (·.ringWrite c) := by
  intro s l
  show (s.withHost l).ringWrite c = (s.ringWrite c).withHost l
  unfold State.ringWrite
  rw [show (s.withHost l).intake = s.intake from rfl]
  split
  · split
    · exact takeRingWord_hostBlind c s l
    · rfl
  · exact hostStore_hostBlind _ _ _ s l

/-- An intervention is taken or refused whatever host cycles wait. -/
theorem intervene_withHost (s : State) (l : List HostCycle) (v : Word) :
    (s.withHost l).intervene v = (s.intervene v).map (·.withHost l) := by
  unfold State.intervene
  split
  · exact congrArg some (jobAbort_hostBlind .aborted s l)
  · unfold State.withdrawTaken
    simp only [show (s.withHost l).font = s.font from rfl]
    split
    · split
      · exact congrArg some (vacate_hostBlind _ _ s l)
      · rfl
    · rfl
  · unfold State.clearPathTaken
    rw [Option.map_map]
    exact congrArg (Option.map · _) (funext fun r =>
      markIf_hostBlind (s.port.disabled.get r) [40] { s with port.disabled := s.port.disabled.set r false } l)
  · exact congrArg some (markIf_hostBlind _ _ { s with panel.inbox := none } l)
  · exact congrArg some (markIf_hostBlind _ _ { s with status.capture := Capture.empty } l)
  · exact congrArg some (alarmOnce_hostBlind (s.showWith true none) l)
  · unfold State.ringResetTaken
    simp only [show (s.withHost l).composer = s.composer from rfl]
    split
    · refine congrArg some ?_
      exact ((giveUpRequest_hostBlind .intake).comp (g := (·.mark s.intake.resetMarks)) (fun _ _ => rfl))
        { s with intake.intakeOffset := ringBase, intake.consumeOffset := ringBase, intake.fill := 0,
                 intake.run := [], intake.decoder := none } l
    · rfl
  · rfl
  · rfl

theorem interventionWritten_hostBlind (c : HostCycle) : HostBlind (·.interventionWritten c) := by
  intro s l
  unfold State.interventionWritten
  simp only [intervene_withHost]
  cases s.intervene c.data with
  | none => exact hostStore_hostBlind _ _ _ s l
  | some t => exact hostStore_hostBlind _ _ _ t l

theorem hostNow_hostBlind (c : HostCycle) : HostBlind (·.hostNow c) := by
  intro s l
  unfold State.hostNow
  split
  · exact ringWrite_hostBlind c s l
  split
  · exact hostStore_hostBlind _ _ _ { s with status.flags := clearFlags s.status.flags c.data } l
  split
  · exact hostStore_hostBlind _ _ _ { s with port.mask := c.data } l
  split
  · exact interventionWritten_hostBlind c s l
  · exact ((hostStore_hostBlind c.offset c.data c.bus).comp (disturb_hostBlind c.offset)) s l

theorem overrun_hostBlind (c : HostCycle) : HostBlind (·.overrun c) := by
  intro s l
  exact (((((hostStore_hostBlind c.offset c.data c.bus).comp
    (g := fun s : State => { s with
      intake.consumeOffset := ringAfter s.intake.consumeOffset 1,
      intake.intakeOffset := ringAfter s.intake.intakeOffset 1, intake.run := [], intake.decoder := none })
      (fun _ _ => rfl)).comp (giveUpRequest_hostBlind .intake)).comp
    (g := (·.mark (if s.intake.run = [] then [17, 18] else [17, 18, 20]))) (fun _ _ => rfl)).comp
    (HostBlind.ite (jobAbort_hostBlind .overrun)
      (HostBlind.comp (f := fun s : State => { s with composer.held := none, composer.todo := [] }) (fun _ _ => rfl)
        (setComposer_hostBlind .discarding)) (fun s => s.intake.job.inProgress = true) (fun _ _ => .rfl))).comp
    (raise_hostBlind .ringOverrun) { s with port.held := none, port.holdTimer := .idle } l

end Sys2Proof.Machine
end

section
/-! PROOFS. A host cycle that waited begins where the event's end leads (R168; log 8): the ends of part cycles, of a hold
and of power-on; and power-on itself (R134). -/

namespace Sys2Proof.Machine

/-! ### A waiting host cycle begins (R168) -/

theorem State.withHost_quiet {s : State} (h : Quiet s) : s.withHost [] = s := by
  show ({ s with port := { s.port with hostQueue := [] } } : State) = s
  rw [← show s.port.hostQueue = [] from h]

/-- A blind operation leaves a quiet state quiet. -/
theorem HostBlind.quiet {f : State → State} (hf : HostBlind f) {s : State} (h : Quiet s) : Quiet (f s) := by
  have hsame := hf s []
  rw [State.withHost_quiet h] at hsame
  exact congrArg (fun u : State => u.port.hostQueue) hsame

/-- With one host cycle waiting, what follows an event is that cycle presented to the state the event ends in (R168). -/
theorem State.done_withHost {u : State} {c : HostCycle} (hu : Quiet u) (ho : c.offset < bankWords) :
    (u.withHost [c]).done = exec (.hostWrite c.offset c.data c.bus) u.requesting := by
  show _ = u.requesting.hostCommand c.offset c.data c.bus
  have hq : u.requesting.port.hostQueue = [] := hu
  unfold State.hostCommand
  rw [if_pos ho, State.done, State.done]
  refine congrArg Host.Outcome.next ?_
  by_cases hidle : u.port.cycle = none ∧ u.port.held = none
  · obtain ⟨hcycle, hheld⟩ := hidle
    have hnow : u.requesting.hostWrite c = u.requesting.hostNow c := by
      simp [State.hostWrite, hq, show u.requesting.port.cycle = none from hcycle,
        show u.requesting.port.held = none from hheld]
    have hquiet : Quiet (u.requesting.hostNow c) := (hostNow_hostBlind c).quiet hq
    have hfirst : ({ (u.withHost [c]).requesting with port.hostQueue := [] } : State) = u.requesting :=
      (show _ = (u.requesting).withHost [] from rfl).trans (State.withHost_quiet hq)
    rw [State.settle_one (u.withHost [c]) c rfl hcycle hheld, hfirst, State.settle_eq _ (.inl (hnow ▸ hquiet)), hnow,
      State.makeRequests_eq]
    exact congrArg State.requesting (State.withHost_quiet hquiet)
  · have hbusy : u.port.cycle.isSome ∨ u.port.held.isSome := by
      cases hcycle : u.port.cycle <;> cases hheld : u.port.held <;> simp_all
    have hwaits : u.requesting.hostWrite c = (u.withHost [c]).requesting := by
      have hno : ¬ (u.requesting.port.cycle.isNone && u.requesting.port.held.isNone
          && u.requesting.port.hostQueue.isEmpty) = true := by
        show ¬ (u.port.cycle.isNone && u.port.held.isNone && _) = true
        rcases hbusy with h | h <;> simp [Option.isNone_eq_false_iff.2 h]
      rw [State.hostWrite, if_neg hno, hq]
      rfl
    rw [State.settle_eq (u.withHost [c]) (.inr hbusy), hwaits,
      State.settle_eq (u.withHost [c]).requesting (.inr hbusy), ← State.makeRequests_eq (u.withHost [c]).requesting,
      State.makeRequests_twice]

/-- An event reads and writes none of the host cycles that wait. -/
def EventBlind (o : State → Option State) : Prop := ∀ s l, o (s.withHost l) = (o s).map (·.withHost l)

/-- A cycle that waited behind an event begins where the event, made without it, ends. -/
theorem State.answer_serves {o : State → Option State} (hblind : EventBlind o) {s v : State} {c : HostCycle}
    (hq : s.port.hostQueue = [c]) (ho : c.offset < bankWords) (hs : (o s).isSome)
    (hv : State.answer { s with port.hostQueue := [] } (o { s with port.hostQueue := [] }) = .next v) :
    s.answer (o s) = exec (.hostWrite c.offset c.data c.bus) v := by
  have hback : s = (s.withHost []).withHost [c] := by
    show s = { s with port := { s.port with hostQueue := [c] } }
    rw [← hq]
  obtain ⟨t, ht⟩ := Option.isSome_iff_exists.1 hs
  have hempty : o (s.withHost []) = some (t.withHost []) := (hblind s []).trans (by rw [ht]; rfl)
  have hfull : o s = some ((t.withHost []).withHost [c]) :=
    (congrArg o hback).trans ((hblind _ [c]).trans (by rw [hempty]; rfl))
  have hend : (t.withHost []).requesting = v := by
    have hdone : (t.withHost []).done = .next v := by rw [← hv]; exact (by rw [show
      o { s with port.hostQueue := [] } = some (t.withHost []) from hempty]; rfl)
    rw [State.done_endsIn (t.withHost []) rfl] at hdone
    cases hdone
    rfl
  rw [hfull, ← hend]
  exact State.done_withHost rfl ho

/-! ### The events a host cycle waits behind -/

theorem State.onCycle_eventBlind (k : CycleKind) {f : State → CycleRequest → State}
    (hf : ∀ q, HostBlind (f · q)) : EventBlind (·.onCycle k f) := by
  intro s l
  unfold State.onCycle
  simp only [show (s.withHost l).inProgress = s.inProgress from rfl]
  split
  next r q _ =>
    split
    · refine congrArg some ?_
      have hown : HostBlind fun t => if q.stale then t else f t q :=
        HostBlind.ite .id (hf q) (fun _ => q.stale = true) (fun _ _ => .rfl)
      have hword : HostBlind fun t => if q.kind = .spool then t.write q.offset q.data else t :=
        HostBlind.ite (fun _ _ => rfl) .id (fun _ => q.kind = .spool) (fun _ _ => .rfl)
      exact ((HostBlind.comp (f := (·.endCycle r)) (fun _ _ => rfl) hword).comp hown) s l
    · rfl
  next => rfl

theorem State.onFault_eventBlind : EventBlind (·.onFault) := by
  intro s l
  unfold State.onFault
  simp only [show (s.withHost l).inProgress = s.inProgress from rfl]
  cases s.inProgress with
  | none => rfl
  | some x =>
    exact congrArg some (((HostBlind.comp (f := (·.endCycle x.1)) (fun _ _ => rfl)
      (logFault_hostBlind x.1 x.2.offset)).comp (ownerFault_hostBlind x.1 x.2)) s l)

theorem State.onRelease_eventBlind : EventBlind (·.onRelease) := by
  intro s l
  unfold State.onRelease
  simp only [show (s.withHost l).port.held = s.port.held from rfl,
    show (s.withHost l).port.holdTimer = s.port.holdTimer from rfl,
    show (s.withHost l).port.cycle = s.port.cycle from rfl]
  split
  · split
    · exact congrArg some (hostNow_hostBlind _ { s with port.held := none } l)
    · rfl
  · rfl

theorem State.onHoldExpiry_eventBlind : EventBlind (·.onHoldExpiry) := by
  intro s l
  unfold State.onHoldExpiry
  simp only [show (s.withHost l).port.held = s.port.held from rfl,
    show (s.withHost l).port.holdTimer = s.port.holdTimer from rfl]
  split
  · split
    · exact congrArg some (overrun_hostBlind _ s l)
    · rfl
  · rfl

/-! ### The statements -/

/-- A host write presented to a busy bank waits its turn (R168, R169; log 8). -/
theorem State.hostCommand_waits {s : State} (hbusy : s.port.cycle.isSome ∨ s.port.held.isSome) {off : Nat} (w : Word)
    (bus : BusResult) (ho : off < bankWords) :
    EndsIn (s.hostCommand off w bus)
      { s with port.hostQueue := s.port.hostQueue ++ [{ offset := off, data := w, bus := bus }] } := by
  have hno : ¬ (s.port.cycle.isNone && s.port.held.isNone && s.port.hostQueue.isEmpty) = true := by
    rcases hbusy with h | h <;> simp [Option.isNone_eq_false_iff.2 h]
  rw [State.hostCommand, if_pos ho, State.hostWrite, if_neg hno]
  exact congrArg Host.Outcome.next (State.settle_eq { s with port.hostQueue := s.port.hostQueue ++ [_] } (.inr hbusy))

theorem interventionWord_eq (k : Nat) (arg : Byte) :
    interventionWord k arg = BitVec.ofNat 16 (k * 256) + arg.setWidth 16 := by
  have := arg.isLt
  apply BitVec.eq_of_toNat_eq
  simp only [interventionWord, pairWord, BitVec.toNat_ofNat, BitVec.toNat_add, BitVec.toNat_setWidth]
  omega

/-- Every part cycle in progress ends at its own row, or at a bank fault. -/
theorem State.onCycle_isSome {s : State} {r : Requester} {q : CycleRequest} (hc : s.port.cycle = some r)
    (hr : s.port.requests.get r = some q) {k : CycleKind} (hk : q.kind = k) (f : State → CycleRequest → State) :
    (s.onCycle k f).isSome := by
  simp [State.onCycle, State.inProgress, hc, hr, hk]

/-- Settles O14: a busy bank keeps the cycle in its queue; and the events that free the bank, read or write none of the
cycles that wait, so that the one that waited is presented where they end. -/
theorem hostCycleWaits : Obligations.HostCycleWaits := by
  refine ⟨?waits, ?cycleEnd, ?holdEnd⟩
  case waits =>
    intro s off data arg bus hbusy ho x hx
    have hcode (k : Nat) : EndsIn (s.hostCommand interventionCell (interventionWord k arg) bus)
        { s with port.hostQueue := s.port.hostQueue ++
          [{ offset := interventionCell, data := BitVec.ofNat 16 (k * 256) + arg.setWidth 16, bus := bus }] } := by
      rw [← interventionWord_eq k arg]
      exact s.hostCommand_waits hbusy _ bus (by decide)
    simp only [List.mem_cons, List.not_mem_nil, or_false] at hx
    rcases hx with rfl | rfl | rfl | rfl | rfl | rfl | rfl | rfl | rfl | rfl | rfl | rfl | rfl
    · exact s.hostCommand_waits hbusy data bus ho
    · exact s.hostCommand_waits hbusy data bus ho
    · exact s.hostCommand_waits (off := flagCell) hbusy data bus (by decide)
    · exact s.hostCommand_waits (off := maskCell) hbusy data bus (by decide)
    · exact s.hostCommand_waits (off := interventionCell) hbusy data bus (by decide)
    · exact hcode 1
    · exact hcode 2
    · exact hcode 3
    · exact hcode 4
    · exact hcode 5
    · exact hcode 6
    · exact hcode 7
    · exact hcode 8
  case cycleEnd =>
    intro s v c r q hq ho _ hcycle hr x hx hk hv
    have hend {k : CycleKind} (hkind : q.kind = k) {f : State → CycleRequest → State} (hf : ∀ q, HostBlind (f · q)) :=
      State.answer_serves (v := v) (State.onCycle_eventBlind k hf) hq ho (State.onCycle_isSome hcycle hr hkind f)
    simp only [List.mem_cons, List.not_mem_nil, or_false] at hx
    rcases hx with rfl | rfl | rfl | rfl | rfl | rfl | rfl
    · exact hend hk (fun _ _ _ => rfl) hv
    · exact hend hk searched_hostBlind hv
    · exact hend hk recordWordRead_hostBlind hv
    · exact hend hk (fun q s l => drainWord_hostBlind (s.read q.offset) s l) hv
    · exact hend hk (fun _ => spoolWritten_hostBlind) hv
    · exact hend hk statusWritten_hostBlind hv
    · exact State.answer_serves State.onFault_eventBlind hq ho (by simp [State.onFault, State.inProgress, hcycle, hr]) hv
  case holdEnd =>
    intro s v h c hq ho hheld hcycle x hx ht hv
    simp only [List.mem_cons, List.not_mem_nil, or_false] at hx
    rcases hx with rfl | rfl
    · exact State.answer_serves State.onRelease_eventBlind hq ho (by simp [State.onRelease, hheld, ht, hcycle]) hv
    · exact State.answer_serves State.onHoldExpiry_eventBlind hq ho (by simp [State.onHoldExpiry, hheld, ht]) hv

/-! ### Power-on (R134) -/

theorem State.mem_hostStore (s : State) (off : Nat) (w : Word) (bus : BusResult) :
    (s.hostStore off w bus).mem
      = writeMem s.mem off (match bus with | .good => w | .fault => Config.faultedWord s.freeCount) := by
  cases bus <;> rfl

@[simp] theorem State.read_hostStore_good {s : State} (h : MemoryInv s) (off : Nat) (w : Word) :
    (s.hostStore off w .good).read off = w := readMem_writeMem_same off w h

theorem State.read_hostStore_other {s : State} (h : MemoryInv s) {off a : Nat} (w : Word) (bus : BusResult)
    (ha : a ≠ off) : (s.hostStore off w bus).read a = s.read a := by
  rw [State.read, State.mem_hostStore]
  exact readMem_writeMem_other off _ h ha

theorem State.read_writeFaulted_other {s : State} (h : MemoryInv s) {off a : Nat} (ha : a ≠ off) :
    (s.writeFaulted off).read a = s.read a := readMem_writeMem_other off _ h ha

/-- What a part write in progress leaves of memory at power-on (log 5). -/
def State.cutOff (s : State) : State :=
  match s.inProgress with
  | some (_, q) => if q.kind = CycleKind.spool ∨ q.kind = CycleKind.status then s.writeFaulted q.offset else s
  | none => s

theorem State.memoryAtPowerOn_eq (s : State) : s.memoryAtPowerOn =
    match s.port.held with
    | some c => s.cutOff.hostStore c.offset c.data c.bus
    | none => s.cutOff := by
  have hport : s.cutOff.port = s.port := by unfold State.cutOff; (repeat' split) <;> rfl
  rw [← hport]
  rfl

theorem State.cutOff_memWf {s : State} (h : MemoryInv s) : MemoryInv s.cutOff := by
  unfold State.cutOff
  repeat' split
  exacts [State.writeFaulted_memWf _ _ h, h, h]

theorem State.read_cutOff {s : State} (h : MemoryInv s) {a : Nat}
    (ha : ∀ r q, s.port.cycle = some r → s.port.requests.get r = some q → q.kind = .spool ∨ q.kind = .status →
      a ≠ q.offset) : s.cutOff.read a = s.read a := by
  unfold State.cutOff
  split
  next r q hq =>
    split
    next hkind =>
      obtain ⟨_, hcycle, hreq⟩ := Option.bind_eq_some_iff.1 hq
      obtain ⟨_, hget, hpair⟩ := Option.map_eq_some_iff.1 hreq
      cases hpair
      exact State.read_writeFaulted_other h (ha _ _ hcycle hget hkind)
    next => rfl
  next => rfl

theorem State.cutOff_of_idle {s : State} (h : s.port.cycle = none) : s.cutOff = s := by
  simp [State.cutOff, State.inProgress, h]

/-- Of memory, power-on leaves what a write in progress and a held write make of it, and nothing else. -/
theorem State.powerOn_mem (s : State) : s.powerOn.mem = s.memoryAtPowerOn.mem := rfl

theorem State.memoryAtPowerOn_frame (s : State) :
    s.memoryAtPowerOn = { s with mem := s.memoryAtPowerOn.mem, freeCount := s.memoryAtPowerOn.freeCount } := by
  have hcut : s.cutOff = { s with mem := s.cutOff.mem, freeCount := s.cutOff.freeCount } := by
    unfold State.cutOff
    (repeat' split) <;> rfl
  rw [State.memoryAtPowerOn_eq]
  split
  next c _ => rw [hcut]; cases c.bus <;> rfl
  next => exact hcut

theorem State.powerOn_eq {s : State} (hq : Quiet s) : s.powerOn =
    { State.reset with
      mem := s.powerOn.mem, freeCount := s.powerOn.freeCount, pending := s.pending,
      proof := { ProofUnit.reset with busy := s.proof.busy, paperOut := s.proof.paperOut } } := by
  unfold State.powerOn
  rw [s.memoryAtPowerOn_frame]
  simp only [show s.port.hostQueue = [] from hq]
  rfl

theorem powerOn_hostBlind : HostBlind (·.powerOn) := by
  intro s l
  have hmem : (s.withHost l).memoryAtPowerOn = s.memoryAtPowerOn.withHost l := by
    have hcut : (s.withHost l).cutOff = s.cutOff.withHost l := by
      unfold State.cutOff
      rw [show (s.withHost l).inProgress = s.inProgress from rfl]
      (repeat' split) <;> rfl
    rw [State.memoryAtPowerOn_eq, State.memoryAtPowerOn_eq, hcut, show (s.withHost l).port.held = s.port.held from rfl]
    split
    · exact hostStore_hostBlind _ _ _ _ l
    · rfl
  show (s.withHost l).powerOn = s.powerOn.withHost l
  unfold State.powerOn
  rw [hmem]
  rfl

/-- Settles O4: power-on keeps of the old state the words of memory, the commands and cycles that wait and the printer's
lines; and a host cycle that waited is presented to the state it ends in. -/
theorem powerOnCommand : Obligations.PowerOnCommand := by
  refine ⟨?reset, ?waited⟩
  case reset =>
    intro s hq hmem
    have hread (a : Nat) : s.powerOn.read a = s.memoryAtPowerOn.read a := rfl
    have hcut : MemoryInv s.cutOff := State.cutOff_memWf hmem
    refine ⟨s.powerOn, State.done_endsIn _ (powerOn_hostBlind.quiet hq), State.powerOn_eq hq, ?held, ?other, ?idle⟩
    case held =>
      intro c hc hbus
      rw [hread, State.memoryAtPowerOn_eq, hc]
      dsimp only
      rw [hbus]
      exact State.read_hostStore_good hcut _ _
    case other =>
      intro a hheld hcycle
      rw [hread, State.memoryAtPowerOn_eq, ← State.read_cutOff hmem hcycle]
      cases hc : s.port.held with
      | none => rfl
      | some c => exact State.read_hostStore_other hcut _ _ (hheld c hc)
    case idle =>
      intro hheld hcycle
      rw [State.powerOn_mem, State.memoryAtPowerOn_eq, hheld, State.cutOff_of_idle hcycle]
  case waited =>
    intro s v c hq ho hv
    have hevent : EventBlind fun s => some s.powerOn := fun s l => congrArg some (powerOn_hostBlind s l)
    exact State.answer_serves (s := s) hevent hq ho rfl hv

end Sys2Proof.Machine
end

section
/-! PROOFS. Host writes by the place they land in (R69, R77, R167, R169) and the ends of a hold (R170). -/

namespace Sys2Proof.Machine

/-! ### Where a host write lands (R167) -/

theorem State.hostNow_ring {s : State} {c : HostCycle} (h : inRing c.offset = true) : s.hostNow c = s.ringWrite c := by
  simp [State.hostNow, h]

theorem State.hostNow_plain {s : State} {c : HostCycle} (hp : plainOffset c.offset = true) (h : inRing c.offset = false) :
    s.hostNow c = s.plainWrite c := by
  simp only [plainOffset, Bool.and_eq_true, bne_iff_ne] at hp
  obtain ⟨⟨⟨-, hflag⟩, hmask⟩, hint⟩ := hp
  simp [State.hostNow, h, hflag, hmask, hint]

theorem lt_bankWords_of_plainOffset {off : Nat} (h : plainOffset off = true) : off < bankWords := by
  simp only [plainOffset, Bool.and_eq_true, decide_eq_true_eq] at h
  exact h.1.1.1

theorem lt_bankWords_of_inRing {off : Nat} (h : inRing off = true) : off < bankWords := by
  simp only [inRing, Bool.and_eq_true, decide_eq_true_eq] at h
  simp only [ringBase, ringWords, bankWords] at *
  omega

/-- The slots of the font library lie between the status area and the copy ring. -/
theorem slot_isPlain {k off : Nat} (hk : k < slotCount) (hlow : slotOffset k 0 ≤ off) (hhigh : off < slotOffset k 0 + slotWords) :
    plainOffset off = true ∧ inRing off = false := by
  simp only [plainOffset, inRing, Bool.and_eq_true, bne_iff_ne, decide_eq_true_eq, Bool.and_eq_false_iff,
    decide_eq_false_iff_not]
  simp only [slotOffset, libraryBase, slotWords, slotCount, bankWords, flagCell, maskCell, interventionCell, ringBase,
    ringWords] at *
  omega

/-! ### The record read that a host write disturbs (R69) -/

theorem State.disturb_outside {s : State} {off : Nat}
    (h : ∀ k words n, s.font.fetch = some (.record k words true n) →
      off < slotOffset k 0 ∨ slotOffset k 0 + slotWords ≤ off) : s.disturb off = s := by
  unfold State.disturb
  split
  next k words restarts p n hfetch _ =>
    rw [if_neg]
    have := h k words restarts hfetch
    omega
  next => rfl

theorem State.disturb_inside {s : State} {off k restarts : Nat} {words : List Word} {p : Fin 8} {rest : List (Fin 8)}
    (hfetch : s.font.fetch = some (.record k words true restarts)) (hlist : s.font.fetchList = p :: rest)
    (hlow : slotOffset k 0 ≤ off) (hhigh : off < slotOffset k 0 + slotWords) :
    s.disturb off = if restarts < 3 then { s.rereadSlot k with font.fetch := some (.record k [] true (restarts + 1)) }
      else (s.giveUpRequest .library).refuseFetch p .busy := by
  have hfetching : s.fetching = some (p, s.font.table[p].font) := by simp [State.fetching, hlist]
  unfold State.disturb
  rw [hfetch, hfetching]
  exact if_pos ⟨hlow, hhigh⟩

theorem State.rereadSlot_of_idle {s : State} (h : s.port.cycle = none) (k : Nat) :
    s.rereadSlot k = { s with
      port.requests := s.port.requests.set .library
        ((s.port.requests.get .library).map (fun q => { q with offset := slotOffset k 0 })) } := by
  simp [State.rereadSlot, h]

/-- A request given up is the same request, stale (R176). -/
theorem State.giveUpRequest_eq (s : State) (r : Requester) :
    s.giveUpRequest r = { s with
      port.requests := s.port.requests.set r ((s.port.requests.get r).map (fun q => { q with stale := true })) } := by
  unfold State.giveUpRequest
  cases h : s.port.requests.get r with
  | none =>
    show s = { s with port.requests := s.port.requests.set r none }
    rw [← h, PerRequester.set_get]
  | some q => rfl

/-! ### The end of the last fetch of the list (R66) -/

theorem State.startFetches_of_nil {s : State} (h : s.font.fetchList = []) : s.startFetches = s := by
  unfold State.startFetches State.beginFetches
  rw [h]

theorem State.startFetches_of_fetch {s : State} {f : Fetch} (h : s.font.fetch = some f) : s.startFetches = s := by
  unfold State.startFetches State.beginFetches
  rw [h]
  split
  next hf => cases hf
  next => rfl

/-- With LIBRARY enabled the fetch at the head of the list begins (R66). -/
theorem State.startFetches_of_cons {s : State} {p : Fin 8} {rest : List (Fin 8)} (h : s.font.fetchList = p :: rest)
    (hnone : s.font.fetch = none) (hlib : s.port.disabled.library = false) :
    s.startFetches = { s with font.fetch := some (.search 0) } := by
  unfold State.startFetches State.beginFetches
  simp [h, hnone, hlib]

theorem State.endFetch_of_last {s : State} {p : Fin 8} (h : s.font.fetchList = [p]) :
    s.endFetch = { s with font.fetchList := [], font.fetch := none } := by
  unfold State.endFetch
  rw [State.startFetches_of_nil] <;> simp [h]

@[simp] theorem State.setPosition_table (s : State) (p : Fin 8) (e : Position) :
    (s.setPosition p e).font.table = s.font.table.set p e := by
  unfold State.setPosition
  dsimp only
  split <;> rfl

@[simp] theorem State.refusePosition_fetchList (s : State) (p : Fin 8) (r : Reason) :
    (s.refusePosition p r).font.fetchList = s.font.fetchList := by simp [State.refusePosition]

@[simp] theorem State.refusePosition_table (s : State) (p : Fin 8) (r : Reason) :
    (s.refusePosition p r).font.table = s.font.table.set p (s.font.table[p].refusedFor r) := by
  simp [State.refusePosition]

theorem State.flagSet_raise_same (s : State) (f : EventFlag) : (s.raise f).flagSet f = true := by
  simp [State.flagSet_raise]

@[simp] theorem State.flagSet_refusePosition (s : State) (p : Fin 8) (r : Reason) :
    (s.refusePosition p r).flagSet .mountRefused = true := State.flagSet_raise_same _ _

/-- The refusal of the last fetch of the list. -/
theorem State.refuseFetch_of_last {s : State} {p : Fin 8} (h : s.font.fetchList = [p]) (r : Reason) :
    s.refuseFetch p r = { s.refusePosition p r with font.fetchList := [], font.fetch := none } :=
  State.endFetch_of_last (p := p) (by simp [h])

/-! ### The copy ring (R77, R169) -/

/-- A good write at the intake offset of a ring that is not full is taken. -/
theorem State.takeRingWord_good (s : State) (data : Word) {c : Bool}
    (hc : c = (s.intake.intakeOffset == ringAfter s.intake.consumeOffset s.intake.run.length
      && s.intake.run.length < runLimit)) :
    s.takeRingWord { offset := s.intake.intakeOffset, data := data, bus := .good } =
      State.mark { s with
        mem := writeMem s.mem s.intake.intakeOffset data
        intake.run := if c then s.intake.run ++ [data] else s.intake.run
        intake.fill := s.intake.fill + 1
        intake.intakeOffset := ringAfter s.intake.intakeOffset 1 } (if c then [17, 19, 20] else [17, 19]) := by
  subst hc
  rfl

theorem State.ringWrite_taken {s : State} {c : HostCycle} (hc : c.offset = s.intake.intakeOffset)
    (hroom : s.intake.fill < ringWords) : s.ringWrite c = s.takeRingWord c := by
  simp [State.ringWrite, hc, hroom]

theorem State.ringWrite_held {s : State} {c : HostCycle} (hc : c.offset = s.intake.intakeOffset)
    (hfull : ringWords ≤ s.intake.fill) :
    s.ringWrite c = { s with port.held := some c, port.holdTimer := .running } := by
  simp [State.ringWrite, hc, Nat.not_lt.2 hfull]

theorem State.ringWrite_passed {s : State} {c : HostCycle} (hc : c.offset ≠ s.intake.intakeOffset) :
    s.ringWrite c = s.hostStore c.offset c.data c.bus := by
  simp [State.ringWrite, hc]

/-! ### The overrun (R79, R170) -/

/-- The state `s` once the held write `c` has gone over the oldest word, before the Composer is told (R79). -/
def State.overwritten (s : State) (c : HostCycle) : State :=
  let t := ({ s with port.held := none, port.holdTimer := .idle } : State).hostStore c.offset c.data c.bus
  (({ t with intake.consumeOffset := ringAfter t.intake.consumeOffset 1,
             intake.intakeOffset := ringAfter t.intake.intakeOffset 1, intake.run := [],
             intake.decoder := none } : State).giveUpRequest .intake).mark
    (if s.intake.run = [] then [17, 18] else [17, 18, 20])

/-- An overrun goes over the oldest word, and then aborts the job in progress or enters DISCARDING (R79). -/
theorem State.overrun_eq (s : State) (c : HostCycle) : s.overrun c =
    (if (s.overwritten c).intake.job.inProgress then (s.overwritten c).jobAbort .overrun
      else (s.overwritten c).overrunOutside).raise .ringOverrun := rfl

theorem State.overwritten_good {s : State} {c : HostCycle} (h : c.bus = .good) : s.overwritten c =
    State.mark { s with
      port.held := none
      port.holdTimer := .idle
      mem := writeMem s.mem c.offset c.data
      intake.consumeOffset := ringAfter s.intake.consumeOffset 1
      intake.intakeOffset := ringAfter s.intake.intakeOffset 1
      intake.run := []
      intake.decoder := none
      port.requests := s.port.requests.set .intake
        ((s.port.requests.get .intake).map (fun q => { q with stale := true })) }
      (if s.intake.run = [] then [17, 18] else [17, 18, 20]) := by
  unfold State.overwritten
  rw [h]
  dsimp only
  rw [State.giveUpRequest_eq]
  rfl

theorem State.overrunOutside_mark (s : State) (l : List Nat) : (s.mark l).overrunOutside =
    State.markIf (State.mark { s with composer.held := none, composer.todo := [], composer.state := .discarding } l)
      (s.composer.state != .discarding) [5] := rfl

theorem State.overwritten_job (s : State) (c : HostCycle) : (s.overwritten c).intake.job = s.intake.job := by
  have hring (t : State) (a b : Nat) (l : List Nat) : ((({ t with
      intake.consumeOffset := a, intake.intakeOffset := b, intake.run := [], intake.decoder := none } :
        State).giveUpRequest .intake).mark l).intake.job = t.intake.job := by
    rw [State.mark_intake, State.giveUpRequest_eq]
  exact (hring _ _ _ _).trans (by cases c.bus <;> rfl)

/-- The overrun outside a job (R79). -/
theorem State.overrun_outside {s : State} (h : s.intake.job.inProgress = false) (c : HostCycle) :
    s.overrun c = (s.overwritten c).overrunOutside.raise .ringOverrun := by
  rw [State.overrun_eq, State.overwritten_job, h]
  rfl

/-! ### The statements -/

/-- Settles O11: outside the ring, the cells and the slot watched, the write is the store alone. -/
theorem hostWriteReachesMemory : Obligations.HostWriteReachesMemory := by
  intro s off data bus hs hmem hplain hring hslot
  have hnow : s.hostNow { offset := off, data := data, bus := bus } = s.hostStore off data bus := by
    have hstood : (s.hostStore off data bus).font = s.font := by cases bus <;> rfl
    rw [State.hostNow_plain hplain hring]
    exact State.disturb_outside (by rw [hstood]; exact hslot)
  refine ⟨s.hostStore off data bus, State.hostCommand_endsIn hs (lt_bankWords_of_plainOffset hplain) hnow
    ((hostStore_hostBlind off data bus).quiet hs.2.2), ?_, fun a ha => State.read_hostStore_other hmem data bus ha, ?_⟩
  · rintro rfl
    exact State.read_hostStore_good hmem off data
  · cases bus <;> rfl

/-- Settles O12: the slot is plain memory, and the disturbance is a reread or, the fourth time, the refusal of the
last fetch. -/
theorem hostWriteDisturbsRecordRead : Obligations.HostWriteDisturbsRecordRead := by
  refine ⟨?again, ?busy⟩
  case again =>
    intro s p rest k words n off data hs hfetch hlist hn hk hlow hhigh
    obtain ⟨hplain, hring⟩ := slot_isPlain hk hlow hhigh
    refine State.hostCommand_endsIn hs (lt_bankWords_of_plainOffset hplain) ?_ hs.2.2
    rw [State.hostNow_plain hplain hring, State.plainWrite,
      State.disturb_inside (s := s.hostStore off data .good) hfetch hlist hlow hhigh, if_pos hn,
      State.rereadSlot_of_idle (s := s.hostStore off data .good) hs.1]
    rfl
  case busy =>
    intro s p k words off data hs hfetch hlist hk hlow hhigh
    obtain ⟨hplain, hring⟩ := slot_isPlain hk hlow hhigh
    let stored := (s.hostStore off data .good).giveUpRequest .library
    have hgiven : stored = { s with mem := writeMem s.mem off data, port.requests := stored.port.requests } :=
      State.giveUpRequest_frame (s.hostStore off data .good) .library
    have hfont : stored.font = s.font := (congrArg State.font hgiven :)
    have hnow : s.hostNow { offset := off, data := data, bus := .good }
        = { stored.refusePosition p .busy with font.fetchList := [], font.fetch := none } := by
      rw [State.hostNow_plain hplain hring, State.plainWrite,
        State.disturb_inside (s := s.hostStore off data .good) hfetch hlist hlow hhigh, if_neg (by omega)]
      exact State.refuseFetch_of_last (s := stored) (by rw [hfont]; exact hlist) .busy
    have hq : Quiet stored :=
      ((hostStore_hostBlind off data .good).comp (giveUpRequest_hostBlind .library)).quiet hs.2.2
    refine ⟨_, State.hostCommand_endsIn hs (lt_bankWords_of_plainOffset hplain) hnow
      ((refusePosition_hostBlind p .busy).quiet hq), rfl, rfl, ?_, ?_, ?_, ?_, ?_⟩
    · show (stored.refusePosition p .busy).font.table = _
      rw [State.refusePosition_table, hfont]
    · exact State.flagSet_refusePosition stored p .busy
    all_goals rw [State.refusePosition_frame stored p .busy, hgiven]

/-- Settles O13: the write is taken, held or passed as the intake offset and the fill have it. -/
theorem ringWriteByItsPlace : Obligations.RingWriteByItsPlace := by
  refine ⟨?taken, ?held, ?passed⟩
  case taken =>
    intro s data c hs hring hroom hc
    refine State.hostCommand_endsIn hs (lt_bankWords_of_inRing hring) ?_ hs.2.2
    rw [State.hostNow_ring hring, State.ringWrite_taken rfl hroom]
    exact State.takeRingWord_good s data hc
  case held =>
    intro s data bus hs hring hfull
    refine State.hostCommand_endsIn hs (lt_bankWords_of_inRing hring) ?_ hs.2.2
    rw [State.hostNow_ring hring, State.ringWrite_held rfl hfull]
  case passed =>
    intro s off data hs hring hoff
    have hend : EndsIn (s.hostCommand off data .good) { s with mem := writeMem s.mem off data } := by
      refine State.hostCommand_endsIn hs (lt_bankWords_of_inRing hring) ?_ hs.2.2
      rw [State.hostNow_ring hring, State.ringWrite_passed hoff]
      rfl
    exact ⟨hend, hend⟩

/-- Settles O22: a released write is a ring write that begins now; an expired one is the overrun, outside a job the
store, the ring's own changes and DISCARDING. -/
theorem holdEnds : Obligations.HoldEnds := by
  refine ⟨?release, ?expiry⟩
  case release =>
    intro s data c hq hcycle htimer hheld hring hroom hc
    refine State.answer_endsIn (o := s.onRelease) ?_ hq
    rw [State.onRelease, hheld]
    refine (if_pos ⟨htimer, by rw [hcycle]; rfl⟩).trans ?_
    rw [State.hostNow_ring (c := { offset := s.intake.intakeOffset, data := data, bus := .good }) hring,
      State.ringWrite_taken (s := { s with port.held := none }) rfl hroom]
    exact congrArg some (State.takeRingWord_good { s with port.held := none } data hc)
  case expiry =>
    intro s c hq hheld htimer hbus hjob
    have hover : s.onHoldExpiry = some (s.overrun c) := by simp [State.onHoldExpiry, hheld, htimer]
    have hend : EndsIn (s.answer s.onHoldExpiry) (s.overrun c) :=
      State.answer_endsIn hover ((overrun_hostBlind c).quiet hq)
    rw [State.overrun_outside hjob, State.overwritten_good hbus, State.overrunOutside_mark] at hend
    exact hend

end Sys2Proof.Machine
end

section
/-! PROOFS. Font Control's operations, each by what it makes of the position table, the width store, the fetch list and
the panel's calls (R47 to R66, R75). -/

namespace Sys2Proof.Machine

/-! ### The position table -/

theorem getElem_set_fin {α : Type} (v : Vector α 8) (p q : Fin 8) (x : α) :
    (v.set p x)[q] = if q = p then x else v[q] := by
  have hpq : (p.val = q.val) ↔ q = p := ⟨fun h => (Fin.ext h).symm, fun h => h ▸ rfl⟩
  simp only [Fin.getElem_fin, Vector.getElem_set, hpq]

@[simp] theorem getElem_set_fin_same {α : Type} (v : Vector α 8) (p : Fin 8) (x : α) : (v.set p x)[p] = x :=
  (getElem_set_fin v p p x).trans (if_pos rfl)

theorem getElem_set_fin_other {α : Type} (v : Vector α 8) {p q : Fin 8} (h : q ≠ p) (x : α) : (v.set p x)[q] = v[q] :=
  (getElem_set_fin v p q x).trans (if_neg h)

/-! ### In-use counts (R49) -/

theorem State.inUseOf_congr {s t : State} (hq : t.queue = s.queue) (hc : ∀ p, t.composer.holds p = s.composer.holds p)
    (p : Fin 8) : t.inUseOf p = s.inUseOf p := by
  simp [State.inUseOf, hq, hc]

theorem State.refreshInUseAt_frame (s : State) (p : Fin 8) : s.refreshInUseAt p = { s with
    font.table := s.font.table.set p { s.font.table[p] with inUse := s.inUseOf p }
    status.marks := (s.refreshInUseAt p).status.marks } := by
  unfold State.refreshInUseAt
  dsimp only
  split
  next h =>
    have hsame : s.font.table.set p { s.font.table[p] with inUse := s.inUseOf p } = s.font.table := by
      rw [← h]
      exact Vector.set_getElem_self _
    rw [hsame]
  next => rfl

/-- The counts of the positions in `l` are brought up to date; the marks follow, and nothing else changes. -/
theorem State.foldl_refreshInUseAt : ∀ (l : List (Fin 8)) (s : State),
    l.foldl State.refreshInUseAt s = { s with
      font.table := (l.foldl State.refreshInUseAt s).font.table
      status.marks := (l.foldl State.refreshInUseAt s).status.marks }
    ∧ ∀ q : Fin 8, (l.foldl State.refreshInUseAt s).font.table[q]
      = if q ∈ l then { s.font.table[q] with inUse := s.inUseOf q } else s.font.table[q]
  | [], _ => ⟨rfl, fun _ => rfl⟩
  | p :: l, s => by
    have hstep := s.refreshInUseAt_frame p
    obtain ⟨hframe, htable⟩ := State.foldl_refreshInUseAt l (s.refreshInUseAt p)
    have huse (q : Fin 8) : (s.refreshInUseAt p).inUseOf q = s.inUseOf q := by rw [hstep]; rfl
    have hentry (q : Fin 8) : (s.refreshInUseAt p).font.table[q]
        = if q = p then { s.font.table[q] with inUse := s.inUseOf q } else s.font.table[q] := by
      rw [hstep]
      dsimp only
      rw [getElem_set_fin]
      split
      next h => rw [h]
      next => rfl
    refine ⟨?_, fun q => ?_⟩
    · rw [List.foldl_cons, hframe, hstep]
    · rw [List.foldl_cons, htable, huse, hentry]
      by_cases hqp : q = p <;> simp [hqp]

/-- Bringing the counts up to date changes the position table and the marks alone. -/
theorem State.refreshInUse_frame (s : State) : s.refreshInUse = { s with
    font.table := s.refreshInUse.font.table, status.marks := s.refreshInUse.status.marks } := by
  unfold State.refreshInUse
  exact (State.foldl_refreshInUseAt _ s).1

/-- Each entry keeps everything but its count. -/
theorem State.refreshInUse_table (s : State) (p : Fin 8) :
    s.refreshInUse.font.table[p] = { s.font.table[p] with inUse := s.inUseOf p } := by
  unfold State.refreshInUse
  exact ((State.foldl_refreshInUseAt _ s).2 p).trans (if_pos (List.mem_finRange p))

theorem State.refreshInUse_upToDate (s : State) : InUseUpToDate s.refreshInUse := by
  intro p
  rw [State.refreshInUse_table]
  exact (State.inUseOf_congr (congrArg State.queue s.refreshInUse_frame :)
    (fun _ => congrArg (fun t : State => t.composer.holds _) s.refreshInUse_frame) p).symm

/-! ### Calls (R57, R59) -/

/-- The call for a position ends: it leaves the call list, whether or not it was in it. -/
@[simp] theorem State.endCall_calls (s : State) (p : Fin 8) :
    (s.endCall p).panel.calls = s.panel.calls.filter (· ≠ p) := by
  unfold State.endCall
  split
  · dsimp only
    split <;> rfl
  next h =>
    refine (List.filter_eq_self.2 fun q hq => ?_).symm
    rw [decide_eq_true_eq]
    rintro rfl
    exact h (List.contains_iff_mem.2 hq)

@[simp] theorem State.makeCall_calls (s : State) (p : Fin 8) :
    (s.makeCall p).panel.calls = s.panel.calls.filter (· ≠ p) ++ [p] := by
  simp [State.makeCall, State.sendCall]

@[simp] theorem State.endCall_font (s : State) (p : Fin 8) : (s.endCall p).font = s.font :=
  (congrArg State.font (s.endCall_frame p) :)

@[simp] theorem State.makeCall_font (s : State) (p : Fin 8) : (s.makeCall p).font = s.font :=
  (congrArg State.font (s.makeCall_frame p) :)

/-! ### An entry becomes VACANT (R61, R64, R65, R75) -/

/-- The entry that a position becomes when it is vacated. -/
def Position.vacated (e : Position) (r : Option Reason) : Position :=
  { Position.vacant with reason := r, inUse := e.inUse }

/-- The state `s` with the entry at `p` VACANT and its width record dropped, before what ends with its old state. -/
def State.vacating (s : State) (p : Fin 8) (r : Option Reason) : State :=
  (s.setPosition p (s.font.table[p].vacated r)).dropWidths p

theorem State.vacate_eq (s : State) (p : Fin 8) (r : Option Reason) :
    s.vacate p r = (s.vacating p r).leaveOldState p s.font.table[p].state := rfl

theorem State.vacating_frame (s : State) (p : Fin 8) (r : Option Reason) : s.vacating p r = { s with
    font := { s.font with
      table := s.font.table.set p (s.font.table[p].vacated r), widths := s.font.widths.set p none }
    composer.fontWait := (s.vacating p r).composer.fontWait
    status.marks := (s.vacating p r).status.marks } := by
  unfold State.vacating State.dropWidths State.setPosition
  dsimp only
  split <;> rfl

/-- A REQUESTED entry takes its call with it, and nothing else. -/
theorem State.vacate_requested {s : State} {p : Fin 8} (h : s.font.table[p].state = .requested) (r : Option Reason) :
    s.vacate p r = (s.vacating p r).endCall p := by
  rw [State.vacate_eq, h]
  rfl

/-- What the withdrawal of a call can change. -/
theorem State.vacate_requested_frame {s : State} {p : Fin 8} (h : s.font.table[p].state = .requested)
    (r : Option Reason) : s.vacate p r = { s with
      font := { s.font with
        table := s.font.table.set p (s.font.table[p].vacated r), widths := s.font.widths.set p none }
      composer.fontWait := (s.vacate p r).composer.fontWait
      panel.outbound := (s.vacate p r).panel.outbound
      panel.sending := (s.vacate p r).panel.sending
      panel.calls := s.panel.calls.filter (· ≠ p)
      panel.alarm := (s.vacate p r).panel.alarm
      status.marks := (s.vacate p r).status.marks } := by
  have hcalls := State.endCall_calls (s.vacating p r) p
  have hframe := State.endCall_frame (s.vacating p r) p
  rw [← State.vacate_requested h] at hcalls hframe
  rw [hframe, hcalls, State.vacating_frame]

/-- An entry that is neither REQUESTED nor LOADING takes nothing with it. -/
theorem State.vacate_other {s : State} {p : Fin 8} (hr : s.font.table[p].state ≠ .requested)
    (hl : s.font.table[p].state ≠ .loading) (r : Option Reason) : s.vacate p r = s.vacating p r := by
  rw [State.vacate_eq]
  cases hs : s.font.table[p].state with
  | requested => exact absurd hs hr
  | loading => exact absurd hs hl
  | _ => rfl

/-- With LIBRARY enabled and no fetch in flight, the head of the list begins (R66). -/
theorem State.startFetches_of_idle {s : State} (hnone : s.font.fetch = none) (hlib : s.port.disabled.library = false) :
    s.startFetches = { s with font.fetch := if s.font.fetchList = [] then none else some (.search 0) } := by
  cases hl : s.font.fetchList with
  | nil => rw [State.startFetches_of_nil hl, if_pos rfl, ← hnone]
  | cons p rest => rw [State.startFetches_of_cons hl hnone hlib, if_neg (List.cons_ne_nil _ _)]

/-- What is in flight once a position has left the fetch list with LIBRARY enabled (R61, R66). -/
def FontControl.fetchWithout (f : FontControl) (p : Fin 8) : Option Fetch :=
  if f.fetchList.head? = some p then if f.fetchList.filter (· ≠ p) = [] then none else some (.search 0) else f.fetch

/-- With LIBRARY enabled, a position leaves the fetch list, and the next fetch begins when it was the head (R61, R66). -/
theorem State.leaveFetchList_frame {s : State} (hlib : s.port.disabled.library = false) (p : Fin 8) :
    s.leaveFetchList p = { s with
      font := { s.font with fetchList := s.font.fetchList.filter (· ≠ p), fetch := s.font.fetchWithout p }
      port.requests := (s.leaveFetchList p).port.requests } := by
  unfold State.leaveFetchList FontControl.fetchWithout
  dsimp only
  by_cases hhead : s.font.fetchList.head? = some p
  · rw [if_pos (beq_iff_eq.2 hhead), if_pos hhead, State.giveUpRequest_eq]
    rw [State.startFetches_of_idle]
    · rfl
    · exact hlib
  · rw [if_neg (by rw [beq_iff_eq]; exact hhead), if_neg hhead]

theorem State.vacate_loading {s : State} {p : Fin 8} (h : s.font.table[p].state = .loading) (r : Option Reason) :
    s.vacate p r = (s.vacating p r).leaveFetchList p := by
  rw [State.vacate_eq, h]
  rfl

/-- What a fetch given up can change, with LIBRARY enabled. -/
theorem State.vacate_loading_frame {s : State} {p : Fin 8} (h : s.font.table[p].state = .loading)
    (hlib : s.port.disabled.library = false) (r : Option Reason) : s.vacate p r = { s with
      font := { s.font with
        table := s.font.table.set p (s.font.table[p].vacated r), widths := s.font.widths.set p none
        fetchList := s.font.fetchList.filter (· ≠ p), fetch := s.font.fetchWithout p }
      composer.fontWait := (s.vacate p r).composer.fontWait
      port.requests := (s.vacate p r).port.requests
      status.marks := (s.vacate p r).status.marks } := by
  have hvacating := s.vacating_frame p r
  have hframe : (s.vacating p r).leaveFetchList p = _ :=
    State.leaveFetchList_frame (by rw [hvacating]; exact hlib) p
  rw [← State.vacate_loading h] at hframe
  rw [hframe, hvacating]
  rfl

end Sys2Proof.Machine
end

section
/-! PROOFS. The interventions (R174, R190): which words are taken, and what each one taken leads to. -/

namespace Sys2Proof.Machine

/-! ### Taken and refused (R174) -/

theorem hiByte_interventionWord {k : Nat} (hk : k < 256) (arg : Byte) : hiByte (interventionWord k arg) = k := by
  have := arg.isLt
  simp only [hiByte, interventionWord, pairWord, BitVec.toNat_ofNat]
  omega

theorem loByte_interventionWord (k : Nat) (arg : Byte) : loByte (interventionWord k arg) = arg.toNat := by
  have := arg.isLt
  simp only [loByte, interventionWord, pairWord, BitVec.toNat_ofNat]
  omega

/-- An intervention that is taken: memory receives 0. -/
theorem State.intervention_taken {s t : State} {v : Word} (hs : HostIdle s) (h : s.intervene v = some t) :
    EndsIn (s.hostCommand interventionCell v .good) { t with mem := writeMem t.mem 34 0 } := by
  refine State.hostCommand_endsIn hs (off := interventionCell) (by decide) ?_
    (quiet_of_hostSide (State.intervene_hostSide h) hs.2.2 : Quiet t)
  rw [State.hostNow_interventionCell, State.interventionWritten, h]
  rfl

/-- An intervention that is refused: memory receives the word written. -/
theorem State.intervention_refused {s : State} {v : Word} (hs : HostIdle s) (h : s.intervene v = none) :
    EndsIn (s.hostCommand interventionCell v .good) (s.write 34 v) := by
  refine State.hostCommand_endsIn hs (off := interventionCell) (by decide) ?_ hs.2.2
  rw [State.hostNow_interventionCell, State.interventionWritten, h]
  rfl

/-- What a code decides, argument aside. -/
def State.taken (s : State) (k arg : Nat) : Option State :=
  match k with
  | 1 => s.abortJobTaken
  | 2 => s.withdrawTaken arg
  | 3 => s.clearPathTaken arg
  | 4 => s.inboxTakenTaken
  | 5 => s.captureTakenTaken
  | 6 => s.returnRequestTaken
  | 7 => s.ringResetTaken
  | 8 => s.repostTaken
  | _ => none

theorem State.intervene_eq (s : State) (v : Word) : s.intervene v = s.taken (hiByte v) (loByte v) := rfl

theorem State.intervene_word (s : State) {k : Nat} (hk : k < 256) (arg : Byte) :
    s.intervene (interventionWord k arg) = s.taken k arg.toNat := by
  rw [State.intervene_eq, hiByte_interventionWord hk, loByte_interventionWord]

theorem State.intervene_of_no_code {s : State} {w : Word} (h : namesNoIntervention w = true) :
    s.intervene w = none := by
  simp only [namesNoIntervention, Bool.or_eq_true, decide_eq_true_eq] at h
  rw [State.intervene_eq]
  unfold State.taken hiByte
  split
  case h_9 => rfl
  all_goals omega

theorem asPosition_val (p : Fin 8) : asPosition p.val = some p := by
  simp [asPosition, p.isLt]

theorem State.withdrawTaken_of_other {s : State} {n : Nat}
    (h : ∀ p : Fin 8, p.val = n → s.font.table[p].state ≠ .requested ∧ s.font.table[p].state ≠ .loading) :
    s.withdrawTaken n = none := by
  unfold State.withdrawTaken
  split
  next p hp =>
    have hval : p.val = n := by
      unfold asPosition at hp
      split at hp <;> cases hp
      rfl
    obtain ⟨hr, hl⟩ := h p hval
    exact if_neg (not_or.2 ⟨hr, hl⟩)
  next => rfl

theorem State.withdrawTaken_of {s : State} {p : Fin 8}
    (h : s.font.table[p].state = .requested ∨ s.font.table[p].state = .loading) :
    s.withdrawTaken p.val = some (s.vacate p (some .withdrawn)) := by
  unfold State.withdrawTaken
  rw [asPosition_val]
  exact if_pos h

theorem clearable_of_none {n : Nat} (h : n = 0 ∨ 4 < n) : clearable n = none := by
  unfold clearable
  split
  case h_5 => rfl
  all_goals omega

/-- Settles O18: none of the words is taken. -/
theorem refusedInterventionChangesNothing : Obligations.RefusedInterventionChangesNothing := by
  intro s arg w hs
  refine ⟨fun hw => State.intervention_refused hs (State.intervene_of_no_code hw), fun h => ?_, fun h => ?_,
    fun ho hd => ?_⟩
  · have hnone : s.intervene (interventionWord 2 arg) = none :=
      (s.intervene_word (by decide) arg).trans (State.withdrawTaken_of_other h)
    exact interventionWord_eq 2 arg ▸ State.intervention_refused hs hnone
  · have hnone : s.intervene (interventionWord 3 arg) = none :=
      (s.intervene_word (by decide) arg).trans (by
        show (clearable arg.toNat).map _ = none
        rw [clearable_of_none h]; rfl)
    exact interventionWord_eq 3 arg ▸ State.intervention_refused hs hnone
  · have hnone : s.intervene (interventionWord 7 arg) = none :=
      (s.intervene_word (by decide) arg).trans (if_neg (not_or.2 ⟨ho, hd⟩))
    exact interventionWord_eq 7 arg ▸ State.intervention_refused hs hnone

/-- Settles O21: RING RESET is a state written out, and REPOST marks the posted words. -/
theorem ringResetAndRepost : Obligations.RingResetAndRepost := by
  refine ⟨?reset, ?repost⟩
  case reset =>
    intro s arg hs hstate
    have htaken := State.intervention_taken hs ((s.intervene_word (by decide) arg).trans (if_pos hstate) :
      s.intervene (interventionWord 7 arg) = _)
    rw [State.giveUpRequest_eq] at htaken
    exact htaken
  case repost =>
    intro s arg hs
    have htaken := State.intervention_taken hs
      ((s.intervene_word (by decide) arg) : s.intervene (interventionWord 8 arg) = some s.markAll)
    have hposted (off : Nat) : off ∈ s.markAll.status.marks ↔ off ∈ s.status.marks ∨ off ∈ postedOffsets :=
      (State.mem_mark s postedOffsets off).trans or_comm
    have hframe := s.markAll_frame
    generalize s.markAll = marked at hframe htaken hposted
    rw [show marked.mem = s.mem from (congrArg State.mem hframe :)] at htaken
    refine ⟨_, htaken, hposted, ?_⟩
    rw [hframe]

/-! ### The interventions taken -/

theorem State.markIf_write (s : State) (b : Bool) (l : List Nat) (off : Nat) (w : Word) :
    { s.markIf b l with mem := writeMem (s.markIf b l).mem off w }
      = State.markIf { s with mem := writeMem s.mem off w } b l := by
  cases b <;> rfl

/-- RETURN REQUEST: the notice, and the alarm when it is silent (R150). -/
theorem State.returnRequest_eq (s : State) (m : List (Nat × Word)) :
    { (s.showWith true none).alarmOnce with mem := m } =
      (let shown := State.linked { s with
        mem := m
        panel.outbound := s.panel.outbound.filter (fun m => !m.isDisplay) ++ [.display .notice s.panel.hostLine] }
      if s.panel.alarm = .silent then
        State.linked { shown with panel.outbound := shown.panel.outbound.filter (fun m => !m.isAlarm) ++ [.alarm .once] }
      else shown) := by
  unfold State.alarmOnce
  rw [State.showWith_panel_alarm]
  split <;> rfl

/-- Settles O20: each intervention taken leads to its own operation's state, with the cell cleared. -/
theorem interventionsTaken : Obligations.InterventionsTaken := by
  refine ⟨?withdraw, ?clearPath, ?emptied, ?returnRequest⟩
  case withdraw =>
    intro s arg p hs hp
    have htaken (h : s.font.table[p].state = .requested ∨ s.font.table[p].state = .loading) :=
      State.intervention_taken hs (((s.intervene_word (by decide) arg).trans (hp ▸ State.withdrawTaken_of h)) :
        s.intervene (interventionWord 2 arg) = some (s.vacate p (some .withdrawn)))
    refine ⟨fun h => ?_, fun h hlib => ?_⟩
    · have hframe := State.vacate_requested_frame h (some .withdrawn)
      have hend := htaken (.inl h)
      generalize s.vacate p (some .withdrawn) = u at hframe hend
      refine ⟨_, hend, ?_, ?_, ?_, ?_, ?_, ?_⟩ <;> rw [hframe]
      rfl
    · have hframe := State.vacate_loading_frame h hlib (some .withdrawn)
      have hend := htaken (.inr h)
      generalize s.vacate p (some .withdrawn) = u at hframe hend
      refine ⟨_, hend, ?_, ?_, ?_, ?_, ?_, ?_⟩ <;> rw [hframe]
      rfl
  case clearPath =>
    intro s arg r hs hr
    have hnamed : clearable arg.toNat = some r := by
      simp only [List.mem_cons, List.not_mem_nil, or_false, Prod.mk.injEq] at hr
      rcases hr with ⟨rfl, rfl⟩ | ⟨rfl, rfl⟩ | ⟨rfl, rfl⟩ | ⟨rfl, rfl⟩ <;> rfl
    have htaken := State.intervention_taken hs (((s.intervene_word (by decide) arg).trans
      (congrArg (Option.map _) hnamed)) : s.intervene (interventionWord 3 arg) = _)
    rw [State.markIf_write] at htaken
    cases hd : s.port.disabled.get r <;> rw [hd] at htaken <;> exact htaken
  case emptied =>
    intro s arg hs
    have hinbox := State.intervention_taken hs (s.intervene_word (k := 4) (by decide) arg)
    have hcapture := State.intervention_taken hs (s.intervene_word (k := 5) (by decide) arg)
    rw [State.markIf_write] at hinbox hcapture
    exact ⟨hinbox, hcapture⟩
  case returnRequest =>
    intro s arg hs
    have htaken := State.intervention_taken hs (s.intervene_word (k := 6) (by decide) arg)
    have hmem : (s.showWith true none).alarmOnce.mem = s.mem :=
      (congrArg State.mem (State.alarmOnce_frame _)).trans (s.showWith_mem true none)
    rw [State.returnRequest_eq, hmem] at htaken
    exact htaken

end Sys2Proof.Machine
end

section
/-! PROOFS. The job abort (R75, R100, R111, R113, R162), operation after operation, and the three roads to it. -/

namespace Sys2Proof.Machine

/-! ### The calls of the aborted job are withdrawn (R75) -/

/-- The entry is REQUESTED by a call that a FONT command of job `t` made. -/
abbrev Position.calledBy (e : Position) (t : JobTag) : Prop := e.state = .requested ∧ e.origin = some (.font t)

/-- The call for `p` is withdrawn when job `t` made it. -/
def State.withdrawAt (t : JobTag) (s : State) (p : Fin 8) : State :=
  if s.font.table[p].calledBy t then s.vacate p (some .withdrawn) else s

theorem State.withdrawCalls_eq (s : State) (t : JobTag) :
    s.withdrawCalls t = (List.finRange 8).foldl (State.withdrawAt t) s := rfl

/-- What withdrawing calls can change. -/
def WithdrawFrame (s u : State) : Prop := u = { s with
  font := { s.font with table := u.font.table, widths := u.font.widths }
  composer.fontWait := u.composer.fontWait
  panel.outbound := u.panel.outbound
  panel.sending := u.panel.sending
  panel.calls := u.panel.calls
  panel.alarm := u.panel.alarm
  status.marks := u.status.marks }

/-- The entry at `q` is as it was, or withdrawn when `w` holds. -/
def WithdrawnWhen (w : Prop) (s u : State) (q : Fin 8) : Prop :=
  (w → u.font.table[q] = s.font.table[q].vacated (some .withdrawn) ∧ u.font.widths[q] = none ∧ q ∉ u.panel.calls)
  ∧ (¬ w → u.font.table[q] = s.font.table[q] ∧ u.font.widths[q] = s.font.widths[q]
      ∧ (q ∈ u.panel.calls ↔ q ∈ s.panel.calls))

theorem WithdrawFrame.trans {s t u : State} (h : WithdrawFrame s t) (h' : WithdrawFrame t u) : WithdrawFrame s u := by
  unfold WithdrawFrame at *
  rw [h'] 
  rw [h]

section
variable {s u : State} (h : WithdrawFrame s u)
include h
theorem WithdrawFrame.waitingReport : u.waitingReport = s.waitingReport := (congrArg State.waitingReport h :)
theorem WithdrawFrame.queue : u.queue = s.queue := (congrArg State.queue h :)
theorem WithdrawFrame.composer : u.composer = { s.composer with fontWait := u.composer.fontWait } :=
  (congrArg State.composer h :)
theorem WithdrawFrame.status : u.status = { s.status with marks := u.status.marks } := (congrArg State.status h :)
theorem WithdrawFrame.flagSet (f : EventFlag) : u.flagSet f = s.flagSet f :=
  (congrArg (fun t : State => t.flagSet f) h :)
end

theorem State.withdrawAt_frame (t : JobTag) (s : State) (p : Fin 8) : WithdrawFrame s (s.withdrawAt t p) := by
  unfold State.withdrawAt
  split
  next h => 
    have hframe := State.vacate_requested_frame h.1 (some .withdrawn)
    unfold WithdrawFrame
    generalize s.vacate p (some .withdrawn) = u at hframe
    rw [hframe]
  next => rfl

theorem State.withdrawAt_entry (t : JobTag) (s : State) (p q : Fin 8) :
    WithdrawnWhen (q = p ∧ s.font.table[q].calledBy t) s (s.withdrawAt t p) q := by
  unfold State.withdrawAt
  split
  next h =>
    rw [State.vacate_requested_frame h.1 (some .withdrawn)]
    refine ⟨fun ⟨hqp, _⟩ => ?_, fun hn => ?_⟩
    · subst hqp
      exact ⟨getElem_set_fin_same _ _ _, getElem_set_fin_same _ _ _, by simp⟩
    · have hqp : q ≠ p := fun hqp => hn ⟨hqp, hqp ▸ h⟩
      exact ⟨getElem_set_fin_other _ hqp _, getElem_set_fin_other _ hqp _, by simp [hqp]⟩
  next h =>
    exact ⟨fun ⟨hqp, hcalled⟩ => absurd (hqp ▸ hcalled) h, fun _ => ⟨rfl, rfl, Iff.rfl⟩⟩

theorem State.foldl_withdrawAt (t : JobTag) : ∀ (l : List (Fin 8)) (s : State),
    WithdrawFrame s (l.foldl (State.withdrawAt t) s)
    ∧ ∀ q, WithdrawnWhen (q ∈ l ∧ s.font.table[q].calledBy t) s (l.foldl (State.withdrawAt t) s) q
  | [], s => ⟨rfl, fun _ => ⟨fun h => absurd h.1 List.not_mem_nil, fun _ => ⟨rfl, rfl, Iff.rfl⟩⟩⟩
  | p :: l, s => by
    obtain ⟨hframe, hentry⟩ := State.foldl_withdrawAt t l (s.withdrawAt t p)
    refine ⟨(s.withdrawAt_frame t p).trans hframe, fun q => ?_⟩
    obtain ⟨hgone, hstood⟩ := s.withdrawAt_entry t p q
    obtain ⟨hlater, hkept⟩ := hentry q
    rw [List.foldl_cons]
    by_cases hcalled : s.font.table[q].calledBy t
    · by_cases hqp : q = p
      · obtain ⟨htable, hwidths, hcalls⟩ := hgone ⟨hqp, hcalled⟩
        have hno : ¬ (q ∈ l ∧ (s.withdrawAt t p).font.table[q].calledBy t) := by
          rw [htable]
          exact fun h => PosState.noConfusion h.2.1
        obtain ⟨htable', hwidths', hcalls'⟩ := hkept hno
        exact ⟨fun _ => ⟨htable'.trans htable, hwidths'.trans hwidths, fun h => hcalls (hcalls'.1 h)⟩,
          fun h => absurd ⟨hqp ▸ List.mem_cons_self, hcalled⟩ h⟩
      · obtain ⟨htable, hwidths, hcalls⟩ := hstood (fun h => hqp h.1)
        rw [htable] at hlater hkept
        refine ⟨fun ⟨hmem, _⟩ => hlater ⟨(List.mem_cons.1 hmem).resolve_left hqp, hcalled⟩, fun hn => ?_⟩
        obtain ⟨htable', hwidths', hcalls'⟩ := hkept (fun h => hn ⟨List.mem_cons_of_mem _ h.1, hcalled⟩)
        exact ⟨htable', hwidths'.trans hwidths, hcalls'.trans hcalls⟩
    · obtain ⟨htable, hwidths, hcalls⟩ := hstood (fun h => hcalled h.2)
      rw [htable] at hkept
      obtain ⟨htable', hwidths', hcalls'⟩ := hkept (fun h => hcalled h.2)
      exact ⟨fun h => absurd h.2 hcalled, fun _ => ⟨htable', hwidths'.trans hwidths, hcalls'.trans hcalls⟩⟩

theorem State.withdrawCalls_frame (s : State) (t : JobTag) : WithdrawFrame s (s.withdrawCalls t) := by
  rw [State.withdrawCalls_eq]
  exact (State.foldl_withdrawAt t _ s).1

theorem State.withdrawCalls_entry (s : State) (t : JobTag) (q : Fin 8) :
    WithdrawnWhen (s.font.table[q].calledBy t) s (s.withdrawCalls t) q := by
  rw [State.withdrawCalls_eq]
  obtain ⟨hgone, hstood⟩ := (State.foldl_withdrawAt t (List.finRange 8) s).2 q
  exact ⟨fun h => hgone ⟨List.mem_finRange q, h⟩, fun h => hstood (fun h' => h h'.2)⟩

/-- No FONT WAIT begins where an entry changes. -/
theorem State.setPosition_fontWait_none {s : State} (h : s.composer.fontWait = none) (p : Fin 8) (e : Position) :
    (s.setPosition p e).composer.fontWait = none := by
  unfold State.setPosition
  dsimp only
  split
  · exact h
  · exact congrArg (Option.map _) h

theorem State.withdrawCalls_fontWait_none {s : State} (h : s.composer.fontWait = none) (t : JobTag) :
    (s.withdrawCalls t).composer.fontWait = none := by
  rw [State.withdrawCalls_eq]
  refine List.foldlRecOn (motive := fun u : State => u.composer.fontWait = none) _ _ h fun u hu p _ => ?_
  unfold State.withdrawAt
  split
  next hcalled =>
    rw [State.vacate_requested hcalled.1, State.endCall_frame]
    exact State.setPosition_fontWait_none hu p _
  next => exact hu

/-! ### The entries of the aborted job leave the queue (R111, R162) -/

/-- The abort of job `t` removes the entry in proof. -/
def State.removesProof (s : State) (t : JobTag) : Bool := s.queue.any (fun e => e.removedBy t && e.proof == .inProof)

/-- The state `s` with the entries of job `t` removed, before the in-use counts follow. -/
def State.removing (s : State) (t : JobTag) : State :=
  { s with
    queue := s.queue.filter (fun e => !e.removedBy t)
    proof := if s.removesProof t then { s.proof with records := [], written := 0 } else s.proof
    port.requests := if s.removesProof t then s.port.requests.set .spool
        ((s.port.requests.get .spool).map (fun q => { q with stale := true }))
      else s.port.requests }

theorem State.removeEntries_eq (s : State) (t : JobTag) : s.removeEntries t = (s.removing t).refreshInUse := by
  refine congrArg State.refreshInUse ?_
  unfold State.removing State.removesProof
  split
  · unfold State.giveUpProof
    rw [State.giveUpRequest_eq]
  · rfl

theorem State.removeEntries_frame (s : State) (t : JobTag) : s.removeEntries t = { s.removing t with
    font.table := (s.removeEntries t).font.table, status.marks := (s.removeEntries t).status.marks } := by
  rw [State.removeEntries_eq]
  exact State.refreshInUse_frame _

theorem State.removeEntries_table (s : State) (t : JobTag) (p : Fin 8) :
    (s.removeEntries t).font.table[p] = { s.font.table[p] with inUse := (s.removeEntries t).inUseOf p } := by
  have hup : (s.removeEntries t).font.table[p].inUse = (s.removeEntries t).inUseOf p := by
    rw [State.removeEntries_eq]
    exact State.refreshInUse_upToDate _ p
  rw [← hup, State.removeEntries_eq, State.refreshInUse_table]
  rfl

/-- The entry in exposure is none that a job abort removes. -/
theorem State.inExposure_removeEntries (s : State) (t : JobTag) : (s.removeEntries t).inExposure = s.inExposure := by
  have hqueue : (s.removeEntries t).queue = s.queue.filter (fun e => !e.removedBy t) :=
    (congrArg State.queue (s.removeEntries_frame t) :)
  unfold State.inExposure
  rw [hqueue, List.find?_filter]
  refine congrArg (fun f => List.find? f s.queue) (funext fun e => ?_)
  cases hphoto : e.photo <;> simp [Entry.removedBy, hphoto]

/-! ### The report of the abort (R113) -/

theorem State.reportAbort_frame (s : State) (r : WaitingReport) : s.reportAbort r = { s with
    exposure := (s.reportAbort r).exposure
    panel.outbound := (s.reportAbort r).panel.outbound
    panel.sending := (s.reportAbort r).panel.sending
    status.reports := (s.reportAbort r).status.reports
    status.nextSlot := (s.reportAbort r).status.nextSlot
    status.marks := (s.reportAbort r).status.marks
    status.flags := (s.reportAbort r).status.flags } := by
  unfold State.reportAbort
  dsimp only
  split
  · rw [State.setExposure_frame, State.writeReport_frame]
  · rw [State.writeReport_frame]

/-- What an abort's report reads once it is written (R113). -/
theorem State.reportAbort_written (s : State) (r : WaitingReport) :
    (s.reportAbort r).flagSet .jobReport = true
    ∧ (s.reportAbort r).status.nextSlot = s.status.nextSlot + 1
    ∧ (s.reportAbort r).status.reports = s.status.reports.set s.status.nextSlot
        { job := r.tag.number, outcome := some r.outcome, linesSet := r.linesSet, sumComputed := 0, sumGiven := 0,
          linesExposed := if s.exposure.tag = some r.tag then s.exposure.lines else 0,
          film := if s.exposure.tag = some r.tag then s.exposure.film else 0,
          flags := { r.flags with
            clamped := r.flags.clamped || (decide (s.exposure.tag = some r.tag) && s.exposure.clamped) } } := by
  have hmine : s.reachesRecord (some r.tag) = decide (s.exposure.tag = some r.tag) := by
    simp [State.reachesRecord, eq_comm, beq_eq_decide]
  have hwritten (x : Report) : (s.writeReport x).flagSet .jobReport = true
      ∧ (s.writeReport x).status.nextSlot = s.status.nextSlot + 1
      ∧ (s.writeReport x).status.reports = s.status.reports.set s.status.nextSlot x := by
    refine ⟨State.flagSet_raise_same _ _, ?_, ?_⟩ <;> simp [State.writeReport]
  unfold State.reportAbort
  simp only [hmine, decide_eq_true_eq]
  split
  next h =>
    rw [State.setExposure_frame]
    exact hwritten _
  next h => exact hwritten _

theorem State.abortReport_eq (s : State) (r : WaitingReport) : s.abortReport r =
    if s.inExposure.any (fun e => e.tag == some r.tag) then { s with waitingReport := some r } else s.reportAbort r := rfl

/-- What the report of an abort can change. -/
theorem State.abortReport_frame (s : State) (r : WaitingReport) : s.abortReport r = { s with
    waitingReport := (s.abortReport r).waitingReport
    exposure := (s.abortReport r).exposure
    panel.outbound := (s.abortReport r).panel.outbound
    panel.sending := (s.abortReport r).panel.sending
    status.reports := (s.abortReport r).status.reports
    status.nextSlot := (s.abortReport r).status.nextSlot
    status.marks := (s.abortReport r).status.marks
    status.flags := (s.abortReport r).status.flags } := by
  rw [State.abortReport_eq]
  split
  · rfl
  · have hframe := State.reportAbort_frame s r
    generalize s.reportAbort r = u at hframe
    rw [hframe]

/-! ### The abort of a job in progress -/

/-- The state `s` with the Composer in DISCARDING and the job over, before the queue is told (R100). -/
def State.aborting (s : State) : State :=
  ((State.resolveSize { s with
    composer := s.composer.aborted, intake.job.inProgress := false, intake.job.sum := 0,
    intake.decoder := s.intake.decoder.map Command.drop } initialSize).mark [6]).setComposer .discarding

/-- The report that an abort with outcome `o` writes (R113). -/
def State.abortRecord (s : State) (o : JobOutcome) : WaitingReport :=
  { tag := s.currentTag, outcome := o, flags := s.intake.job.flags, linesSet := s.intake.job.linesSet }

theorem State.jobAbort_eq {s : State} (h : s.intake.job.inProgress = true) (o : JobOutcome) : s.jobAbort o =
    ((s.aborting.removeEntries s.currentTag).abortReport (s.abortRecord o)).withdrawCalls s.currentTag := by
  unfold State.jobAbort
  rw [if_pos h]
  rfl

theorem State.aborting_frame (s : State) : s.aborting = { s with
    composer := s.aborting.composer
    intake := { s.intake with
      job := { s.intake.job with inProgress := false, sum := 0 }, decoder := s.intake.decoder.map Command.drop }
    status.marks := s.aborting.status.marks } := by
  unfold State.aborting
  rw [State.setComposer_frame]
  rfl

/-- What a job abort can change. -/
theorem State.jobAbort_frame {s : State} (h : s.intake.job.inProgress = true) (o : JobOutcome) : s.jobAbort o = { s with
    composer := { s.aborting.composer with fontWait := (s.jobAbort o).composer.fontWait }
    intake := { s.intake with
      job := { s.intake.job with inProgress := false, sum := 0 }, decoder := s.intake.decoder.map Command.drop }
    queue := s.queue.filter (fun e => !e.removedBy s.currentTag)
    proof := (s.removing s.currentTag).proof
    port.requests := (s.removing s.currentTag).port.requests
    font := { s.font with table := (s.jobAbort o).font.table, widths := (s.jobAbort o).font.widths }
    exposure := (s.jobAbort o).exposure
    waitingReport := (s.jobAbort o).waitingReport
    panel.outbound := (s.jobAbort o).panel.outbound
    panel.sending := (s.jobAbort o).panel.sending
    panel.calls := (s.jobAbort o).panel.calls
    panel.alarm := (s.jobAbort o).panel.alarm
    status.reports := (s.jobAbort o).status.reports
    status.nextSlot := (s.jobAbort o).status.nextSlot
    status.marks := (s.jobAbort o).status.marks
    status.flags := (s.jobAbort o).status.flags } := by
  rw [State.jobAbort_eq h]
  have haborting := s.aborting_frame
  have hremoved := s.aborting.removeEntries_frame s.currentTag
  have hreported := (s.aborting.removeEntries s.currentTag).abortReport_frame (s.abortRecord o)
  have hwithdrawn := ((s.aborting.removeEntries s.currentTag).abortReport (s.abortRecord o)).withdrawCalls_frame
    s.currentTag
  have hremoving : (s.aborting.removing s.currentTag) = { s.aborting with
      queue := s.queue.filter (fun e => !e.removedBy s.currentTag)
      proof := (s.removing s.currentTag).proof
      port.requests := (s.removing s.currentTag).port.requests } := by
    rw [haborting]
    rfl
  rw [hremoving] at hremoved
  unfold WithdrawFrame at hwithdrawn
  generalize ((s.aborting.removeEntries s.currentTag).abortReport (s.abortRecord o)).withdrawCalls s.currentTag = u at *
  generalize (s.aborting.removeEntries s.currentTag).abortReport (s.abortRecord o) = r at *
  generalize s.aborting.removeEntries s.currentTag = q at *
  generalize s.aborting = a at *
  rw [hwithdrawn, hreported, hremoved, haborting]

theorem State.aborting_composer (s : State) : s.aborting.composer = { (State.resolveSize { s with
    composer := s.composer.aborted, intake.job.inProgress := false, intake.job.sum := 0,
    intake.decoder := s.intake.decoder.map Command.drop } initialSize).composer with state := .discarding } :=
  State.markIf_composer _ _ _

theorem State.jobAbort_fontWait {s : State} (h : s.intake.job.inProgress = true) (o : JobOutcome) :
    (s.jobAbort o).composer.fontWait = none := by
  rw [State.jobAbort_eq h]
  apply State.withdrawCalls_fontWait_none
  rw [State.abortReport_frame, State.removeEntries_frame]
  show s.aborting.composer.fontWait = none
  rw [State.aborting_composer]
  rfl

/-- The report of a job abort is written, or waits on the entry in exposure (R113). -/
theorem State.jobAbort_report {s : State} (h : s.intake.job.inProgress = true) (o : JobOutcome) :
    if s.inExposure.any (fun e => e.tag == some s.currentTag) then
      (s.jobAbort o).waitingReport = some (s.abortRecord o)
        ∧ (s.jobAbort o).status.nextSlot = s.status.nextSlot ∧ (s.jobAbort o).status.reports = s.status.reports
    else
      (s.jobAbort o).waitingReport = s.waitingReport ∧ (s.jobAbort o).flagSet .jobReport = true
        ∧ (s.jobAbort o).status.nextSlot = s.status.nextSlot + 1
        ∧ (s.jobAbort o).status.reports = s.status.reports.set s.status.nextSlot
          { job := s.intake.job.number, outcome := some o, linesSet := s.intake.job.linesSet, sumComputed := 0,
            sumGiven := 0,
            linesExposed := if s.exposure.tag = some s.currentTag then s.exposure.lines else 0,
            film := if s.exposure.tag = some s.currentTag then s.exposure.film else 0,
            flags := { s.intake.job.flags with
              clamped := s.intake.job.flags.clamped
                || (decide (s.exposure.tag = some s.currentTag) && s.exposure.clamped) } } := by
  obtain ⟨q, hq⟩ : ∃ q, q = s.aborting.removeEntries s.currentTag := ⟨_, rfl⟩
  have hexposure : q.inExposure = s.inExposure := by
    rw [hq, State.inExposure_removeEntries, State.aborting_frame]
    rfl
  obtain ⟨hslot, hreports, hexp, hwaiting⟩ : q.status.nextSlot = s.status.nextSlot
      ∧ q.status.reports = s.status.reports ∧ q.exposure = s.exposure ∧ q.waitingReport = s.waitingReport := by
    rw [hq, State.removeEntries_frame]
    unfold State.removing
    rw [State.aborting_frame]
    exact ⟨rfl, rfl, rfl, rfl⟩
  have hframe := (q.abortReport (s.abortRecord o)).withdrawCalls_frame s.currentTag
  rw [State.jobAbort_eq h, ← hq]
  generalize (q.abortReport (s.abortRecord o)).withdrawCalls s.currentTag = u at hframe
  rw [hframe.waitingReport, hframe.status, hframe.flagSet, State.abortReport_eq, hexposure,
    show (s.abortRecord o).tag = s.currentTag from rfl]
  split
  next hin => exact ⟨rfl, hslot, hreports⟩
  next hin =>
    obtain ⟨hflag, hnext, hset⟩ := q.reportAbort_written (s.abortRecord o)
    refine ⟨(congrArg State.waitingReport (q.reportAbort_frame _) :).trans hwaiting, hflag, hnext.trans ?_,
      hset.trans ?_⟩
    · rw [hslot]
    · simp only [hslot, hreports, hexp]
      rfl

/-- The entries, width records and calls after a job abort (R49, R75). -/
theorem State.jobAbort_entries {s : State} (h : s.intake.job.inProgress = true) (o : JobOutcome) (p : Fin 8) :
    (s.font.table[p].calledBy s.currentTag →
      (s.jobAbort o).font.table[p]
          = { s.font.table[p].vacated (some .withdrawn) with inUse := (s.jobAbort o).inUseOf p }
        ∧ (s.jobAbort o).font.widths[p] = none ∧ p ∉ (s.jobAbort o).panel.calls)
    ∧ (¬ s.font.table[p].calledBy s.currentTag →
      (s.jobAbort o).font.table[p] = { s.font.table[p] with inUse := (s.jobAbort o).inUseOf p }
        ∧ (s.jobAbort o).font.widths[p] = s.font.widths[p]
        ∧ (p ∈ (s.jobAbort o).panel.calls ↔ p ∈ s.panel.calls)) := by
  obtain ⟨q, hq⟩ : ∃ q, q = s.aborting.removeEntries s.currentTag := ⟨_, rfl⟩
  obtain ⟨hwidths, hcalls⟩ : q.font.widths = s.font.widths ∧ q.panel.calls = s.panel.calls := by
    rw [hq, State.removeEntries_frame]
    unfold State.removing
    rw [State.aborting_frame]
    exact ⟨rfl, rfl⟩
  have htable : q.font.table[p] = { s.font.table[p] with inUse := q.inUseOf p } := by
    have h := s.aborting.removeEntries_table s.currentTag p
    rw [← hq, show s.aborting.font = s.font from (congrArg State.font s.aborting_frame :)] at h
    exact h
  have hreport := q.abortReport_frame (s.abortRecord o)
  rw [State.jobAbort_eq h, ← hq]
  generalize q.abortReport (s.abortRecord o) = r at hreport
  have hframe := r.withdrawCalls_frame s.currentTag
  have hentry := r.withdrawCalls_entry s.currentTag p
  generalize r.withdrawCalls s.currentTag = u at hframe hentry
  have huse : u.inUseOf p = q.inUseOf p := by
    refine State.inUseOf_congr (hframe.queue.trans (congrArg State.queue hreport :)) (fun p => ?_) p
    rw [hframe.composer, hreport]
    rfl
  unfold WithdrawnWhen at hentry
  rw [show r.font = q.font from (congrArg State.font hreport :),
    show r.panel.calls = q.panel.calls from (congrArg (fun t : State => t.panel.calls) hreport :), hcalls, hwidths,
    htable, ← huse] at hentry
  exact hentry

/-- A job abort does to the part what the rules it names say (R191). -/
theorem State.jobAborted {s : State} (h : s.intake.job.inProgress = true) (o : JobOutcome) :
    JobAborted s (s.jobAbort o) o := by
  have hwait := State.jobAbort_fontWait h o
  have hreport := State.jobAbort_report h o
  have hentries := State.jobAbort_entries h o
  have hframe := State.jobAbort_frame h o
  generalize s.jobAbort o = u at *
  have hcomposer : u.composer = { s.aborting.composer with fontWait := u.composer.fontWait } :=
    (congrArg State.composer hframe :)
  rw [State.aborting_composer] at hcomposer
  refine ⟨?composer, (congrArg (fun t : State => t.intake.job) hframe :), (congrArg State.queue hframe :), hreport,
    ?font, ?proof, ?rest⟩
  case composer =>
    refine ⟨?_, ?_, ?_, ?_, ?_, ?_, ?_, ?_, ?_, ?_, ?_, hwait⟩ <;> rw [hcomposer] <;> rfl
  case font =>
    have hup : InUseUpToDate u := fun p => by
      obtain ⟨hgone, hstood⟩ := hentries p
      by_cases hcalled : s.font.table[p].calledBy s.currentTag
      · rw [(hgone hcalled).1]
      · rw [(hstood hcalled).1]
    refine ⟨hup, (congrArg (fun t : State => t.font.fetchList) hframe :),
      (congrArg (fun t : State => t.font.fetch) hframe :), fun p => ⟨fun hcalled => ?_, fun hother => ?_⟩⟩
    · obtain ⟨htable, hwidths, hcalls⟩ := (hentries p).1 hcalled
      exact ⟨hcalls, hwidths, by rw [hup p]; exact htable⟩
    · obtain ⟨htable, hwidths, hcalls⟩ := (hentries p).2 hother
      exact ⟨hcalls, hwidths, by rw [hup p]; exact htable⟩
  case proof =>
    have hproof : u.proof = (s.removing s.currentTag).proof := (congrArg State.proof hframe :)
    have hport : u.port.requests.spool = (s.removing s.currentTag).port.requests.spool :=
      (congrArg (fun t : State => t.port.requests.spool) hframe :)
    rw [hproof, hport]
    unfold State.removing
    dsimp only
    cases hremoves : s.removesProof s.currentTag with
    | false => exact (if_neg (by rw [Bool.not_eq_true]; exact hremoves)).mpr ⟨rfl, rfl⟩
    | true => exact (if_pos hremoves).mpr ⟨rfl, rfl⟩
  case rest =>
    rw [hframe]
    exact ⟨rfl, rfl, rfl, rfl, rfl, rfl⟩

/-! ### The three roads -/

/-- What a job abort does is said of a state's own fields: not of memory, nor of the flags it leaves as they stand. -/
theorem JobAborted.raise {s u : State} {o : JobOutcome} (h : JobAborted s u o) (f : EventFlag) :
    JobAborted s (u.raise f) o := by
  obtain ⟨hcomposer, hjob, hqueue, hreport, hfont, hproof, hrest⟩ := h
  have hkept : u.flagSet .jobReport = true → (u.raise f).flagSet .jobReport = true := fun h => by
    rw [State.flagSet_raise, h, Bool.true_or]
  have hframe := u.raise_frame f
  generalize u.raise f = v at hkept hframe
  have hflags : v = { u with status := v.status } := by rw [hframe]
  have hnext : v.status.nextSlot = u.status.nextSlot := (congrArg (fun t : State => t.status.nextSlot) hframe :)
  have hreports : v.status.reports = u.status.reports := (congrArg (fun t : State => t.status.reports) hframe :)
  refine ⟨?_, ?_, ?_, ?_, ?_, ?_, ?_⟩
  · rw [hflags]; exact hcomposer
  · rw [hflags]; exact hjob
  · rw [hflags]; exact hqueue
  · rw [show v.waitingReport = u.waitingReport from (congrArg State.waitingReport hframe :), hnext, hreports]
    split
    next hin => rw [if_pos hin] at hreport; exact hreport
    next hin =>
      rw [if_neg hin] at hreport
      obtain ⟨hwaiting, hflag, hset⟩ := hreport
      exact ⟨hwaiting, hkept hflag, hset⟩
  · rw [hflags]; exact hfont
  · rw [hflags]; exact hproof
  · rw [hflags]; exact hrest

/-- A held write that goes over the oldest word changes nothing that a job abort is said of. -/
theorem JobAborted.of_ring {s v : State} {o : JobOutcome} {m : List (Nat × Word)} {h : Option HostCycle} {t : HoldTimer}
    {a b : Nat} {r : List Word} {d : Option Command} {q : Option CycleRequest} {l : List Nat}
    (haborted : JobAborted (State.mark { s with
      port.held := h, port.holdTimer := t, mem := m, intake.consumeOffset := a, intake.intakeOffset := b,
      intake.run := r, intake.decoder := d, port.requests := s.port.requests.set .intake q } l) v o) :
    JobAborted s v o := haborted

theorem JobAborted.of_overwritten {s v : State} {o : JobOutcome} {c : HostCycle} (hc : c.bus = .good)
    (h : JobAborted (s.overwritten c) v o) : JobAborted s v o := by
  rw [State.overwritten_good hc] at h
  exact h.of_ring

theorem State.overwritten_ring {s : State} {c : HostCycle} (hc : c.bus = .good) :
    (s.overwritten c).mem = writeMem s.mem c.offset c.data ∧ (s.overwritten c).port.held = none
      ∧ (s.overwritten c).intake.run = [] ∧ (s.overwritten c).intake.decoder = none := by
  rw [State.overwritten_good hc, State.mark_mem, State.mark_port, State.mark_intake]
  exact ⟨rfl, rfl, rfl, rfl⟩

/-- Settles O19: ABORT JOB, CANCEL and the expiry of the hold limit all make the one job abort. -/
theorem jobAbortByEachRoad : Obligations.JobAbortByEachRoad := by
  refine ⟨?noJob, fun s hjob => ⟨?abortJob, ?cancel, ?expiry⟩⟩
  case noJob =>
    intro s arg hs hjob
    have hnone : s.jobAbort .aborted = s := if_neg (by simp [hjob])
    have htaken := State.intervention_taken hs (s.intervene_word (k := 1) (by decide) arg)
    rw [hnone] at htaken
    exact htaken
  case abortJob =>
    intro hs arg
    have htaken := State.intervention_taken hs (s.intervene_word (k := 1) (by decide) arg)
    have haborted := State.jobAborted hjob .aborted
    have hframe := State.jobAbort_frame hjob .aborted
    generalize s.jobAbort .aborted = u at htaken haborted hframe
    exact ⟨_, htaken, haborted, by rw [hframe], by rw [hframe], by rw [hframe]; rfl⟩
  case cancel =>
    intro hq
    have hquiet : Quiet (s.jobAbort .aborted) := (jobAbort_hostBlind .aborted).quiet hq
    have haborted := State.jobAborted hjob .aborted
    have hframe := State.jobAbort_frame hjob .aborted
    have hexec : exec .cancel s = (s.jobAbort .aborted).done := congrArg State.done (if_pos hjob)
    generalize s.jobAbort .aborted = u at hquiet hexec haborted hframe
    rw [hexec]
    exact ⟨u, State.done_endsIn u hquiet, haborted, by rw [hframe], by rw [hframe], by rw [hframe]; rfl, by rw [hframe]⟩
  case expiry =>
    intro hq c hheld htimer hbus
    obtain ⟨a, ha⟩ : ∃ a, a = s.overwritten c := ⟨_, rfl⟩
    have hjob' : a.intake.job.inProgress = true := by rw [ha, State.overwritten_job]; exact hjob
    have hover : s.overrun c = (a.jobAbort .overrun).raise .ringOverrun := by
      rw [State.overrun_eq, ← ha, if_pos hjob']
    have hend : EndsIn (exec .holdLimitExpiry s) (s.overrun c) :=
      State.answer_endsIn (by simp [State.onHoldExpiry, hheld, htimer]) ((overrun_hostBlind c).quiet hq)
    have haborted := State.jobAborted hjob' .overrun
    have hframe := State.jobAbort_frame hjob' .overrun
    rw [hover] at hend
    generalize a.jobAbort .overrun = u at hend haborted hframe
    have hraised := haborted.raise .ringOverrun
    have hflag := State.flagSet_raise_same u .ringOverrun
    have hraise := State.raise_frame u .ringOverrun
    generalize u.raise .ringOverrun = v at *
    rw [hframe] at hraise
    obtain ⟨hmem, hheld', hrun, hdecoder⟩ := State.overwritten_ring (s := s) hbus
    rw [← ha] at hmem hheld' hrun hdecoder
    refine ⟨v, hend, JobAborted.of_overwritten hbus (ha ▸ hraised), ?_, ?_, ?_, ?_, hflag⟩
    · rw [hraise, ← hmem]
    · rw [hraise, ← hheld']
    · rw [hraise, ← hrun]
    · rw [hraise]
      exact congrArg (Option.map Command.drop) hdecoder

end Sys2Proof.Machine
end

section
/-! PROOFS. The cycles that owners call for, the grant, and what a part cycle brings INTAKE and LIBRARY (R67 to R71, R81,
R163, R168, R176, R177). -/

namespace Sys2Proof.Machine

/-! ### The end of a part cycle (R176) -/

/-- The state in which a part cycle of request `q` has ended, before its owner is told: a SPOOL word is in memory. -/
def State.cycleEnded (s : State) (r : Requester) (q : CycleRequest) : State :=
  { s with
    port.cycle := none, port.requests := s.port.requests.set r none,
    mem := if q.kind = .spool then writeMem s.mem q.offset q.data else s.mem }

theorem State.cycleEnded_other {s : State} {r : Requester} {q : CycleRequest} (h : q.kind ≠ .spool) :
    s.cycleEnded r q = s.endCycle r := by
  simp [State.cycleEnded, State.endCycle, h]

/-- What the cycle in progress ends in, when it is of kind `k`. -/
theorem State.onCycle_eq {s : State} {r : Requester} {q : CycleRequest} (hc : s.port.cycle = some r)
    (hr : s.port.requests.get r = some q) {k : CycleKind} (hk : q.kind = k) (f : State → CycleRequest → State) :
    s.onCycle k f = some (if q.stale then s.cycleEnded r q else f (s.cycleEnded r q) q) := by
  have hended : s.cycleEnded r q = if q.kind = .spool then (s.endCycle r).write q.offset q.data else s.endCycle r := by
    unfold State.cycleEnded
    split <;> rfl
  rw [hended, State.onCycle, show s.inProgress = some (r, q) by simp [State.inProgress, hc, hr]]
  exact if_pos hk

theorem State.cycle_endsIn {s u : State} {r : Requester} {q : CycleRequest} (hc : s.port.cycle = some r)
    (hr : s.port.requests.get r = some q) {k : CycleKind} (hk : q.kind = k) (hs : q.stale = false)
    {f : State → CycleRequest → State} (hu : f (s.cycleEnded r q) q = u) (hq : Quiet u) :
    EndsIn (s.answer (s.onCycle k f)) u :=
  State.answer_endsIn ((State.onCycle_eq hc hr hk f).trans (by rw [hs, ← hu]; rfl)) hq

/-- Settles O24: a refetch is written out, and a stale cycle ends without its owner. -/
theorem refetchAndGivenUpCycles : Obligations.RefetchAndGivenUpCycles := by
  refine ⟨?refetch, ?stale⟩
  case refetch =>
    intro s q hq hc hr hk hs
    refine State.cycle_endsIn (r := .intake) hc hr hk hs ?_ hq
    rw [State.cycleEnded_other (by simp [hk])]
    rfl
  case stale =>
    intro s r q hq hc hr hs x hx hk
    have hend {k : CycleKind} (hkind : q.kind = k) (f : State → CycleRequest → State) :
        EndsIn (s.answer (s.onCycle k f)) (s.cycleEnded r q) :=
      State.answer_endsIn ((State.onCycle_eq hc hr hkind f).trans (by rw [hs]; rfl)) hq
    simp only [List.mem_cons, List.not_mem_nil, or_false] at hx
    rcases hx with rfl | rfl | rfl | rfl | rfl <;> exact hend hk _

/-! ### The search of the font library (R67) -/

theorem State.fetching_of_cons {s : State} {p : Fin 8} {rest : List (Fin 8)} (h : s.font.fetchList = p :: rest) :
    s.fetching = some (p, s.font.table[p].font) := by simp [State.fetching, h]

theorem State.searched_eq {s : State} {k : Nat} {p : Fin 8} {rest : List (Fin 8)} (hf : s.font.fetch = some (.search k))
    (hl : s.font.fetchList = p :: rest) (q : CycleRequest) : s.searched q =
      if (s.read q.offset).toNat = s.font.table[p].font then { s with font.fetch := some (.record k [] false 0) }
      else if k + 1 < slotCount then { s with font.fetch := some (.search (k + 1)) } else s.refuseFetch p .noRecord := by
  unfold State.searched
  rw [hf, State.fetching_of_cons hl]

/-- The fetch in flight ends: the next of the list begins, when there is one and LIBRARY is enabled (R66). -/
theorem State.endFetch_eq {s : State} {p : Fin 8} {rest : List (Fin 8)} (h : s.font.fetchList = p :: rest)
    (hnext : rest = [] ∨ s.port.disabled.library = false) : s.endFetch = { s with
      font.fetchList := rest, font.fetch := if rest = [] then none else some (.search 0) } := by
  have htail : s.font.fetchList.tail = rest := by rw [h]; rfl
  unfold State.endFetch
  rw [htail]
  rcases hnext with hnil | hlib
  · rw [if_pos hnil]
    exact State.startFetches_of_nil (s := { s with font.fetchList := rest, font.fetch := none }) hnil
  · rw [State.startFetches_of_idle]
    · rfl
    · exact hlib

/-- What the refusal of the fetch in flight can change (R67 to R69). -/
theorem State.refuseFetch_frame {s : State} {p : Fin 8} {rest : List (Fin 8)} (h : s.font.fetchList = p :: rest)
    (hnext : rest = [] ∨ s.port.disabled.library = false) (r : Reason) : s.refuseFetch p r = { s with
      font := { s.font with
        table := s.font.table.set p (s.font.table[p].refusedFor r), fetchList := rest
        fetch := if rest = [] then none else some (.search 0) }
      composer.fontWait := (s.refuseFetch p r).composer.fontWait
      status.marks := (s.refuseFetch p r).status.marks
      status.flags := (s.refuseFetch p r).status.flags }
    ∧ (s.refuseFetch p r).flagSet .mountRefused = true := by
  have hframe := s.refusePosition_frame p r
  rw [s.refusePosition_table] at hframe
  have hflag := s.flagSet_refusePosition p r
  have hended : s.refuseFetch p r = { s.refusePosition p r with
      font.fetchList := rest, font.fetch := if rest = [] then none else some (.search 0) } :=
    State.endFetch_eq (p := p) (by simp [h]) (hnext.imp_right fun hlib => by rw [hframe]; exact hlib)
  rw [hended]
  generalize s.refusePosition p r = u at hframe hflag
  refine ⟨?_, hflag⟩
  rw [hframe]

/-- Settles O25: the search reads its slot's word 0 against the font number. -/
theorem librarySearch : Obligations.LibrarySearch := by
  refine ⟨?next, ?last⟩
  case next =>
    intro s q p rest k hq hc hr hk hs hf hl hmore
    refine State.cycle_endsIn (r := .library) hc hr hk hs ?_ hq
    rw [State.cycleEnded_other (by simp [hk]), State.searched_eq (s := s.endCycle .library) hf hl]
    by_cases hfound : (s.read q.offset).toNat = s.font.table[p].font
    · rw [if_pos hfound]
      exact if_pos hfound
    · rw [if_neg hfound]
      exact (if_neg hfound).trans (if_pos (hmore.resolve_left hfound))
  case last =>
    intro s q p hq hc hr hk hs hf hl hother
    have hrefused : (s.cycleEnded .library q).searched q = (s.endCycle .library).refuseFetch p .noRecord := by
      rw [State.cycleEnded_other (by simp [hk]), State.searched_eq (s := s.endCycle .library) hf hl]
      exact (if_neg hother).trans (if_neg (by decide))
    obtain ⟨hframe, hflag⟩ := State.refuseFetch_frame (s := s.endCycle .library) hl (.inl rfl) .noRecord
    refine ⟨_, State.cycle_endsIn (r := .library) hc hr hk hs hrefused
      ((refuseFetch_hostBlind p .noRecord).quiet (s := s.endCycle .library) hq), ?_⟩
    generalize (s.endCycle .library).refuseFetch p .noRecord = u at hframe hflag
    refine ⟨?_, ?_, ?_, hflag, ?_, ?_, ?_, ?_, ?_⟩ <;> rw [hframe] <;> rfl

/-! ### The words of a record (R68, R70; 11.2) -/

/-- What makes a record DAMAGED (R68): its check word, its band, its limit or one of its widths. -/
def RecordBad (l : List Word) : Prop :=
  l.getD 51 0 ≠ (l.take 51).foldl (· + ·) 0
    ∨ (recordOf l).normal < (recordOf l).min ∨ (recordOf l).max < (recordOf l).normal ∨ 8 < (recordOf l).limit
    ∨ 127 < (recordOf l).min ∨ 127 < (recordOf l).normal ∨ 127 < (recordOf l).max ∨ ∃ x ∈ (recordOf l).widths, 127 < x

theorem recordDamaged_iff (l : List Word) : recordDamaged l = true ↔ RecordBad l := by
  simp only [recordDamaged, RecordBad, Bool.or_eq_true, bne_iff_ne, decide_eq_true_eq, List.any_eq_true]
  generalize (l.getD 51 0 ≠ (l.take 51).foldl (· + ·) 0) = check
  constructor
  · rintro (((((h | h) | h) | h) | h) | h) <;> simp [h]
  · have hband : 127 < (recordOf l).min ∨ 127 < (recordOf l).normal → (recordOf l).normal < (recordOf l).min
        ∨ (recordOf l).max < (recordOf l).normal ∨ 127 < (recordOf l).max := by omega
    rintro (h | h | h | h | h | h | h | h)
    case inr.inr.inr.inr.inl => rcases hband (.inl h) with h | h | h <;> simp [h]
    case inr.inr.inr.inr.inr.inl => rcases hband (.inr h) with h | h | h <;> simp [h]
    all_goals simp [h]

theorem recordRefusal_good {l : List Word} {n : Nat} (h : ¬ RecordBad l) (hn : (l.getD 0 0).toNat = n) :
    recordRefusal l n = none := by
  rw [← recordDamaged_iff, Bool.not_eq_true] at h
  unfold recordRefusal
  rw [h, hn]
  simp

/-- A record that is DAMAGED or another font's is refused for one of the two (log 14). -/
theorem recordRefusal_bad {l : List Word} {n : Nat} (h : RecordBad l ∨ (l.getD 0 0).toNat ≠ n) :
    ∃ r, recordRefusal l n = some r ∧ (RecordBad l ∧ r = .damaged ∨ (l.getD 0 0).toNat ≠ n ∧ r = .noRecord) := by
  rw [← recordDamaged_iff] at h ⊢
  unfold recordRefusal
  generalize recordDamaged l = damaged at h
  generalize (l.getD 0 0).toNat = m at h
  by_cases hn : m = n <;> cases damaged
  · simp [hn] at h
  · exact ⟨.damaged, by simp [hn], .inl ⟨rfl, rfl⟩⟩
  · exact ⟨.noRecord, by simp [hn], .inr ⟨hn, rfl⟩⟩
  · cases hfirst : Config.damagedFirst
    · exact ⟨.noRecord, by simp [hn], .inr ⟨hn, rfl⟩⟩
    · exact ⟨.damaged, by simp [hn], .inl ⟨rfl, rfl⟩⟩

theorem length_bytesOf : ∀ ws : List Word, (bytesOf ws).length = 2 * ws.length
  | [] => rfl
  | w :: ws => by
    simp only [bytesOf, List.length_cons, length_bytesOf ws]
    omega

/-- The bytes of word `j`: the earlier is its high one. -/
theorem getElem?_bytesOf : ∀ (ws : List Word) (j : Nat),
    (bytesOf ws)[2 * j]? = ws[j]?.map hiByte ∧ (bytesOf ws)[2 * j + 1]? = ws[j]?.map loByte
  | [], _ => ⟨rfl, rfl⟩
  | _ :: _, 0 => ⟨rfl, rfl⟩
  | _ :: ws, j + 1 => getElem?_bytesOf ws j

section
variable {s : State} {k n : Nat} {words : List Word} {w : Bool} {p : Fin 8} {rest : List (Fin 8)} (q : CycleRequest)

theorem State.recordWordRead_more (hf : s.font.fetch = some (.record k words w n)) (hl : s.font.fetchList = p :: rest)
    (h : words.length < 51) :
    s.recordWordRead q = { s with font.fetch := some (.record k (words ++ [s.read q.offset]) true n) } := by
  unfold State.recordWordRead
  rw [hf, State.fetching_of_cons hl]
  exact if_pos (by simp only [List.length_append, List.length_singleton, slotWords]; omega)

theorem State.recordWordRead_refused (hf : s.font.fetch = some (.record k words w n))
    (hl : s.font.fetchList = p :: rest) (h : words.length = 51) {r : Reason}
    (hr : recordRefusal (words ++ [s.read q.offset]) s.font.table[p].font = some r) :
    s.recordWordRead q = s.refuseFetch p r := by
  unfold State.recordWordRead
  rw [hf, State.fetching_of_cons hl]
  refine (if_neg (by simp [h, slotWords])).trans ?_
  rw [hr]

theorem State.recordWordRead_good (hf : s.font.fetch = some (.record k words w n))
    (hl : s.font.fetchList = p :: rest) (h : words.length = 51)
    (hr : recordRefusal (words ++ [s.read q.offset]) s.font.table[p].font = none) :
    s.recordWordRead q = s.fetchSucceeds p (recordOf (words ++ [s.read q.offset])) := by
  unfold State.recordWordRead
  rw [hf, State.fetching_of_cons hl]
  refine (if_neg (by simp [h, slotWords])).trans ?_
  rw [hr]

end

/-- What a good record at the end of the list can change (R70). -/
theorem State.fetchSucceeds_frame {s : State} {p : Fin 8} (h : s.font.fetchList = [p]) (r : WidthRecord) :
    s.fetchSucceeds p r = { s with
      font := { s.font with
        table := s.font.table.set p { s.font.table[p] with
          state := if s.font.table[p].fix then .fixed else .mounted, reason := none, age := 0, callStep := 0,
          wait := false, fix := false, origin := none, remove := none, timer := none }
        widths := s.font.widths.set p (some r), fetchList := [], fetch := none }
      composer.fontWait := (s.fetchSucceeds p r).composer.fontWait
      status.marks := (s.fetchSucceeds p r).status.marks } := by
  unfold State.fetchSucceeds
  dsimp only
  rw [State.endFetch_of_last (p := p) (by simp [h])]
  rw [State.setPosition_frame, State.setPosition_table]

/-- Settles O26: after word 51 the record's refusal decides, and 11.2's fields are read off the words. -/
theorem libraryRecord : Obligations.LibraryRecord := by
  refine ⟨?word, ?good, ?refused, ?fields⟩
  case word =>
    intro s q p rest k n words w hq hc hr hk hs hf hl hlen
    refine State.cycle_endsIn (r := .library) hc hr hk hs ?_ hq
    rw [State.cycleEnded_other (by simp [hk])]
    exact State.recordWordRead_more (s := s.endCycle .library) q hf hl hlen
  case good =>
    intro s q p k n words w hq hc hr hk hs hf hl hlen hgood
    obtain ⟨hfont, hcheck, hmin, hnormal, hmax, hlimit, hwidths⟩ := hgood
    have hok : ¬ RecordBad (words ++ [s.read q.offset]) := by
      rintro (h | h | h | h | h | h | h | ⟨x, hx, h⟩)
      · exact h hcheck
      · exact absurd hmin (by omega)
      · exact absurd hnormal (by omega)
      · omega
      · omega
      · omega
      · omega
      · exact absurd (hwidths x hx) (by omega)
    have hend : (s.cycleEnded .library q).recordWordRead q
        = (s.endCycle .library).fetchSucceeds p (recordOf (words ++ [s.read q.offset])) := by
      rw [State.cycleEnded_other (by simp [hk])]
      exact State.recordWordRead_good (s := s.endCycle .library) q hf hl hlen (recordRefusal_good hok hfont)
    have hframe := State.fetchSucceeds_frame (s := s.endCycle .library) hl (recordOf (words ++ [s.read q.offset]))
    refine ⟨_, State.cycle_endsIn (r := .library) hc hr hk hs hend
      ((fetchSucceeds_hostBlind p _).quiet (s := s.endCycle .library) hq), ?_⟩
    generalize (s.endCycle .library).fetchSucceeds p _ = u at hframe
    refine ⟨?_, ?_, ?_, ?_, ?_, ?_, ?_, ?_⟩ <;> rw [hframe] <;> rfl
  case refused =>
    intro s q p rest k n words w hq hc hr hk hs hf hl hlen hnext l damaged other hbad
    obtain ⟨r, hr', hwhy⟩ := recordRefusal_bad hbad
    have hend : (s.cycleEnded .library q).recordWordRead q = (s.endCycle .library).refuseFetch p r := by
      rw [State.cycleEnded_other (by simp [hk])]
      exact State.recordWordRead_refused (s := s.endCycle .library) q hf hl hlen hr'
    obtain ⟨hframe, hflag⟩ := State.refuseFetch_frame (s := s.endCycle .library) hl hnext r
    refine ⟨_, r, State.cycle_endsIn (r := .library) hc hr hk hs hend
      ((refuseFetch_hostBlind p r).quiet (s := s.endCycle .library) hq), hwhy, ?_⟩
    generalize (s.endCycle .library).refuseFetch p r = u at hframe hflag
    refine ⟨?_, hflag, ?_, ?_, ?_, ?_, ?_, ?_, ?_⟩ <;> rw [hframe] <;> rfl
  case fields =>
    intro l hl
    have hwords : ((l.drop 3).take 48).length = 48 := by simp [hl]
    refine ⟨rfl, rfl, rfl, rfl, ?_, fun j hj => ?_⟩
    · show (bytesOf _).length = 96
      rw [length_bytesOf, hwords]
    · have hword : ((l.drop 3).take 48)[j]? = some (l.getD (3 + j) 0) := by
        simp [hj, List.getD_eq_getElem?_getD, hl, show 3 + j < 52 by omega]
      obtain ⟨hhigh, hlow⟩ := getElem?_bytesOf ((l.drop 3).take 48) j
      exact ⟨hhigh.trans (by rw [hword]; rfl), hlow.trans (by rw [hword]; rfl)⟩

/-! ### The cycles called for (R67, R68, R81, R159, R163, R185; 11.4) -/

/-- Word `j` of the packed bytes carries bytes `2 j` and `2 j + 1`, an odd last word 0 in its low byte (log 45). -/
theorem toNat_packBytes : ∀ (l : List Nat) (j : Nat), (∀ c ∈ l, c < 256) →
    ((packBytes l).getD j 0).toNat = l.getD (2 * j) 0 * 256 + l.getD (2 * j + 1) 0
  | [], j, _ => by simp [packBytes]
  | [a], 0, h => by
    have := h a (by simp)
    show (pairWord a 0).toNat = a * 256 + 0
    simp only [pairWord, BitVec.toNat_ofNat]
    omega
  | [a], j + 1, _ => by simp [packBytes]
  | a :: b :: l, 0, h => by
    have := h a (by simp)
    have := h b (by simp)
    show (pairWord a b).toNat = a * 256 + b
    simp only [pairWord, BitVec.toNat_ofNat]
    omega
  | a :: b :: l, j + 1, h => by
    have hrest := toNat_packBytes l j (fun c hc => h c (by simp [hc]))
    simpa [packBytes, Nat.mul_add] using hrest

theorem Half.base_eq (h : Half) : h.base = if h = .a then 24576 else 28672 := by cases h <;> rfl

theorem ProofUnit.writeWaits_iff (u : ProofUnit) : u.writeWaits = true ↔ u.half u.writePoint.half = .full := by
  simp [ProofUnit.writeWaits]

theorem ProofUnit.fits_iff {u : ProofUnit} (h : u.half u.writePoint.half ≠ .full) (n : Nat) :
    u.fits n = true ↔ n ≤ 4096 - u.writePoint.offset := by
  have hwaits : u.writeWaits = false := by rw [← Bool.not_eq_true, ProofUnit.writeWaits_iff]; exact h
  simp only [ProofUnit.fits, hwaits, Bool.not_false, Bool.and_true, decide_eq_true_eq]
  rfl

theorem ProofUnit.nextSpoolWord_of_pad {u : ProofUnit} {r : PrintRecord} {rest : List PrintRecord}
    (hr : u.records = r :: rest) (hfull : u.half u.writePoint.half ≠ .full) (hw : u.written = 0)
    (hlong : 4096 - u.writePoint.offset < r.words) :
    u.nextSpoolWord = some (u.writePoint.half.base + u.writePoint.offset, padWord) := by
  have hno : u.fits r.words = false := by
    rw [← Bool.not_eq_true, ProofUnit.fits_iff hfull]
    omega
  have hwaits : u.writeWaits = false := by rw [← Bool.not_eq_true, ProofUnit.writeWaits_iff]; exact hfull
  unfold ProofUnit.nextSpoolWord
  simp [hr, hwaits, hw, hno]

theorem ProofUnit.nextSpoolWord_of_record {u : ProofUnit} {r : PrintRecord} {rest : List PrintRecord}
    (hr : u.records = r :: rest) (hfull : u.half u.writePoint.half ≠ .full)
    (h : 0 < u.written ∨ r.words ≤ 4096 - u.writePoint.offset) :
    u.nextSpoolWord = some (u.writePoint.half.base + u.writePoint.offset + u.written, r.word u.written) := by
  have hwaits : u.writeWaits = false := by rw [← Bool.not_eq_true, ProofUnit.writeWaits_iff]; exact hfull
  have hno : ¬ (u.written = 0 && !u.fits r.words) = true := by
    simp only [Bool.and_eq_true, decide_eq_true_eq, Bool.not_eq_true', not_and, Bool.not_eq_false]
    intro hw
    exact (ProofUnit.fits_iff hfull _).2 (h.resolve_left (by omega))
  unfold ProofUnit.nextSpoolWord
  rw [hr]
  simp only [hwaits, hno]
  rfl

theorem ProofUnit.nextDrainWord_idle {u : ProofUnit} (h : u.reading = none) : u.nextDrainWord =
    if u.buffer = none ∧ (u.drainPoint ≠ u.writePoint ∨ u.half u.drainPoint.half = .full) then
      some (u.drainPoint.half.base + u.drainPoint.offset)
    else none := by
  have hbegins : u.drainBegins = true ↔ u.buffer = none ∧ (u.drainPoint ≠ u.writePoint ∨ u.half u.drainPoint.half = .full) := by
    simp [ProofUnit.drainBegins]
  unfold ProofUnit.nextDrainWord
  simp only [h, hbegins]

/-- Settles O23: each owner's call is its next word, and the arbiter takes the first requester that has a request. -/
theorem arbiterGrantsFirstWaiting : Obligations.ArbiterGrantsFirstWaiting := by
  refine ⟨fun s => ?calls, ?grant⟩
  case calls =>
    intro u base cycle
    have hdrain {off : Nat} (h : u.nextDrainWord = some off) : s.wants .drain = cycle .drain off 0 := by
      show u.nextDrainWord.map _ = _
      rw [h]
      rfl
    have hspool {x : Nat × Word} (h : u.nextSpoolWord = some x) : s.wants .spool = cycle .spool x.1 x.2 := by
      show u.nextSpoolWord.map _ = _
      rw [h]
      rfl
    have hstatus {x : Nat × Word} (h : s.nextStatusWord = some x) : s.wants .status = cycle .status x.1 x.2 := by
      show s.nextStatusWord.map _ = _
      rw [h]
      rfl
    have hbase (h : Half) : base h = h.base := (Half.base_eq h).symm
    refine ⟨rfl, fun h => ?_, fun k h => ?_, fun k words w n h => ?_, fun r h => ?_, fun h => ?_, fun h => ?_,
      fun r rest hr hfull => ⟨fun hw hlong => ?_, fun hfits => ?_⟩, fun h => ?_, fun h => ?_, fun w rest h => ?_⟩
    · unfold State.wants
      rw [h]
    · unfold State.wants
      rw [h]
      rfl
    · unfold State.wants
      rw [h]
      rfl
    · rw [hbase]
      exact hdrain (by unfold ProofUnit.nextDrainWord; rw [h])
    · show u.nextDrainWord.map _ = _
      rw [ProofUnit.nextDrainWord_idle h, hbase]
      split <;> rfl
    · show u.nextSpoolWord.map _ = _
      have hnone : u.nextSpoolWord = none := by
        unfold ProofUnit.nextSpoolWord
        split
        · rfl
        next r rest hrecords =>
          have hfull := h.resolve_left (by rw [hrecords]; exact List.cons_ne_nil _ _)
          exact if_pos ((ProofUnit.writeWaits_iff u).2 hfull)
      rw [hnone]
      rfl
    · rw [hbase]
      exact hspool (ProofUnit.nextSpoolWord_of_pad hr hfull hw hlong)
    · refine ⟨r.word u.written, ?_, fun hw => ?_, fun j hj hchars => ?_⟩
      · rw [hbase]
        exact hspool (ProofUnit.nextSpoolWord_of_record hr hfull hfits)
      · rw [hw]
        rfl
      · rw [hj]
        exact toNat_packBytes r.chars j hchars
    · show s.nextStatusWord.map _ = _
      unfold State.nextStatusWord
      rw [h]
      rfl
    · exact hstatus (by unfold State.nextStatusWord; rw [h])
    · exact hstatus (by unfold State.nextStatusWord; rw [h])
  case grant =>
    intro s before after r hc hq hheld hreq hbefore hr
    have hfree : s.bankFree = true := by
      rcases hheld with hheld | htimer
      · simp [State.bankFree, hc, hheld, show s.port.hostQueue = [] from hq]
      · simp [State.bankFree, hc, htimer]
    have hfirst : s.firstWaiting = some r := by
      unfold State.firstWaiting
      rw [hreq, List.find?_append, List.find?_eq_none.2 (fun q hq => by simp [hbefore q hq])]
      exact List.find?_cons_of_pos (p := fun r => (s.port.requests.get r).isSome) (Option.isSome_iff_ne_none.2 hr)
    refine State.answer_endsIn (o := if s.bankFree then _ else none) ?_ hq
    rw [if_pos hfree, hfirst]
    rfl

end Sys2Proof.Machine
end

section
/-! PROOFS. The spool's halves and points, the drain and the SPOOL writes (R151 to R165, R197): each change of a posted
spool word is marked, and nothing else is. -/

namespace Sys2Proof.Machine

/-! ### Changes of the posted spool words (R151; 11.3) -/

theorem ProofUnit.mem_changes (u v : ProofUnit) (o : Nat) : o ∈ u.changes v ↔
    (o = 224 ∧ u.writePoint ≠ v.writePoint) ∨ (o = 225 ∧ u.drainPoint ≠ v.drainPoint)
      ∨ (o = 226 ∧ u.halfA ≠ v.halfA) ∨ (o = 227 ∧ u.halfB ≠ v.halfB) ∨ (o = 228 ∧ u.gap ≠ v.gap) := by
  have hpart (p : Prop) [Decidable p] (n : Nat) : o ∈ (if p then [] else [n]) ↔ o = n ∧ ¬ p := by
    by_cases h : p <;> simp [h]
  simp only [ProofUnit.changes, List.mem_append, hpart, or_assoc, ne_eq]

/-- `t` is `s` with another proof unit, each change of a posted spool word marked (R183). -/
def SpoolFrame (s t : State) : Prop :=
  t = { s with proof := t.proof, status.marks := t.status.marks }
    ∧ ∀ o, o ∈ t.status.marks ↔ o ∈ s.status.marks ∨ o ∈ s.proof.changes t.proof

/-- No posted spool word that `w` has as `u` is another in `v`. -/
def ProofUnit.Between (u v w : ProofUnit) : Prop :=
  (u.writePoint = w.writePoint → u.writePoint = v.writePoint) ∧ (u.drainPoint = w.drainPoint → u.drainPoint = v.drainPoint)
    ∧ (u.halfA = w.halfA → u.halfA = v.halfA) ∧ (u.halfB = w.halfB → u.halfB = v.halfB) ∧ (u.gap = w.gap → u.gap = v.gap)

theorem ProofUnit.mem_changes_of_between {u v w : ProofUnit} (h : u.Between v w) (o : Nat) :
    o ∈ u.changes w ↔ o ∈ u.changes v ∨ o ∈ v.changes w := by
  obtain ⟨hwp, hdp, ha, hb, hgap⟩ := h
  have hpart {α : Type} {a b c : α} (habc : a = c → a = b) : a ≠ c ↔ a ≠ b ∨ b ≠ c := by
    refine ⟨fun hac => ?_, fun hor hac => ?_⟩
    · by_cases hab : a = b
      · exact .inr (hab ▸ hac)
      · exact .inl hab
    · have hab := habc hac
      exact hor.elim (fun h => h hab) (fun h => h (hab ▸ hac))
  simp only [ProofUnit.mem_changes, hpart hwp, hpart hdp, hpart ha, hpart hb, hpart hgap, and_or_left]
  refine Iff.of_eq ?_
  ac_rfl

namespace SpoolFrame

theorem trans {s t u : State} (h : SpoolFrame s t) (h' : SpoolFrame t u) (hb : s.proof.Between t.proof u.proof) :
    SpoolFrame s u := by
  obtain ⟨hframe, hmarks⟩ := h
  obtain ⟨hframe', hmarks'⟩ := h'
  refine ⟨?_, fun o => ?_⟩
  · rw [hframe', hframe]
  · rw [hmarks', hmarks, ProofUnit.mem_changes_of_between hb, or_assoc]

theorem refl (s : State) : SpoolFrame s s := ⟨rfl, fun o => by simp [ProofUnit.mem_changes]⟩

/-- A change of a word that is not posted is not marked. -/
theorem unposted {s : State} {v : ProofUnit} (h : s.proof.changes v = []) : SpoolFrame s { s with proof := v } :=
  ⟨rfl, fun o => by simp [h]⟩

/-- One posted word changes, and is marked when it does. -/
theorem one {s : State} {v : ProofUnit} {n : Nat} {b : Bool}
    (h : ∀ o, o ∈ s.proof.changes v ↔ o = n ∧ b = true) : SpoolFrame s (State.markIf { s with proof := v } b [n]) := by
  cases b
  · exact ⟨rfl, fun o => by simp [State.markIf, h]⟩
  · refine ⟨rfl, fun o => ?_⟩
    show o ∈ (State.mark _ _).status.marks ↔ o ∈ s.status.marks ∨ o ∈ s.proof.changes v
    rw [State.mem_mark, h]
    simp [or_comm]

end SpoolFrame

@[simp] theorem ProofUnit.half_withHalf (u : ProofUnit) (h : Half) (x : HalfState) : (u.withHalf h x).half h = x := by
  cases h <;> rfl

@[simp] theorem ProofUnit.other_withHalf (u : ProofUnit) (h : Half) (x : HalfState) :
    (u.withHalf h x).half h.other = u.half h.other := by
  cases h <;> rfl

@[simp] theorem ProofUnit.withHalf_points (u : ProofUnit) (h : Half) (x : HalfState) :
    (u.withHalf h x).writePoint = u.writePoint ∧ (u.withHalf h x).drainPoint = u.drainPoint
      ∧ (u.withHalf h x).gap = u.gap := by
  cases h <;> exact ⟨rfl, rfl, rfl⟩

theorem State.setHalf_spoolFrame (s : State) (h : Half) (x : HalfState) : SpoolFrame s (s.setHalf h x) := by
  cases h
  · exact SpoolFrame.one fun o => by simp [ProofUnit.mem_changes]
  · exact SpoolFrame.one fun o => by simp [ProofUnit.mem_changes]

@[simp] theorem State.setHalf_proof (s : State) (h : Half) (x : HalfState) :
    (s.setHalf h x).proof = s.proof.withHalf h x := by
  cases h <;> exact State.markIf_proof _ _ _

theorem State.setWritePoint_spoolFrame (s : State) (p : SpoolPoint) : SpoolFrame s (s.setWritePoint p) :=
  SpoolFrame.one fun o => by simp [ProofUnit.mem_changes]

@[simp] theorem State.setWritePoint_proof (s : State) (p : SpoolPoint) :
    (s.setWritePoint p).proof = { s.proof with writePoint := p } := State.markIf_proof _ _ _

theorem State.setDrainPoint_spoolFrame (s : State) (p : SpoolPoint) : SpoolFrame s (s.setDrainPoint p) :=
  SpoolFrame.one fun o => by simp [ProofUnit.mem_changes]

@[simp] theorem State.setDrainPoint_proof (s : State) (p : SpoolPoint) :
    (s.setDrainPoint p).proof = { s.proof with drainPoint := p } := State.markIf_proof _ _ _

theorem State.setGap_spoolFrame (s : State) (n : Nat) : SpoolFrame s (s.setGap n) :=
  SpoolFrame.one fun o => by simp [ProofUnit.mem_changes]

@[simp] theorem State.setGap_proof (s : State) (n : Nat) : (s.setGap n).proof = { s.proof with gap := n } :=
  State.markIf_proof _ _ _

/-! ### The halves (R158) -/

theorem State.moveWritePoint_moves (s : State) :
    SpoolFrame s s.moveWritePoint ∧ s.moveWritePoint.proof = s.proof.movedOn := by
  unfold State.moveWritePoint ProofUnit.movedOn ProofUnit.writeWaits
  simp only [Bool.and_eq_true, beq_iff_eq]
  split
  · exact ⟨s.setWritePoint_spoolFrame _, s.setWritePoint_proof _⟩
  · exact ⟨.refl s, rfl⟩

theorem Half.other_ne (h : Half) : h.other ≠ h := by cases h <;> decide

/-- A write point that goes on stands in the other half; the halves and the drain stand. -/
theorem ProofUnit.movedOn_eq (u : ProofUnit) : u.movedOn = { u with writePoint := u.movedOn.writePoint }
    ∧ (u.movedOn.writePoint = u.writePoint ∨ u.movedOn.writePoint.half = u.writePoint.half.other) := by
  unfold ProofUnit.movedOn
  dsimp only
  split
  · exact ⟨rfl, .inr rfl⟩
  · exact ⟨rfl, .inl rfl⟩

theorem State.fillHalf_fills (s : State) : SpoolFrame s s.fillHalf ∧ s.fillHalf.proof = s.proof.filled := by
  obtain ⟨a, ha⟩ : ∃ a, a = s.setHalf s.proof.writePoint.half .full := ⟨_, rfl⟩
  obtain ⟨b, hb⟩ : ∃ b, b = a.setWritePoint { half := s.proof.writePoint.half, offset := 4096 } := ⟨_, rfl⟩
  have hfill : s.fillHalf = b.moveWritePoint := by rw [hb, ha]; rfl
  have hhalf : SpoolFrame s a := ha ▸ s.setHalf_spoolFrame _ _
  have hpoint : SpoolFrame a b := hb ▸ a.setWritePoint_spoolFrame _
  have hav : a.proof = s.proof.withHalf s.proof.writePoint.half .full := ha ▸ s.setHalf_proof _ _
  have hbv : b.proof = { a.proof with writePoint := { half := s.proof.writePoint.half, offset := 4096 } } :=
    hb ▸ a.setWritePoint_proof _
  obtain ⟨hmoves, hmoved⟩ := b.moveWritePoint_moves
  rw [hfill]
  have hstood : a.proof.writePoint = s.proof.writePoint := by rw [hav]; simp
  have hmid : SpoolFrame s b := hhalf.trans hpoint (by
    rw [hbv]
    exact ⟨fun _ => hstood.symm, fun h => h, fun h => h, fun h => h, fun h => h⟩)
  refine ⟨hmid.trans hmoves ?_, by rw [hmoved, hbv, hav]; rfl⟩
  obtain ⟨hkept, hgone⟩ := b.proof.movedOn_eq
  rw [hmoved, hkept]
  refine ⟨fun h => ?_, fun h => h, fun h => h, fun h => h, fun h => h⟩
  rcases hgone with hp | hp
  · exact h.trans hp
  · exact absurd ((congrArg SpoolPoint.half h).trans (hp.trans (by rw [hbv]))).symm (Half.other_ne _)

theorem State.leaveHalf_leaves (s : State) : SpoolFrame s s.leaveHalf ∧ s.leaveHalf.proof = s.proof.drainLeft := by
  obtain ⟨a, ha⟩ : ∃ a, a = s.setHalf s.proof.drainPoint.half .empty := ⟨_, rfl⟩
  obtain ⟨b, hb⟩ : ∃ b, b = a.setDrainPoint { half := s.proof.drainPoint.half.other, offset := 0 } := ⟨_, rfl⟩
  have hleave : s.leaveHalf = b.moveWritePoint := by rw [hb, ha]; rfl
  have hav : a.proof = s.proof.withHalf s.proof.drainPoint.half .empty := ha ▸ s.setHalf_proof _ _
  have hbv : b.proof = { a.proof with drainPoint := { half := s.proof.drainPoint.half.other, offset := 0 } } :=
    hb ▸ a.setDrainPoint_proof _
  obtain ⟨hmoves, hmoved⟩ := b.moveWritePoint_moves
  rw [hleave]
  have hpoints : a.proof.drainPoint = s.proof.drainPoint ∧ a.proof.writePoint = s.proof.writePoint := by
    rw [hav]; simp
  have hmid : SpoolFrame s b := (ha ▸ s.setHalf_spoolFrame _ _ : SpoolFrame s a).trans
    (hb ▸ a.setDrainPoint_spoolFrame _ : SpoolFrame a b) (by
      rw [hbv]
      exact ⟨fun h => h, fun _ => hpoints.1.symm, fun h => h, fun h => h, fun h => h⟩)
  refine ⟨hmid.trans hmoves ?_, by rw [hmoved, hbv, hav]; rfl⟩
  rw [hmoved, b.proof.movedOn_eq.1]
  exact ⟨fun _ => hpoints.2.symm.trans (by rw [hbv]), fun h => h, fun h => h, fun h => h, fun h => h⟩

/-! ### The drain (R163, R197) -/

theorem ProofUnit.drainLeft_eq (u : ProofUnit) : u.drainLeft = { u with
    writePoint := u.drainLeft.writePoint, drainPoint := { half := u.drainPoint.half.other, offset := 0 }
    halfA := u.drainLeft.halfA, halfB := u.drainLeft.halfB } := by
  unfold ProofUnit.drainLeft
  dsimp only
  rw [(ProofUnit.movedOn_eq _).1]
  cases u.drainPoint.half <;> rfl

/-- A record has been read, and the port is ready with its characters (R163). -/
theorem State.recordRead_reads (s : State) (stop : Nat) (chars : List Nat) :
    SpoolFrame s (s.recordRead stop chars) ∧ (s.recordRead stop chars).proof = s.proof.printing stop chars := by
  obtain ⟨a, ha⟩ : ∃ a, a = State.setDrainPoint { s with proof.reading := none }
    { half := s.proof.drainPoint.half, offset := stop } := ⟨_, rfl⟩
  have hav : a.proof = { s.proof with
      reading := none, drainPoint := { half := s.proof.drainPoint.half, offset := stop } } :=
    ha ▸ State.setDrainPoint_proof _ _
  have hread : SpoolFrame s a := (SpoolFrame.unposted (v := { s.proof with reading := none }) (by
      simp [ProofUnit.changes])).trans
    (ha ▸ State.setDrainPoint_spoolFrame _ _ : SpoolFrame { s with proof.reading := none } a)
    ⟨fun _ => rfl, fun _ => rfl, fun _ => rfl, fun _ => rfl, fun _ => rfl⟩
  have hprint (t : State) : SpoolFrame t (t.printRecord chars) :=
    .unposted (by simp [ProofUnit.changes])
  have hrecord : s.recordRead stop chars = (if stop = 4096 ∧ s.proof.half s.proof.drainPoint.half = .full then a.leaveHalf
      else a).printRecord chars := by
    have hhalf : a.proof.half = s.proof.half := by rw [hav]; funext h; cases h <;> rfl
    unfold State.recordRead
    dsimp only
    rw [← ha, hhalf]
    simp only [Bool.and_eq_true, beq_iff_eq, decide_eq_true_eq]
    rfl
  have hprinted (t : State) : (t.printRecord chars).proof = { t.proof with
      buffer := some chars, portIndex := 0, stalled := false
      port := if t.proof.busy || t.proof.paperOut then .held else .awaiting } := rfl
  rw [hrecord]
  unfold ProofUnit.printing
  dsimp only
  rw [← hav]
  split
  next hend =>
    obtain ⟨hleaves, hleft⟩ := a.leaveHalf_leaves
    have hkept := a.proof.drainLeft_eq
    refine ⟨(hread.trans hleaves ?_).trans (hprint a.leaveHalf) ⟨fun h => h, fun h => h, fun h => h, fun h => h, fun h => h⟩,
      ?_⟩
    · rw [hleft, hkept, hav]
      refine ⟨fun _ => rfl, fun h => ?_, fun _ => rfl, fun _ => rfl, fun _ => rfl⟩
      exact absurd (congrArg SpoolPoint.half h).symm (Half.other_ne _)
    · rw [hprinted, hleft]
      rw [show s.proof.busy = a.proof.drainLeft.busy by rw [hkept, hav],
        show s.proof.paperOut = a.proof.drainLeft.paperOut by rw [hkept, hav]]
  next =>
    refine ⟨hread.trans (hprint a) ⟨fun h => h, fun h => h, fun h => h, fun h => h, fun h => h⟩, ?_⟩
    rw [hprinted, show s.proof.busy = a.proof.busy by rw [hav], show s.proof.paperOut = a.proof.paperOut by rw [hav]]

/-- How far no record may be read beyond, as the statements write it (R197). -/
theorem ProofUnit.drainLimit_eq (u : ProofUnit) :
    u.drainLimit = if u.writePoint.half = u.drainPoint.half then u.writePoint.offset else 4096 := rfl

theorem State.headerRead_pad {s : State} {w : Word} (h : wordBit w 15 = true) : s.headerRead w =
    if s.proof.writePoint.half = s.proof.drainPoint.half ∧ s.proof.half s.proof.drainPoint.half ≠ .full then
      s.recordRead (s.proof.drainPoint.offset + 1) []
    else s.leaveHalf := by
  unfold State.headerRead
  simp only [h, if_true, Bool.and_eq_true, beq_iff_eq, bne_iff_ne]

/-- A header of `c` characters, of which `n` words may be read (R163, R197). -/
theorem State.headerRead_record {s : State} {w : Word} (h : wordBit w 15 = false) {c n : Nat}
    (hc : c = min 132 (loByte w)) (hn : n = min (s.proof.drainLimit - (s.proof.drainPoint.offset + 1)) ((c + 1) / 2)) :
    s.headerRead w =
      if n = 0 then s.recordRead (s.proof.drainPoint.offset + 1) []
      else { s with
        proof.reading := some { count := if n < (c + 1) / 2 then 2 * n else c, words := n,
                                stop := s.proof.drainPoint.offset + 1 + n, got := [] } } := by
  unfold State.headerRead
  simp only [h, Bool.false_eq_true, if_false, ← hc, wordsFor]
  generalize s.proof.drainLimit - (s.proof.drainPoint.offset + 1) = room at hn
  by_cases hshort : room < (c + 1) / 2
  · have hroom : n = room := by omega
    simp only [if_pos hshort, hroom]
  · have hall : n = (c + 1) / 2 := by omega
    simp only [if_neg hshort, hall, if_neg (Nat.lt_irrefl _)]

/-- A record that ends within its half (R163). -/
theorem State.recordRead_within {s : State} {stop : Nat} (hstop : stop < 4096)
    (hmoved : s.proof.drainPoint.offset < stop) (chars : List Nat) : s.recordRead stop chars = State.mark { s with
      proof.reading := none
      proof.drainPoint := { half := s.proof.drainPoint.half, offset := stop }
      proof.buffer := some chars
      proof.portIndex := 0
      proof.stalled := false
      proof.port := if s.proof.busy || s.proof.paperOut then .held else .awaiting } [225] := by
  have hchanged : (s.proof.drainPoint != { half := s.proof.drainPoint.half, offset := stop }) = true := by
    rw [bne_iff_ne]
    exact fun h => Nat.ne_of_lt hmoved (congrArg SpoolPoint.offset h)
  unfold State.recordRead State.setDrainPoint
  dsimp only
  rw [hchanged, if_neg (by simp [Nat.ne_of_lt hstop, halfWords])]
  rfl

/-- The drain leaves a FULL half for the one the write point stands in (R158). -/
theorem State.leaveHalf_full {s : State} {h : Half} (hdp : s.proof.drainPoint.half = h)
    (hwp : s.proof.writePoint.half = h.other) (hfull : s.proof.half h = .full)
    (hother : s.proof.half h.other = .filling) : s.leaveHalf = State.mark { s with
      proof.halfA := if h = .a then .empty else s.proof.halfA
      proof.halfB := if h = .b then .empty else s.proof.halfB
      proof.drainPoint := { half := h.other, offset := 0 } } (if h = .a then [226, 225] else [227, 225]) := by
  have hchanged : (s.proof.drainPoint != { half := h.other, offset := 0 }) = true := by
    rw [bne_iff_ne]
    exact fun he => Half.other_ne h ((congrArg SpoolPoint.half he).symm.trans hdp)
  have hset (t : State) (hp : t.proof.drainPoint = s.proof.drainPoint) :
      t.setDrainPoint { half := h.other, offset := 0 }
        = State.mark { t with proof.drainPoint := { half := h.other, offset := 0 } } [225] := by
    unfold State.setDrainPoint
    rw [hp, hchanged]
    rfl
  have hstays (t : State) (hp : t.proof.writePoint = s.proof.writePoint) (hh : t.proof.half h.other = .filling) :
      t.moveWritePoint = t := by
    refine if_neg ?_
    rw [ProofUnit.writeWaits, hp, hwp, hh]
    exact fun h => nomatch h
  unfold State.leaveHalf
  rw [hdp]
  dsimp only
  cases h with
  | a =>
    have hhalf : s.setHalf .a .empty = State.mark { s with proof.halfA := .empty } [226] := by
      unfold State.setHalf
      rw [show s.proof.halfA = .full from hfull]
      rfl
    rw [hhalf, hset, hstays]
    exacts [rfl, rfl, hother, rfl]
  | b =>
    have hhalf : s.setHalf .b .empty = State.mark { s with proof.halfB := .empty } [227] := by
      unfold State.setHalf
      rw [show s.proof.halfB = .full from hfull]
      rfl
    rw [hhalf, hset, hstays]
    exacts [rfl, rfl, hother, rfl]

theorem getElem?_valuesOf (ws : List Word) (c j : Nat) (w : Word) (h : ws[j]? = some w) :
    (2 * j < c → (valuesOf ws c)[2 * j]? = some (w.toNat / 256))
      ∧ (2 * j + 1 < c → (valuesOf ws c)[2 * j + 1]? = some (w.toNat % 256)) := by
  obtain ⟨hhigh, hlow⟩ := getElem?_bytesOf ws j
  rw [h] at hhigh hlow
  exact ⟨fun hj => (List.getElem?_take_of_lt hj).trans hhigh, fun hj => (List.getElem?_take_of_lt hj).trans hlow⟩

/-- A cycle's end told to the Proof Unit is a `ProofCycle` when the proof unit's changes are marked. -/
theorem SpoolFrame.cycle {s t : State} {r : Requester} {q : CycleRequest} {v : ProofUnit}
    (h : SpoolFrame (s.cycleEnded r q) t) (hv : t.proof = v) :
    ProofCycle s t r v ∧ t.mem = (s.cycleEnded r q).mem := by
  obtain ⟨hframe, hmarks⟩ := h
  rw [hv] at hframe hmarks
  exact ⟨⟨hframe.trans (by rw [show t.mem = (s.cycleEnded r q).mem from (congrArg State.mem hframe :)]; rfl), hmarks⟩,
    (congrArg State.mem hframe :)⟩

/-- Settles O27: a header is read by its kind and by how much of its record may be read, a character word by whether
it is the last. -/
theorem drainReads : Obligations.DrainReads := by
  refine ⟨fun s q hq hc hr hk hs => ?cycles, fun ws c => ⟨?_, fun j w h => getElem?_valuesOf ws c j w h⟩, ?pad⟩
  case cycles =>
    intro dp base limit
    have hended : s.cycleEnded .drain q = base := State.cycleEnded_other (by simp [hk])
    have hend {u : State} (hu : base.drainWord (s.read q.offset) = u) : EndsIn (exec .drainRead s) u :=
      State.cycle_endsIn (r := .drain) hc hr hk hs
        (f := fun t q => t.drainWord (t.read q.offset)) (by rw [hended]; exact hu)
        (hu ▸ (drainWord_hostBlind (s.read q.offset)).quiet (s := base) hq)
    have hcycle {v : ProofUnit} (hd : SpoolFrame base (base.drainWord (s.read q.offset))
        ∧ (base.drainWord (s.read q.offset)).proof = v) :
        ∃ t, EndsIn (exec .drainRead s) t ∧ ProofCycle s t .drain v ∧ t.mem = s.mem := by
      obtain ⟨hproof, hmem⟩ := (SpoolFrame.cycle (s := s) (r := .drain) (q := q) (hended ▸ hd.1) hd.2)
      exact ⟨_, hend rfl, hproof, hmem.trans (by rw [hended])⟩
    have hheader (h : s.proof.reading = none) (w : Word) : base.drainWord w = base.headerRead w := by
      unfold State.drainWord
      rw [show base.proof.reading = none from h]
    have hlastWord {r : Reading} (hr : s.proof.reading = some r) (hlast : r.got.length + 1 = r.words) :
        base.drainWord (s.read q.offset) = base.recordRead r.stop (valuesOf (r.got ++ [s.read q.offset]) r.count) := by
      unfold State.drainWord
      rw [show base.proof.reading = some r from hr]
      exact if_neg (by simp [hlast])
    refine ⟨fun c hnone hbit hc hlimit => ?header, fun r hr hmore => ?word, fun r hr hlast hstop hdp => ?recordIn,
      fun r hr hlast => ?record, fun hnone hbit => ?padHeader⟩
    case header =>
      have hread (n : Nat) (hn : n = min (limit - (dp.offset + 1)) ((c + 1) / 2)) :=
        (hheader hnone _).trans (State.headerRead_record (s := base) hbit hc hn)
      refine ⟨fun hpos hfits => ?_, fun hroom hshort => ?_, fun hnothing => ?_⟩
      · have hn : (c + 1) / 2 ≠ 0 := by omega
        have h := hread ((c + 1) / 2) (by omega)
        rw [if_neg hn, if_neg (Nat.lt_irrefl _)] at h
        exact hend h
      · have h := hread (limit - (dp.offset + 1)) (by omega)
        rw [if_neg (by omega), if_pos (by omega)] at h
        have hstop : dp.offset + 1 + (limit - (dp.offset + 1)) = limit := by omega
        rw [show base.proof.drainPoint.offset + 1 + (limit - (dp.offset + 1)) = limit from hstop] at h
        exact hend h
      · have h := hread 0 (by omega)
        rw [if_pos rfl] at h
        exact hcycle (h ▸ State.recordRead_reads base (dp.offset + 1) [])
    case word =>
      refine hend ?_
      unfold State.drainWord
      rw [show base.proof.reading = some r from hr]
      exact if_pos (by simpa using hmore)
    case recordIn => exact hend ((hlastWord hr hlast).trans (State.recordRead_within (s := base) hstop hdp _))
    case record =>
      obtain ⟨t, ht, hproof, hmem⟩ := hcycle (hlastWord hr hlast ▸ State.recordRead_reads base _ _)
      exact ⟨t, ht, hmem, hproof⟩
    case padHeader =>
      have h := (hheader hnone (s.read q.offset)).trans (State.headerRead_pad (s := base) hbit)
      by_cases hwrite : s.proof.writePoint.half = dp.half ∧ s.proof.half dp.half ≠ .full
      · rw [if_pos hwrite] at h ⊢
        obtain ⟨t, ht, hproof, hmem⟩ := hcycle (h ▸ State.recordRead_reads base _ _)
        exact ⟨t, ht, hmem, hproof⟩
      · rw [if_neg hwrite] at h ⊢
        obtain ⟨t, ht, hproof, hmem⟩ := hcycle (h ▸ State.leaveHalf_leaves base)
        exact ⟨t, ht, hmem, hproof⟩
  case pad =>
    intro s q h hq hc hr hk hs hnone hbit hdp hwp hfull hother
    refine State.cycle_endsIn (r := .drain) hc hr hk hs (f := fun t q => t.drainWord (t.read q.offset)) ?_ hq
    rw [State.cycleEnded_other (by simp [hk])]
    have hheader : (s.endCycle .drain).drainWord (s.read q.offset) = (s.endCycle .drain).headerRead (s.read q.offset) := by
      unfold State.drainWord
      rw [show (s.endCycle .drain).proof.reading = none from hnone]
    have haway : ¬ (s.proof.writePoint.half = s.proof.drainPoint.half ∧ s.proof.half s.proof.drainPoint.half ≠ .full) :=
      fun h' => h'.2 (by rw [hdp, hfull])
    exact ((hheader.trans (State.headerRead_pad hbit)).trans (if_neg haway)).trans
      (State.leaveHalf_full (s := s.endCycle .drain) hdp hwp hfull hother)
  · simp [valuesOf, length_bytesOf]

end Sys2Proof.Machine
end

section
/-! PROOFS. The entries of the set queue as the Proof Unit and the photounit leave them (R107, R108), and the SPOOL writes
(R153, R154, R158, R159). -/

namespace Sys2Proof.Machine

/-! ### The first entry of a kind, and the entries that leave (R107, R108) -/

theorem modifyFirst_append {f : Entry → Bool} {before after : List Entry} {e : Entry} (h : ∀ x ∈ before, f x = false)
    (he : f e = true) (g : Entry → Entry) : modifyFirst f g (before ++ e :: after) = before ++ g e :: after := by
  induction before with
  | nil => exact if_pos he
  | cons x before ih =>
    have hx : ¬ f x = true := by simp [h x]
    exact (if_neg hx).trans (congrArg (x :: ·) (ih fun y hy => h y (List.mem_cons_of_mem _ hy)))

theorem find?_append_cons {f : Entry → Bool} {before after : List Entry} {e : Entry} (h : ∀ x ∈ before, f x = false)
    (he : f e = true) : (before ++ e :: after).find? f = some e := by
  rw [List.find?_append, List.find?_eq_none.2 (fun x hx => by simp [h x hx])]
  exact List.find?_cons_of_pos he

theorem State.mem_refreshInUse_marks {s : State} {o : Nat} (h : o ∈ s.status.marks) : o ∈ s.refreshInUse.status.marks := by
  unfold State.refreshInUse
  refine List.foldlRecOn (motive := fun u : State => o ∈ u.status.marks) _ _ h fun u hu p _ => ?_
  unfold State.refreshInUseAt
  dsimp only
  split
  · exact hu
  · exact (State.mem_mark _ _ _).2 (.inr hu)

theorem State.releaseDone_of_none {s : State} (h : ∀ e ∈ s.queue, e.done = false) : s.releaseDone = s :=
  if_neg fun hany => by
    obtain ⟨e, he, hdone⟩ := List.any_eq_true.1 hany
    rw [h e he] at hdone
    cases hdone

/-- Entries leave: the in-use counts follow, and a FONT WAIT for a position is woken (R108). -/
theorem State.releaseDone_of_some {s : State} {e : Entry} (he : e ∈ s.queue) (h : e.done = true) :
    s.releaseDone = (State.refreshInUse { s with queue := s.queue.filter (fun e => !e.done) }).wakePositionWait :=
  if_pos (List.any_eq_true.2 ⟨e, he, h⟩)

/-- What the leaving of entries can change. -/
theorem State.releaseDone_frame (s : State) : s.releaseDone = { s with
    queue := s.queue.filter (fun e => !e.done)
    font.table := s.releaseDone.font.table
    composer.fontWait := s.releaseDone.composer.fontWait
    status.marks := s.releaseDone.status.marks } := by
  by_cases hany : ∃ e ∈ s.queue, e.done = true
  · obtain ⟨e, he, hdone⟩ := hany
    rw [State.releaseDone_of_some he hdone]
    have hframe := State.refreshInUse_frame { s with queue := s.queue.filter (fun e => !e.done) }
    generalize State.refreshInUse { s with queue := s.queue.filter (fun e => !e.done) } = u at hframe
    rw [hframe]
    rfl
  · have hnone : ∀ e ∈ s.queue, e.done = false := fun e he => by
      rw [← Bool.not_eq_true]
      exact fun h => hany ⟨e, he, h⟩
    rw [State.releaseDone_of_none hnone, List.filter_eq_self.2 (fun e he => by simp [hnone e he])]

theorem State.mem_releaseDone_marks {s : State} {o : Nat} (h : o ∈ s.status.marks) : o ∈ s.releaseDone.status.marks := by
  by_cases hany : s.queue.any Entry.done = true
  · obtain ⟨e, he, hdone⟩ := List.any_eq_true.1 hany
    rw [State.releaseDone_of_some he hdone]
    have hkept := State.mem_refreshInUse_marks (s := { s with queue := s.queue.filter (fun e => !e.done) }) h
    generalize State.refreshInUse { s with queue := s.queue.filter (fun e => !e.done) } = u at hkept
    exact hkept
  · have hsame : s.releaseDone = s := if_neg hany
    rw [hsame]
    exact h

/-- When an entry leaves, every in-use count is brought up to date (R49, R108). -/
theorem State.releaseDone_upToDate {s : State} {e : Entry} (he : e ∈ s.queue) (h : e.done = true) :
    InUseUpToDate s.releaseDone := by
  rw [State.releaseDone_of_some he h]
  have hup := State.refreshInUse_upToDate { s with queue := s.queue.filter (fun e => !e.done) }
  generalize State.refreshInUse { s with queue := s.queue.filter (fun e => !e.done) } = u at hup
  exact hup

/-! ### A SPOOL write (R158, R159) -/

theorem ProofUnit.withHalf_eq (u : ProofUnit) (h : Half) (x : HalfState) :
    u.withHalf h x = { u with halfA := (u.withHalf h x).halfA, halfB := (u.withHalf h x).halfB } := by
  cases h <;> rfl

/-- The proof unit once record `r` is written and `rest` follow, before its half is closed (R154, R158). -/
def ProofUnit.placed (u : ProofUnit) (r : PrintRecord) (rest : List PrintRecord) : ProofUnit :=
  { u.withHalf u.writePoint.half .filling with
    written := 0
    records := rest
    writePoint := { half := u.writePoint.half, offset := u.writePoint.offset + r.words }
    gap := if r.role = .gap then 0 else u.gap
    job := match r.role with
      | .header j => some j
      | _ => u.job }

/-- The same once the half is closed when the record ends with it (R158). -/
def ProofUnit.recordDone (u : ProofUnit) (r : PrintRecord) (rest : List PrintRecord) : ProofUnit :=
  if u.writePoint.offset + r.words = 4096 then (u.placed r rest).filled else u.placed r rest

theorem ProofUnit.filled_eq (u : ProofUnit) :
    u.filled = { u.withHalf u.writePoint.half .full with writePoint := u.filled.writePoint }
      ∧ (u.filled.writePoint = { half := u.writePoint.half, offset := 4096 }
        ∨ u.filled.writePoint.half = u.writePoint.half.other) :=
  ProofUnit.movedOn_eq { u.withHalf u.writePoint.half .full with
    writePoint := { half := u.writePoint.half, offset := 4096 } }

/-- The state once the last word of record `r` is written. -/
def State.recordPut (s : State) (r : PrintRecord) (rest : List PrintRecord) : State :=
  let t := State.recordWritten (State.setWritePoint { s.setHalf s.proof.writePoint.half .filling with
      proof.written := 0, proof.records := rest }
    { s.proof.writePoint with offset := s.proof.writePoint.offset + r.words }) r.role
  if s.proof.writePoint.offset + r.words = 4096 then t.fillHalf else t

section
variable {s : State} {r : PrintRecord} {rest : List PrintRecord} (hr : s.proof.records = r :: rest)
include hr

theorem State.spoolWritten_pad (hfull : s.proof.half s.proof.writePoint.half ≠ .full) (hw : s.proof.written = 0)
    (hlong : 4096 - s.proof.writePoint.offset < r.words) : s.spoolWritten = s.fillHalf := by
  have hno : s.proof.fits r.words = false := by
    rw [← Bool.not_eq_true, ProofUnit.fits_iff hfull]
    omega
  unfold State.spoolWritten
  rw [hr]
  exact if_pos (by simp [hw, hno])

/-- A word of a record is written: the half is FILLING, and the last word places the record. -/
theorem State.spoolWritten_record (hfull : s.proof.half s.proof.writePoint.half ≠ .full)
    (h : 0 < s.proof.written ∨ r.words ≤ 4096 - s.proof.writePoint.offset) : s.spoolWritten =
      if s.proof.written + 1 < r.words then
        { s.setHalf s.proof.writePoint.half .filling with proof.written := s.proof.written + 1 }
      else if rest.isEmpty then (s.recordPut r rest).clearProofJob.proofDone else s.recordPut r rest := by
  have hno : ¬ (s.proof.written = 0 && !s.proof.fits r.words) = true := by
    simp only [Bool.and_eq_true, decide_eq_true_eq, Bool.not_eq_true', not_and, Bool.not_eq_false]
    intro hw
    exact (ProofUnit.fits_iff hfull _).2 (h.resolve_left (by omega))
  have hwritten : (s.setHalf s.proof.writePoint.half .filling).proof.written = s.proof.written := by
    rw [State.setHalf_proof]
    cases s.proof.writePoint.half <;> rfl
  unfold State.spoolWritten
  rw [hr]
  refine (if_neg hno).trans ?_
  dsimp only
  rw [hwritten]
  rfl

end

/-- A record placed is marked by what changed, whatever it was (R154, R158). -/
theorem State.recordPut_puts {s : State} (r : PrintRecord) (rest : List PrintRecord)
    (hfull : s.proof.half s.proof.writePoint.half ≠ .full) :
    SpoolFrame s (s.recordPut r rest) ∧ (s.recordPut r rest).proof = s.proof.recordDone r rest := by
  obtain ⟨a, ha⟩ : ∃ a, a = s.setHalf s.proof.writePoint.half .filling := ⟨_, rfl⟩
  obtain ⟨b, hb⟩ : ∃ b : State, b = { a with proof.written := 0, proof.records := rest } := ⟨_, rfl⟩
  obtain ⟨c, hc⟩ : ∃ c, c = b.setWritePoint
    { s.proof.writePoint with offset := s.proof.writePoint.offset + r.words } := ⟨_, rfl⟩
  obtain ⟨d, hd⟩ : ∃ d, d = c.recordWritten r.role := ⟨_, rfl⟩
  have hput : s.recordPut r rest = if s.proof.writePoint.offset + r.words = 4096 then d.fillHalf else d := by
    rw [hd, hc, hb, ha]
    rfl
  have hav : a.proof = s.proof.withHalf s.proof.writePoint.half .filling := ha ▸ s.setHalf_proof _ _
  have hsame := s.proof.withHalf_eq s.proof.writePoint.half .filling
  have hcv : c.proof = { a.proof with
      written := 0, records := rest,
      writePoint := { s.proof.writePoint with offset := s.proof.writePoint.offset + r.words } } := by
    rw [hc, State.setWritePoint_proof, hb]
  have hdv : d.proof = s.proof.placed r rest := by
    rw [hd, ProofUnit.placed]
    generalize s.proof.withHalf s.proof.writePoint.half .filling = v at hav hsame
    cases hrole : r.role with
    | gap => exact (State.setGap_proof _ _).trans (by rw [hcv, hav, hsame]; rfl)
    | header j =>
      have hjob : (c.recordWritten (.header j)).proof = { c.proof with job := some j } := rfl
      exact hjob.trans (by rw [hcv, hav, hsame]; rfl)
    | own => exact hcv.trans (by rw [hav, hsame]; rfl)
  have hac : SpoolFrame a c :=
    (show SpoolFrame a b from hb ▸ SpoolFrame.unposted (v := { a.proof with written := 0, records := rest }) (by
      simp [ProofUnit.changes])).trans (hc ▸ b.setWritePoint_spoolFrame _) (by
        rw [hcv, hb]
        exact ⟨fun _ => rfl, fun h => h, fun h => h, fun h => h, fun h => h⟩)
  have hcd : SpoolFrame c d ∧ d.proof = { c.proof with gap := d.proof.gap, job := d.proof.job } := by
    rw [hd]
    cases r.role with
    | gap => exact ⟨c.setGap_spoolFrame 0, by rw [show c.recordWritten .gap = c.setGap 0 from rfl, State.setGap_proof]⟩
    | header j => exact ⟨SpoolFrame.unposted (v := { c.proof with job := some j }) (by simp [ProofUnit.changes]), rfl⟩
    | own => exact ⟨SpoolFrame.refl c, rfl⟩
  have hsd : SpoolFrame s d := by
    refine ((ha ▸ s.setHalf_spoolFrame _ _ : SpoolFrame s a).trans hac ?_).trans hcd.1 ?_
    · rw [hcv]
      have hpoint : s.proof.writePoint = a.proof.writePoint := by rw [hav, hsame]
      exact ⟨fun _ => hpoint, fun h => h, fun h => h, fun h => h, fun h => h⟩
    · rw [hcd.2]
      have hgap : s.proof.gap = c.proof.gap := by rw [hcv, hav, hsame]
      exact ⟨fun h => h, fun h => h, fun h => h, fun h => h, fun _ => hgap⟩
  rw [hput]
  unfold ProofUnit.recordDone
  split
  next hend =>
    obtain ⟨hfills, hfilled⟩ := d.fillHalf_fills
    refine ⟨hsd.trans hfills ?_, by rw [hfilled, hdv]⟩
    have hwp : (s.proof.placed r rest).writePoint.half = s.proof.writePoint.half := rfl
    obtain ⟨hkept, hpoint⟩ := (s.proof.placed r rest).filled_eq
    rw [hfilled, hdv, hkept, hwp]
    rw [hwp] at hpoint
    have hwords : 0 < r.words := Nat.add_pos_left Nat.one_pos _
    refine ⟨fun h => ?_, ?_⟩
    · rcases hpoint with hp | hp
      · have hoffset : s.proof.writePoint.offset = 4096 := congrArg SpoolPoint.offset (h.trans hp)
        omega
      · exact absurd ((congrArg SpoolPoint.half h).trans hp).symm (Half.other_ne _)
    · cases hh : s.proof.writePoint.half with
      | a =>
        rw [hh] at hfull
        exact ⟨fun h => h, fun h => absurd h hfull, fun h => h, fun h => h⟩
      | b =>
        rw [hh] at hfull
        exact ⟨fun h => h, fun h => h, fun h => absurd h hfull, fun h => h⟩
  next => exact ⟨hsd, hdv⟩

/-- A half that is what it becomes is not marked. -/
theorem State.setHalf_same {s : State} {h : Half} {x : HalfState} (hx : s.proof.half h = x) : s.setHalf h x = s := by
  subst hx
  cases h with
  | a => exact (congrArg (State.markIf _ · [226]) (bne_self_eq_false s.proof.halfA)).trans rfl
  | b => exact (congrArg (State.markIf _ · [227]) (bne_self_eq_false s.proof.halfB)).trans rfl

/-- A record of the entry's own that ends before its FILLING half does (R158). -/
theorem State.recordPut_within {s : State} {r : PrintRecord} (hrole : r.role = .own)
    (hfilling : s.proof.half s.proof.writePoint.half = .filling) (hstop : s.proof.writePoint.offset + r.words < 4096)
    (rest : List PrintRecord) : s.recordPut r rest = State.mark { s with
      proof.written := 0
      proof.records := rest
      proof.writePoint := { s.proof.writePoint with offset := s.proof.writePoint.offset + r.words } } [224] := by
  have hwords : 0 < r.words := Nat.add_pos_left Nat.one_pos _
  have hchanged : (s.proof.writePoint != { s.proof.writePoint with offset := s.proof.writePoint.offset + r.words })
      = true := by
    rw [bne_iff_ne]
    intro h
    have := congrArg SpoolPoint.offset h
    dsimp only at this
    omega
  unfold State.recordPut
  rw [State.setHalf_same hfilling, hrole]
  dsimp only
  rw [if_neg (Nat.ne_of_lt hstop)]
  unfold State.setWritePoint
  dsimp only
  rw [hchanged]
  rfl

/-- The proof unit once its entry of kind `k` is written: nothing is left to write, and a JOBEND takes the proof job number
away (R154). -/
def ProofUnit.entryDone (u : ProofUnit) (k : EntryKind) : ProofUnit :=
  { u with
    records := [], written := 0
    job := match k with
      | .jobEnd _ => none
      | _ => u.job }

theorem ProofUnit.entryDone_eq {u : ProofUnit} (hr : u.records = []) (hw : u.written = 0) (k : EntryKind) :
    u.entryDone k = { u with job := (u.entryDone k).job } := by
  unfold ProofUnit.entryDone
  rw [← hr, ← hw]

theorem ProofUnit.recordDone_done (u : ProofUnit) (r : PrintRecord) (rest : List PrintRecord) :
    (u.recordDone r rest).records = rest ∧ (u.recordDone r rest).written = 0 := by
  unfold ProofUnit.recordDone
  split
  · rw [(ProofUnit.filled_eq _).1, ProofUnit.withHalf_eq]
    exact ⟨rfl, rfl⟩
  · exact ⟨rfl, rfl⟩

/-- The entry in proof is done with, once its last record is placed (R108, R153, R154). -/
theorem State.entryWritten {u : State} {before after : List Entry} {e : Entry} (hq : u.queue = before ++ e :: after)
    (he : e.proof = .inProof) (hbefore : ∀ x ∈ before, x.proof ≠ .inProof) :
    u.clearProofJob.proofDone = State.releaseDone { u with
      proof := u.proof.entryDone e.kind, queue := before ++ { e with proof := .proofed } :: after } := by
  have hother : ∀ x ∈ before, (x.proof == .inProof) = false := fun x hx => by simp [hbefore x hx]
  have hthis : (e.proof == .inProof) = true := by simp [he]
  have hin : u.inProof = some e := by
    unfold State.inProof
    rw [hq]
    exact find?_append_cons hother hthis
  have hclear : u.clearProofJob = { u with proof.job := (u.proof.entryDone e.kind).job } := by
    unfold State.clearProofJob
    rw [hin]
    obtain ⟨kind, tag, marks, mode, photo, proof⟩ := e
    cases kind <;> rfl
  rw [hclear]
  unfold State.proofDone State.markProofed
  dsimp only
  rw [hq, modifyFirst_append hother hthis]
  rfl

/-- The entries left once entry `e` of the queue is PROOFED, the others not being both EXPOSED and PROOFED (R108). -/
theorem filter_done_proofed {before after : List Entry} {e : Entry}
    (h : ∀ x ∈ before ++ after, x.photo ≠ .exposed ∨ x.proof ≠ .proofed) :
    (before ++ { e with proof := .proofed } :: after).filter (fun x => !x.done)
      = before ++ (if e.photo = .exposed then [] else [{ e with proof := .proofed }]) ++ after := by
  have hstays (l : List Entry) (hl : ∀ x ∈ l, x ∈ before ++ after) : l.filter (fun x => !x.done) = l :=
    List.filter_eq_self.2 fun x hx => by
      rcases h x (hl x hx) with h | h <;> simp [Entry.done, h]
  rw [List.filter_append, List.filter_cons, hstays before (fun x hx => List.mem_append_left _ hx),
    hstays after (fun x hx => List.mem_append_right _ hx)]
  by_cases hexp : e.photo = .exposed <;> simp [Entry.done, hexp]

/-- Settles O28: a write closes the half as a PAD, adds a word, or places its record; and the last record's end is the
entry's. -/
theorem spoolWrites : Obligations.SpoolWrites := by
  have hmem {s : State} {q : CycleRequest} (hk : q.kind = .spool) :
      (s.cycleEnded .spool q).mem = writeMem s.mem q.offset q.data := if_pos hk
  have hend {s u : State} {q : CycleRequest} (hq : Quiet s) (hc : s.port.cycle = some .spool)
      (hr : s.port.requests.spool = some q) (hk : q.kind = .spool) (hs : q.stale = false)
      (hu : (s.cycleEnded .spool q).spoolWritten = u) : EndsIn (exec .spoolWrite s) u :=
    State.cycle_endsIn (r := .spool) hc hr hk hs (f := fun t _ => t.spoolWritten) hu
      (hu ▸ spoolWritten_hostBlind.quiet (s := s.cycleEnded .spool q) hq)
  have hrecord {s : State} {q : CycleRequest} {r : PrintRecord} {rest : List PrintRecord}
      (hrec : s.proof.records = r :: rest) (hw : 0 < s.proof.written)
      (hfilling : s.proof.half s.proof.writePoint.half = .filling) :=
    State.spoolWritten_record (s := s.cycleEnded .spool q) hrec (by
      show s.proof.half s.proof.writePoint.half ≠ .full
      rw [hfilling]
      decide) (.inl hw)
  refine ⟨?word, ?record, ?entry, ?all⟩
  case word =>
    intro s q r rest hq hc hr hk hs hrec hw hmore hfilling
    refine hend hq hc hr hk hs ((hrecord hrec hw hfilling).trans ((if_pos hmore).trans ?_))
    rw [State.setHalf_same (s := s.cycleEnded .spool q) (h := (s.cycleEnded .spool q).proof.writePoint.half) hfilling,
      ← hmem hk]
    rfl
  case record =>
    intro s q r n rest hq hc hr hk hs hrec hrole hw hlast hfilling hstop
    refine hend hq hc hr hk hs ((hrecord hrec hw hfilling).trans
      ((if_neg (Nat.not_lt.2 (Nat.le_of_eq hlast.symm))).trans ?_))
    rw [State.recordPut_within (s := s.cycleEnded .spool q) hrole hfilling hstop, ← hmem hk]
    rfl
  case entry =>
    intro s q r e l hq hc hr hk hs hrec hrole hw hlast hfilling hstop hqueue hkind hproof hphoto
    refine hend hq hc hr hk hs ((hrecord hrec hw hfilling).trans
      ((if_neg (Nat.not_lt.2 (Nat.le_of_eq hlast.symm))).trans ((if_pos rfl).trans ?_)))
    rw [State.recordPut_within (s := s.cycleEnded .spool q) hrole hfilling hstop, ← hmem hk,
      State.entryWritten (before := []) (after := []) (by exact hqueue) hproof (by simp),
      State.releaseDone_of_none (by simp [Entry.done, hphoto]), hkind]
    rfl
  case all =>
    intro s q r rest hq hc hr hk hs hrec hfull wp words stop filling moved ended
    obtain ⟨b, hb⟩ : ∃ b, b = s.cycleEnded .spool q := ⟨_, rfl⟩
    have hbp : b.proof = s.proof := by rw [hb]; rfl
    have hbfull : b.proof.half b.proof.writePoint.half ≠ .full := by rw [hbp]; exact hfull
    have hbrec : b.proof.records = r :: rest := by rw [hbp]; exact hrec
    have hcycle {v : ProofUnit} {t : State} (ht : b.spoolWritten = t) (hf : SpoolFrame b t) (hv : t.proof = v) :
        EndsIn (exec .spoolWrite s) t ∧ ProofCycle s t .spool v ∧ t.mem = writeMem s.mem q.offset q.data := by
      obtain ⟨hcycle, hm⟩ := SpoolFrame.cycle (s := s) (r := .spool) (q := q) (hb ▸ hf) hv
      exact ⟨hend hq hc hr hk hs (hb ▸ ht), hcycle, hm.trans (hmem hk)⟩
    have hwords (h : s.proof.written + 1 = words) : ¬ s.proof.written + 1 < r.words :=
      Nat.not_lt.2 (Nat.le_of_eq h.symm)
    refine ⟨fun hw hlong => ?_, fun hfits => ⟨fun hmore => ?_, fun hlast hrest => ?_, ?_⟩⟩
    · obtain ⟨hfills, hfilled⟩ := b.fillHalf_fills
      exact ⟨_, hcycle (State.spoolWritten_pad hbrec hbfull (by rw [hbp]; exact hw) (by rw [hbp]; exact hlong)) hfills
        (by rw [hfilled, hbp])⟩
    all_goals
      have hwritten := State.spoolWritten_record hbrec hbfull (by rw [hbp]; exact hfits)
      rw [hbp] at hwritten
    · rw [if_pos (show s.proof.written + 1 < r.words from hmore)] at hwritten
      have hframe : SpoolFrame b { b.setHalf s.proof.writePoint.half .filling with proof.written := s.proof.written + 1 } :=
        (b.setHalf_spoolFrame _ _).trans (.unposted (by simp [ProofUnit.changes]))
          ⟨fun h => h, fun h => h, fun h => h, fun h => h, fun h => h⟩
      have hfilled := (b.setHalf_proof s.proof.writePoint.half .filling).trans (by rw [hbp] :
        _ = s.proof.withHalf s.proof.writePoint.half .filling)
      obtain ⟨ht, hproof, hm⟩ := hcycle hwritten hframe
        (congrArg (fun u : ProofUnit => { u with written := s.proof.written + 1 }) hfilled)
      exact ⟨_, ht, hm, hproof⟩
    · rw [if_neg (hwords hlast), if_neg (by simp [hrest])] at hwritten
      obtain ⟨hputs, hput⟩ := State.recordPut_puts r rest hbfull
      exact ⟨_, hcycle hwritten hputs (hput.trans (by rw [hbp]; rfl))⟩
    · intro before after e hlast hrest hqueue he hbefore hothers
      rw [if_neg (hwords hlast), if_pos (by rw [hrest]; rfl)] at hwritten
      obtain ⟨hputs, hput⟩ := State.recordPut_puts r rest hbfull
      rw [hbp] at hput
      obtain ⟨hput', hmarks⟩ := hputs
      generalize b.recordPut r rest = u at hwritten hput hput' hmarks
      have huq : u.queue = before ++ e :: after := by rw [hput', hb]; exact hqueue
      rw [State.entryWritten huq he hbefore] at hwritten
      refine ⟨_, hend hq hc hr hk hs (hb ▸ hwritten), ?_⟩
      obtain ⟨w, hw⟩ : ∃ w : State, w = { u with
          proof := u.proof.entryDone e.kind, queue := before ++ { e with proof := .proofed } :: after } := ⟨_, rfl⟩
      rw [← hw]
      have hleft := w.releaseDone_frame
      have hdone (hexp : e.photo = .exposed) : InUseUpToDate w.releaseDone :=
        State.releaseDone_upToDate (e := { e with proof := .proofed }) (by rw [hw]; simp) (by simp [Entry.done, hexp])
      have hkept (hexp : e.photo ≠ .exposed) : w.releaseDone = w := by
        refine State.releaseDone_of_none fun x hx => ?_
        rw [hw] at hx
        rcases List.mem_append.1 hx with hx | hx
        · rcases hothers x (List.mem_append_left _ hx) with h | h <;> simp [Entry.done, h]
        · rcases List.mem_cons.1 hx with rfl | hx
          · simp [Entry.done, hexp]
          · rcases hothers x (List.mem_append_right _ hx) with h | h <;> simp [Entry.done, h]
      have hmarked {o : Nat} (ho : o ∈ u.status.marks) : o ∈ w.releaseDone.status.marks :=
        State.mem_releaseDone_marks (by rw [hw]; exact ho)
      generalize w.releaseDone = t at *
      refine ⟨?_, ?_, ?_, ?_, fun o ho => hmarked ((hmarks o).2 ?_), ?_, ?_, ?_, ?_⟩
      · rw [hleft, hw, hput', hb]
        exact hmem hk
      · rw [hleft, hw, hput]
        obtain ⟨hrecords, hnone⟩ := s.proof.recordDone_done r rest
        exact (ProofUnit.entryDone_eq (hrecords.trans hrest) hnone e.kind).trans (by
          cases e.kind <;> rfl)
      · split
        next hexp => exact hdone hexp
        next hexp =>
          rw [hkept hexp, hw, hput', hb]
          exact ⟨rfl, rfl⟩
      · rw [hleft, hw]
        exact filter_done_proofed hothers
      · rw [hbp, show b.status = s.status by rw [hb]; rfl, hput]
        exact List.mem_append.1 ho
      all_goals rw [hleft, hw, hput', hb]; rfl

end Sys2Proof.Machine
end

section
/-! PROOFS. The posting pass and the value of every posted word (R175, R184, R185; 11.3). -/

namespace Sys2Proof.Machine

/-! ### Codes are places in the lists of 11.3 -/

theorem Ownership.code_eq (x : Ownership) : x.code = [Ownership.copy, .taking, .panel].idxOf x := by cases x <;> rfl

theorem SeqState.code_eq (x : SeqState) :
    x.code = [SeqState.idle, .shifting, .lens, .stepping, .flashing, .moving, .cutting, .halted].idxOf x := by
  cases x <;> rfl

theorem codeOr_haltKind (x : Option HaltKind) : codeOr HaltKind.code x =
    [none, some HaltKind.lamp, some .shift, some .lens, some .step, some .filmDrive, some .cutter, some .filmLow].idxOf x := by
  rcases x with - | x
  · rfl
  · cases x <;> rfl

theorem ComposerState.code_eq (x : ComposerState) : x.code =
    [ComposerState.outsideJob, .setting, .lookahead, .fontWait, .queueWait, .discarding].idxOf x := by
  cases x <;> rfl

theorem codeOr_copyError (x : Option CopyError) : codeOr CopyError.code x =
    [none, some CopyError.unknownCommand, some .outsideJob, some .badOperand, some .noFont, some .invalidCode,
      some .refusedMount, some .refusedRelease, some .lensesBusy, some .dictionaryFull].idxOf x := by
  rcases x with - | x
  · rfl
  · cases x <;> rfl

theorem PosState.code_eq (x : PosState) :
    x.code = [PosState.vacant, .requested, .loading, .mounted, .fixed, .refused].idxOf x := by
  cases x <;> rfl

theorem codeOr_reason (x : Option Reason) : codeOr Reason.code x =
    [none, some Reason.timeout, some .declined, some .noRecord, some .damaged, some .memoryError, some .busy,
      some .withdrawn].idxOf x := by
  rcases x with - | x
  · rfl
  · cases x <;> rfl

theorem codeOr_jobOutcome (x : Option JobOutcome) : codeOr JobOutcome.code x =
    [none, some JobOutcome.complete, some .unterminated, some .aborted, some .overrun].idxOf x := by
  rcases x with - | x
  · rfl
  · cases x <;> rfl

theorem HalfState.code_eq (x : HalfState) : x.code = [HalfState.empty, .filling, .full].idxOf x := by cases x <;> rfl

theorem ProofMode.code_eq (x : ProofMode) : x.code = [ProofMode.off, .attached, .detached].idxOf x := by cases x <;> rfl

theorem pairWord_of_lt {a b : Nat} (ha : a < 256) (hb : b < 256) : pairWord a b = BitVec.ofNat 16 (a * 256 + b) := by
  rw [pairWord, Nat.mod_eq_of_lt ha, Nat.mod_eq_of_lt hb]

theorem PosState.code_lt (x : PosState) : x.code < 256 := by cases x <;> decide

theorem codeOr_reason_lt (x : Option Reason) : codeOr Reason.code x < 256 := by
  rcases x with - | x
  · decide
  · cases x <;> decide

theorem codeOr_jobOutcome_lt (x : Option JobOutcome) : codeOr JobOutcome.code x < 256 := by
  rcases x with - | x
  · decide
  · cases x <;> decide

theorem bitIf_eq (b : Bool) (i : Nat) : bitIf b i = 2 ^ i * b.toNat := by
  cases b <;> simp [bitIf]

theorem JobFlags.code_eq (f : JobFlags) : f.code =
    f.sumMismatch.toNat + 2 * f.clamped.toNat + 4 * f.fontSub.toNat + 8 * f.sizeSub.toNat + 16 * f.overset.toNat := by
  simp only [JobFlags.code, bitIf_eq]
  omega

theorem JobFlags.code_lt (f : JobFlags) : f.code < 256 := by
  have hle (b : Bool) : b.toNat ≤ 1 := Bool.toNat_le b
  rw [JobFlags.code_eq]
  have := hle f.sumMismatch
  have := hle f.clamped
  have := hle f.fontSub
  have := hle f.sizeSub
  have := hle f.overset
  omega

/-- The two words of a 32-bit value, the high one first. -/
theorem highWord_append_lowWord (v : BitVec 32) : highWord v ++ lowWord v = v := by
  apply BitVec.eq_of_getLsbD_eq
  intro i hi
  simp only [highWord, lowWord, BitVec.getLsbD_append, BitVec.getLsbD_extractLsb']
  by_cases h : i < 16
  · simp [h]
  · simp [h, show i - 16 < 16 by omega, show 16 + (i - 16) = i by omega]

/-- The words of a list of 8-bit values, two to a word. -/
theorem packBytes_getD {l : List Nat} (h : ∀ c ∈ l, c < 256) (j : Nat) :
    (packBytes l).getD j 0 = BitVec.ofNat 16 (l.getD (2 * j) 0 * 256 + l.getD (2 * j + 1) 0) := by
  rw [← toNat_packBytes l j h, BitVec.ofNat_toNat, BitVec.setWidth_eq]

/-! ### The areas of the status record (11.3) -/

theorem getElem_index8 {α : Type} (v : Vector α 8) (p : Fin 8) {n : Nat} (h : n = p.val) : v[index8 n] = v[p] := by
  have hp : index8 n = p := by
    subst h
    exact Fin.ext (Nat.mod_eq_of_lt p.isLt)
  exact congrArg (fun i : Fin 8 => v[i]) hp

section
variable (s : State)

theorem State.postedValue_low {off : Nat} (h : off < 48) : s.postedValue off = s.lowStatusWord off := if_pos h

theorem State.postedValue_mirror (p : Fin 8) {j : Nat} (hj : j < 4) :
    s.postedValue (48 + 4 * p.val + j) = s.font.table[p].word j := by
  have := p.isLt
  unfold State.postedValue
  rw [if_neg (by omega), if_pos (by omega), getElem_index8 _ p (by omega), show (48 + 4 * p.val + j) % 4 = j by omega]

/-- The words from 96 on (11.3). -/
theorem State.postedValue_upper (off : Nat) : 82 ≤ off → s.postedValue off =
    if off < 128 then s.status.capture.word (off - 96)
    else if off = 128 then natWord (s.panel.inbox.getD []).length
    else if off < 152 then (packBytes (s.panel.inbox.getD [])).getD (off - 129) 0
    else if off = 152 then natWord s.status.nextSlot.val
    else if off < 224 then s.status.reports[index8 ((off - 160) / 8)].word (off % 8)
    else if off < 230 then s.spoolStatusWord off
    else natWord s.font.lenses[index8 (off - 230)] := by
  intro h
  unfold State.postedValue
  rw [if_neg (by omega), if_neg (by omega), if_neg (by omega), if_neg (by omega)]

theorem State.postedValue_capture {j : Nat} (hj : j < 32) : s.postedValue (96 + j) = s.status.capture.word j := by
  rw [State.postedValue_upper s _ (by omega), if_pos (by omega), Nat.add_sub_cancel_left]

theorem State.postedValue_inbox {j : Nat} (hj : j < 23) :
    s.postedValue (129 + j) = (packBytes (s.panel.inbox.getD [])).getD j 0 := by
  rw [State.postedValue_upper s _ (by omega), if_neg (by omega), if_neg (by omega), if_pos (by omega),
    Nat.add_sub_cancel_left]

/-- The words from 160 on (11.3). -/
theorem State.postedValue_reports (off : Nat) : 153 ≤ off → s.postedValue off =
    if off < 224 then s.status.reports[index8 ((off - 160) / 8)].word (off % 8)
    else if off < 230 then s.spoolStatusWord off
    else natWord s.font.lenses[index8 (off - 230)] := by
  intro h
  rw [State.postedValue_upper s _ (by omega), if_neg (by omega), if_neg (by omega), if_neg (by omega), if_neg (by omega)]

theorem State.postedValue_report (k : Fin 8) {j : Nat} (hj : j < 8) :
    s.postedValue (160 + 8 * k.val + j) = s.status.reports[k].word j := by
  have := k.isLt
  rw [State.postedValue_reports s _ (by omega), if_pos (by omega), getElem_index8 _ k (by omega),
    show (160 + 8 * k.val + j) % 8 = j by omega]

theorem State.postedValue_spool {off : Nat} (h : 224 ≤ off) (h' : off < 230) : s.postedValue off = s.spoolStatusWord off := by
  rw [State.postedValue_reports s _ (by omega), if_neg (by omega), if_pos h']

theorem State.postedValue_lens (i : Fin 8) : s.postedValue (230 + i.val) = natWord s.font.lenses[i] := by
  rw [State.postedValue_reports s _ (by omega), if_neg (by omega), if_neg (by omega), getElem_index8 _ i (by omega)]

end

theorem SpoolPoint.word_eq (p : SpoolPoint) :
    p.word = BitVec.ofNat 16 ((if p.half = .b then 32768 else 0) + p.offset) := by
  unfold SpoolPoint.word bitIf
  cases p.half <;> rfl

/-! ### The statement -/

/-- Settles O29: the pass is `beginPass` and `advancePass` written out, and each posted word is read off its area. -/
theorem postingPass : Obligations.PostingPass := by
  refine ⟨?begin, ?write, ?values⟩
  case begin =>
    intro s hq hpass hmarks
    refine State.answer_endsIn (o := if s.passCanBegin then some s.beginPass else none) (if_pos ?_) hq
    simp [State.passCanBegin, hpass, hmarks]
  case write =>
    intro s q hq hc hr hk hs base
    have hended : (s.cycleEnded .status q).statusWritten q = base.advancePass := by
      rw [State.cycleEnded_other (by simp [hk])]
      rfl
    refine ⟨fun w rest hpass => ?_, fun hpass => ?_⟩
    all_goals
      refine State.cycle_endsIn (r := .status) hc hr hk hs (hended.trans ?_) hq
      unfold State.advancePass
      rw [show base.status.pass = _ from hpass]
  case values =>
    intro s v num pair chars
    have hlow {off : Nat} (h : off < 48) : v off = s.lowStatusWord off := s.postedValue_low h
    have hpair {off : Nat} {x : BitVec 32} (h : v off = highWord x) (h' : v (off + 1) = lowWord x) : pair off = x := by
      show v off ++ v (off + 1) = x
      rw [h, h', highWord_append_lowWord]
    refine ⟨⟨?_, ?_, ?_, ?_, ?_, ?_, ?_⟩, ⟨?_, ?_, ?_, ?_⟩, ⟨?_, ?_, ?_, ?_, ?_, ?_, ?_, ?_⟩,
      ⟨?_, ?_, ?_, ?_, fun r => ?_⟩, fun p => ⟨?_, ?_, ?_, ?_⟩,
      ⟨?_, ?_, ?_, ?_, ?_, fun hchars j hj => ?_, ?_, fun hchars j hj => ?_⟩, ⟨?_, fun k => ⟨?_, ?_, ?_, ?_, fun hmin hmax => ?_, ?_, ?_⟩⟩,
      ⟨?_, ?_, ?_, ?_, ?_, ?_, fun i => ?_⟩⟩
    -- the machine
    · exact (hlow (by decide)).trans (congrArg num (Ownership.code_eq _))
    · exact (hlow (by decide)).trans (congrArg num (SeqState.code_eq _))
    · exact (hlow (by decide)).trans (congrArg num (codeOr_haltKind _))
    · exact (hlow (by decide)).trans (congrArg num (ComposerState.code_eq _))
    · exact hlow (by decide)
    · exact hlow (by decide)
    · exact hlow (by decide)
    -- the film account
    · exact hpair (hlow (by decide)) (hlow (by decide))
    · exact hpair (hlow (by decide)) (hlow (by decide))
    · exact hpair (hlow (by decide)) (hlow (by decide))
    · exact hpair (hlow (by decide)) (hlow (by decide))
    -- the ring, the copy error and the dictionary
    · exact hlow (by decide)
    · exact hlow (by decide)
    · exact hlow (by decide)
    · exact hlow (by decide)
    · exact (hlow (by decide)).trans (congrArg num (codeOr_copyError _))
    · exact hlow (by decide)
    · exact hlow (by decide)
    · exact hlow (by decide)
    -- the cells and the fault log
    · exact hlow (by decide)
    · exact hlow (by decide)
    · exact hlow (by decide)
    · exact (hlow (by decide)).trans (congrArg num (by simp only [bitIf_eq]; omega))
    · cases r <;> exact hlow (by decide)
    -- the position mirror
    · exact s.postedValue_mirror p (j := 0) (by decide)
    · refine (s.postedValue_mirror p (j := 1) (by decide)).trans ?_
      exact (pairWord_of_lt (PosState.code_lt _) (codeOr_reason_lt _)).trans
        (by rw [PosState.code_eq, codeOr_reason])
    · exact s.postedValue_mirror p (j := 2) (by decide)
    · exact s.postedValue_mirror p (j := 3) (by decide)
    -- the mark cell, the capture and the inbox
    · rfl
    · rfl
    · refine (s.postedValue_capture (j := 0) (by decide)).trans (congrArg num ?_)
      cases s.status.capture.held <;> rfl
    · exact s.postedValue_capture (j := 1) (by decide)
    · exact s.postedValue_capture (j := 2) (by decide)
    · refine Eq.trans ?_ (packBytes_getD hchars j)
      rw [show 99 + j = 96 + (j + 3) by omega]
      exact s.postedValue_capture (by omega)
    · rfl
    · exact (s.postedValue_inbox (by omega)).trans (packBytes_getD hchars j)
    -- the job reports
    · rfl
    · exact s.postedValue_report k (j := 0) (by decide)
    · refine (s.postedValue_report k (j := 1) (by decide)).trans ?_
      exact (pairWord_of_lt (codeOr_jobOutcome_lt _) (JobFlags.code_lt _)).trans
        (by rw [codeOr_jobOutcome, JobFlags.code_eq])
    · exact s.postedValue_report k (j := 2) (by decide)
    · exact s.postedValue_report k (j := 3) (by decide)
    · have hword : filmWord s.status.reports[k].film = BitVec.ofInt 32 s.status.reports[k].film := if_pos ⟨hmin, hmax⟩
      rw [← hword]
      exact hpair (s.postedValue_report k (j := 4) (by decide)) (s.postedValue_report k (j := 5) (by decide))
    · exact s.postedValue_report k (j := 6) (by decide)
    · exact s.postedValue_report k (j := 7) (by decide)
    -- the spool and the lenses
    · exact (s.postedValue_spool (by decide) (by decide)).trans (SpoolPoint.word_eq _)
    · exact (s.postedValue_spool (by decide) (by decide)).trans (SpoolPoint.word_eq _)
    · exact (s.postedValue_spool (by decide) (by decide)).trans (congrArg num (HalfState.code_eq _))
    · exact (s.postedValue_spool (by decide) (by decide)).trans (congrArg num (HalfState.code_eq _))
    · exact s.postedValue_spool (by decide) (by decide)
    · exact (s.postedValue_spool (by decide) (by decide)).trans (congrArg num (ProofMode.code_eq _))
    · exact s.postedValue_lens i

end Sys2Proof.Machine
end

section
/-! PROOFS. Bank faults on the cycles of the part (R178 to R180). -/

namespace Sys2Proof.Machine

/-! ### The fault log, and what each owner does -/

/-- What the fault log's entry can change (R178). -/
theorem State.logFault_frame (s : State) (r : Requester) (off : Nat) : s.logFault r off = { s with
    port.lastFault := s.port.lastFault.set r off
    port.disabled := if r = .status then s.port.disabled else s.port.disabled.set r true
    status.marks := (s.logFault r off).status.marks
    status.flags := (s.logFault r off).status.flags } := by
  unfold State.logFault
  generalize ht : State.mark { s with
    port.lastFault := s.port.lastFault.set r off
    port.disabled := if r = .status then s.port.disabled else s.port.disabled.set r true } (List.range' 40 6) = t
  have hraise := t.raise_frame .memoryError
  rw [hraise, ← ht]
  rfl

theorem State.flagSet_logFault (s : State) (r : Requester) (off : Nat) : (s.logFault r off).flagSet .memoryError = true :=
  State.flagSet_raise_same _ _

/-- The state a faulted cycle of `r` leaves to its owner. -/
def State.faulted (s : State) (r : Requester) (q : CycleRequest) : State := (s.endCycle r).logFault r q.offset

theorem State.faulted_frame (s : State) (r : Requester) (q : CycleRequest) : s.faulted r q = { s with
    port.cycle := none
    port.requests := s.port.requests.set r none
    port.lastFault := s.port.lastFault.set r q.offset
    port.disabled := if r = .status then s.port.disabled else s.port.disabled.set r true
    status.marks := (s.faulted r q).status.marks
    status.flags := (s.faulted r q).status.flags } := (s.endCycle r).logFault_frame r q.offset

theorem State.bankFault_endsIn {s u : State} {r : Requester} {q : CycleRequest} (hq : Quiet s)
    (hc : s.port.cycle = some r) (hr : s.port.requests.get r = some q) (hu : (s.faulted r q).ownerFault r q = u) :
    EndsIn (exec .bankFault s) u := by
  refine State.answer_endsIn ?_ (hu ▸ (ownerFault_hostBlind r q).quiet ((logFault_hostBlind r q.offset).quiet hq))
  rw [State.onFault, show s.inProgress = some (r, q) by simp [State.inProgress, hc, hr], ← hu]
  rfl

/-! ### The fetches of a disabled LIBRARY (R71) -/

/-- What the refusals of the fetches at the positions of `l` leave of the state (R71). -/
structure FetchesRefused (l : List (Fin 8)) (s t : State) : Prop where
  frame : t = { s with
    font := { s.font with table := t.font.table, fetch := t.font.fetch, fetchList := t.font.fetchList }
    composer.fontWait := t.composer.fontWait
    status.marks := t.status.marks
    status.flags := t.status.flags }
  table : ∀ p : Fin 8, t.font.table[p] =
    if p ∈ l then s.font.table[p].refusedFor .memoryError else s.font.table[p]
  noWait : s.composer.fontWait = none → t.composer.fontWait = none
  flags : ∀ f, s.flagSet f = true → t.flagSet f = true
  raised : l ≠ [] → t.flagSet .mountRefused = true

theorem State.flagSet_refusePosition_mono {s : State} {f : EventFlag} (h : s.flagSet f = true) (p : Fin 8) (r : Reason) :
    (s.refusePosition p r).flagSet f = true := by
  have hset : (s.setPosition p (s.font.table[p].refusedFor r)).flagSet f = s.flagSet f := by
    rw [State.setPosition_frame]
    rfl
  rw [State.refusePosition, State.flagSet_raise, hset, h, Bool.true_or]

theorem State.refusePosition_fontWait_none {s : State} (h : s.composer.fontWait = none) (p : Fin 8) (r : Reason) :
    (s.refusePosition p r).composer.fontWait = none := by
  rw [State.refusePosition, State.raise_frame]
  exact State.setPosition_fontWait_none h p _

theorem FetchesRefused.nil (s : State) (f : Option Fetch) (l : List (Fin 8)) :
    FetchesRefused [] s { s with font.fetch := f, font.fetchList := l } :=
  ⟨rfl, fun _ => rfl, id, fun _ => id, fun h => absurd rfl h⟩

theorem FetchesRefused.one (s : State) (p : Fin 8) : FetchesRefused [p] s (s.refusePosition p .memoryError) where
  frame := by
    have hframe := s.refusePosition_frame p .memoryError
    generalize s.refusePosition p .memoryError = u at hframe
    rw [hframe]
  table q := by
    rw [State.refusePosition_table]
    by_cases hq : q = p
    · simp [hq]
    · rw [getElem_set_fin_other (h := hq), if_neg (by simp [hq])]
  noWait h := State.refusePosition_fontWait_none h p _
  flags f h := State.flagSet_refusePosition_mono h p _
  raised _ := State.flagSet_refusePosition s p _

/-- One refusal after another. -/
theorem FetchesRefused.trans {s t u : State} {l l' : List (Fin 8)} (h : FetchesRefused l s t)
    (h' : FetchesRefused l' t u) (hdisjoint : ∀ p ∈ l, p ∉ l') : FetchesRefused (l ++ l') s u where
  frame := by
    have hframe := h'.frame
    rw [h.frame] at hframe
    exact hframe
  table p := by
    rw [h'.table, h.table]
    by_cases hp : p ∈ l
    · simp [hp, hdisjoint p hp]
    · simp [hp]
  noWait hnone := h'.noWait (h.noWait hnone)
  flags f hf := h'.flags f (h.flags f hf)
  raised hne := by
    by_cases hl : l = []
    · exact h'.raised (by simpa [hl] using hne)
    · exact h'.flags _ (h.raised hl)

/-- While LIBRARY is disabled every fetch of the list ends as it comes to the head (R71). -/
theorem State.beginFetches_refused (l : List (Fin 8)) : ∀ (n : Nat) (s : State), s.font.fetchList = l → s.font.fetch = none →
    s.port.disabled.library = true → l.Nodup → l.length < n → FetchesRefused l s (s.beginFetches n)
      ∧ (s.beginFetches n).font.fetch = none ∧ (s.beginFetches n).font.fetchList = [] := by
  induction l with
  | nil =>
    rintro (- | n) s hl hnone - - hlt
    · simp at hlt
    · have hsame : s.beginFetches (n + 1) = s := by
        unfold State.beginFetches
        rw [hl]
      rw [hsame]
      exact ⟨⟨rfl, fun _ => rfl, id, fun _ => id, fun h => absurd rfl h⟩, hnone, hl⟩
  | cons p rest ih =>
    rintro (- | n) s hl hnone hlib hnodup hlt
    · simp at hlt
    · obtain ⟨hp, hrest⟩ := List.nodup_cons.1 hnodup
      have hstep : s.beginFetches (n + 1)
          = State.beginFetches n (({ s with font.fetchList := rest } : State).refusePosition p .memoryError) := by
        rw [State.beginFetches]
        simp [hl, hnone, hlib]
      have hset : FetchesRefused [] s { s with font.fetchList := rest } :=
        ⟨rfl, fun _ => rfl, id, fun _ => id, fun h => absurd rfl h⟩
      have hone := hset.trans (FetchesRefused.one _ p) (by simp)
      have hframe := State.refusePosition_frame { s with font.fetchList := rest } p .memoryError
      rw [hstep]
      generalize State.refusePosition { s with font.fetchList := rest } p .memoryError = u at hone hframe
      obtain ⟨hothers, hended, hempty⟩ := ih n u (by rw [hframe]) (by rw [hframe]; exact hnone)
        (by rw [hframe]; exact hlib) hrest (by simpa using hlt)
      exact ⟨hone.trans hothers (by simpa using hp), hended, hempty⟩

/-- A fault of LIBRARY refuses the fetch in flight and all others of the list (R71). -/
theorem State.refuseFetch_disabled {s : State} {p : Fin 8} {rest : List (Fin 8)} (hl : s.font.fetchList = p :: rest)
    (hnodup : (p :: rest).Nodup) (hlib : s.port.disabled.library = true) :
    FetchesRefused (p :: rest) s (s.refuseFetch p .memoryError)
      ∧ (s.refuseFetch p .memoryError).font.fetch = none ∧ (s.refuseFetch p .memoryError).font.fetchList = [] := by
  obtain ⟨hp, hrest⟩ := List.nodup_cons.1 hnodup
  have hlength : rest.length < 9 := by
    have := hnodup.length_le_card
    simp only [List.length_cons, Fintype.card_fin] at this
    omega
  have hone := FetchesRefused.one s p
  have hframe := s.refusePosition_frame p .memoryError
  unfold State.refuseFetch State.endFetch
  generalize s.refusePosition p .memoryError = u at hone hframe
  have htail : u.font.fetchList.tail = rest := by rw [hframe]; exact congrArg List.tail hl
  rw [htail]
  have hset := hone.trans (FetchesRefused.nil u none rest) (by simp)
  obtain ⟨hothers, hended, hempty⟩ := State.beginFetches_refused rest 9 { u with font.fetchList := rest, font.fetch := none }
    rfl rfl (by rw [hframe]; exact hlib) hrest hlength
  exact ⟨hset.trans hothers (by simpa using hp), hended, hempty⟩

/-! ### The entry in proof at a fault of SPOOL (R161) -/

theorem State.inProof_of_eq {s : State} {before after : List Entry} {e : Entry} (hqueue : s.queue = before ++ e :: after)
    (hbefore : ∀ x ∈ before, x.proof ≠ .inProof) (he : e.proof = .inProof) : s.inProof = some e := by
  unfold State.inProof
  rw [hqueue]
  exact find?_append_cons (fun x hx => by simp [hbefore x hx]) (by simp [he])

theorem State.proofDone_eq {s : State} {before after : List Entry} {e : Entry} (hqueue : s.queue = before ++ e :: after)
    (hbefore : ∀ x ∈ before, x.proof ≠ .inProof) (he : e.proof = .inProof) : s.proofDone = State.releaseDone { s with
      proof := { s.proof with records := [], written := 0 }
      queue := before ++ { e with proof := .proofed } :: after } := by
  unfold State.proofDone State.markProofed
  dsimp only
  rw [hqueue, modifyFirst_append (fun x hx => by simp [hbefore x hx]) (by simp [he])]

theorem stepUpTo_eq_min (top n : Nat) : stepUpTo top n = min top (n + 1) := by
  unfold stepUpTo
  split <;> omega

/-- What counting an entry as a gap can change (R160, R161). -/
theorem State.countGap_frame {s : State} {before after : List Entry} {e : Entry} (hqueue : s.queue = before ++ e :: after)
    (hbefore : ∀ x ∈ before, x.proof ≠ .inProof) (he : e.proof = .inProof) : s.countGap = { s with
      proof := { s.proof with records := [], written := 0, gap := min 65535 (s.proof.gap + 1) }
      queue := (before ++ { e with proof := .proofed } :: after).filter (fun x => !x.done)
      font.table := s.countGap.font.table
      composer.fontWait := s.countGap.composer.fontWait
      status.marks := s.countGap.status.marks } := by
  have hgap : s.countGap = State.proofDone (s.setGap (stepUpTo 65535 s.proof.gap)) := rfl
  obtain ⟨hframe, -⟩ := s.setGap_spoolFrame (stepUpTo 65535 s.proof.gap)
  rw [State.setGap_proof] at hframe
  generalize s.countGap = t at hgap
  rw [State.proofDone_eq (by rw [State.setGap_queue]; exact hqueue) hbefore he] at hgap
  generalize s.setGap (stepUpTo 65535 s.proof.gap) = u at hgap hframe
  have hreleased := State.releaseDone_frame { u with
    proof := { u.proof with records := [], written := 0 }, queue := before ++ { e with proof := .proofed } :: after }
  rw [← hgap] at hreleased
  rw [hreleased, hframe, stepUpTo_eq_min]

/-- Settles O30: the fault is logged, and then the owner of the requester does its part. -/
theorem bankFaultIsLogged : Obligations.BankFaultIsLogged := by
  refine ⟨?discard, fun s q hq => ⟨?library, ?attached, ?detached⟩, ?status⟩
  case discard =>
    intro s r q hq hc hr hkind
    refine State.bankFault_endsIn hq hc hr ?_
    have hframe := s.faulted_frame r q
    rcases hkind with rfl | rfl
    · show s.faulted .intake q = { s.faulted .intake q with proof.reading := s.proof.reading }
      generalize s.faulted .intake q = u at hframe
      rw [hframe]
    · rfl
  case library =>
    intro f hc hr hf hl hnodup
    obtain ⟨p, rest, hlist⟩ := List.exists_cons_of_ne_nil hl
    have hframe := s.faulted_frame .library q
    have hflag : (s.faulted .library q).flagSet .memoryError = true := State.flagSet_logFault _ _ _
    have howner : (s.faulted .library q).ownerFault .library q = (s.faulted .library q).refuseFetch p .memoryError := by
      generalize s.faulted .library q = u at hframe
      have hfetch : u.font.fetch = some f := by rw [hframe]; exact hf
      have hfetching : u.fetching = some (p, u.font.table[p].font) := State.fetching_of_cons (by rw [hframe]; exact hlist)
      unfold State.ownerFault
      rw [hfetch, hfetching]
    refine ⟨_, State.bankFault_endsIn hq hc hr howner, ?_⟩
    generalize s.faulted .library q = u at hframe hflag
    obtain ⟨hrefused, hended, hempty⟩ := State.refuseFetch_disabled (s := u) (by rw [hframe]; exact hlist) (hlist ▸ hnodup)
      (by rw [hframe]; rfl)
    generalize u.refuseFetch p .memoryError = t at hrefused hended hempty
    have hall := hrefused.frame
    rw [hframe, hended, hempty] at hall
    have htable := hrefused.table
    have hnone := hrefused.noWait
    rw [show u.font = s.font by rw [hframe]] at htable
    rw [show u.composer = s.composer by rw [hframe]] at hnone
    rw [hlist]
    refine ⟨?_, ?_, hrefused.flags _ hflag, hrefused.raised (by simp), htable, ?_, ?_, hnone, ?_, ?_, ?_, ?_, ?_, ?_⟩
    all_goals exact hall ▸ rfl
  case attached =>
    intro e hmem hc hr he hmode
    have hframe := s.faulted_frame .spool q
    have hflag : (s.faulted .spool q).flagSet .memoryError = true := State.flagSet_logFault _ _ _
    have howner : (s.faulted .spool q).ownerFault .spool q
        = { (s.faulted .spool q).writeFaulted q.offset with proof.written := 0 } := by
      generalize s.faulted .spool q = u at hframe
      have hin : State.inProof { u.writeFaulted q.offset with proof.written := 0 } = some e := by rw [hframe]; exact he
      unfold State.ownerFault State.spoolFault
      dsimp only
      rw [hin]
      exact if_neg (by simp [hmode])
    refine ⟨_, State.bankFault_endsIn hq hc hr howner, ?_⟩
    generalize s.faulted .spool q = u at hframe hflag
    refine ⟨?_, ?_, hflag, ?_, ?_, fun a ha => ?_⟩
    · rw [hframe]; rfl
    · rw [hframe]; rfl
    · rw [hframe]; rfl
    · rw [hframe]; rfl
    · rw [hframe]
      exact State.read_writeFaulted_other hmem ha
  case detached =>
    intro before after e hmem hc hr hqueue hbefore he hmode
    have hframe := s.faulted_frame .spool q
    have hflag : (s.faulted .spool q).flagSet .memoryError = true := State.flagSet_logFault _ _ _
    have howner : (s.faulted .spool q).ownerFault .spool q
        = State.countGap { (s.faulted .spool q).writeFaulted q.offset with proof.written := 0 } := by
      generalize s.faulted .spool q = u at hframe
      have hin : State.inProof { u.writeFaulted q.offset with proof.written := 0 } = some e :=
        State.inProof_of_eq (by rw [hframe]; exact hqueue) hbefore he
      unfold State.ownerFault State.spoolFault
      dsimp only
      rw [hin]
      exact if_pos hmode
    refine ⟨_, State.bankFault_endsIn hq hc hr howner, ?_⟩
    generalize s.faulted .spool q = u at hframe hflag
    have hcounted := State.countGap_frame (s := { u.writeFaulted q.offset with proof.written := 0 })
      (by rw [hframe]; exact hqueue) hbefore he
    generalize State.countGap { u.writeFaulted q.offset with proof.written := 0 } = t at hcounted
    rw [hframe] at hcounted
    refine ⟨?_, ?_, ?_, ?_, ?_, fun a ha => ?_, ?_⟩
    · rw [hcounted]; rfl
    · rw [hcounted]; rfl
    · rw [hcounted]; exact hflag
    · rw [hcounted]; rfl
    · rw [hcounted]
      exact List.filter_congr fun x _ => by rw [Bool.eq_iff_iff]; simp [Entry.done]
    · rw [hcounted]
      exact State.read_writeFaulted_other hmem ha
    · rw [hcounted]
      exact ⟨rfl, rfl, rfl, rfl, rfl, rfl⟩

  case status =>
    intro s q w rest hq hmem hc hr hpass
    have hframe := s.faulted_frame .status q
    have hflag : (s.faulted .status q).flagSet .memoryError = true := State.flagSet_logFault _ _ _
    have howner : (s.faulted .status q).ownerFault .status q
        = { State.mark ((s.faulted .status q).writeFaulted q.offset) postedOffsets with
          status.pass := some { words := rest } } := by
      generalize s.faulted .status q = u at hframe
      have hmarked : (State.mark (u.writeFaulted q.offset) postedOffsets).status.pass = some { words := w :: rest } := by
        rw [State.mark_frame, hframe]
        exact hpass
      unfold State.ownerFault State.markAll State.advancePass
      dsimp only
      rw [hmarked]
    refine ⟨_, State.bankFault_endsIn hq hc hr howner, ?_⟩
    generalize s.faulted .status q = u at hframe hflag
    have hposted (off : Nat) (h : off ∈ postedOffsets) :
        off ∈ (State.mark (u.writeFaulted q.offset) postedOffsets).status.marks := (State.mem_mark _ _ _).2 (.inl h)
    have hmark := State.mark_frame (u.writeFaulted q.offset) postedOffsets
    generalize State.mark (u.writeFaulted q.offset) postedOffsets = v at hposted hmark
    refine ⟨?_, ?_, ?_, hposted, rfl, fun a ha => ?_, ?_⟩
    · rw [hmark, hframe]; rfl
    · rw [hmark, hframe]; rfl
    · rw [hmark]; exact hflag
    · rw [hmark, hframe]
      exact State.read_writeFaulted_other hmem ha
    · rw [hmark, hframe]
      exact ⟨rfl, rfl, rfl, rfl, rfl, rfl, rfl⟩

end Sys2Proof.Machine
end

section
/-! PROOFS. The copy's next word: what it is, its consumption, and the words that need no Composer (R80 to R86, R90). -/

namespace Sys2Proof.Machine

/-! ### Consumption (R80, R90, R170) -/

theorem State.consume_eq (s : State) (w : Word) : s.consume w = State.mark { s with
    intake.run := s.intake.run.tail
    intake.fill := s.intake.fill - 1
    intake.consumeOffset := ringAfter s.intake.consumeOffset 1
    intake.job.sum :=
      if s.intake.job.inProgress ∧ s.endsSum w = false then s.intake.job.sum.rotateLeft 1 + w else s.intake.job.sum
    port.holdTimer := .idle } [18, 19, 20] := by
  have hsum : (if s.endsSum w then s else s.rollSum w) = { s with
      intake.job.sum :=
        if s.intake.job.inProgress ∧ s.endsSum w = false then s.intake.job.sum.rotateLeft 1 + w else s.intake.job.sum } := by
    unfold State.rollSum
    cases s.endsSum w <;> cases s.intake.job.inProgress <;> rfl
  unfold State.consume
  dsimp only
  rw [hsum]

/-- What consumption can change, whatever becomes of the ring. -/
theorem State.consumed_frame (s : State) (i : Intake) (l : List Nat) :
    State.mark { s with intake := i, port.holdTimer := .idle } l = { s with
      intake := i
      port.holdTimer := .idle
      status.marks := (State.mark { s with intake := i, port.holdTimer := .idle } l).status.marks } := rfl

theorem State.consume_frame (s : State) (w : Word) : s.consume w = { s with
    intake := (s.consume w).intake, port.holdTimer := .idle, status.marks := (s.consume w).status.marks } := by
  generalize ht : s.consume w = t
  rw [State.consume_eq] at ht
  have hframe := ht.symm.trans (State.consumed_frame s _ [18, 19, 20])
  have hintake := (congrArg State.intake hframe :)
  rw [hframe, ht]

theorem State.consume_intake (s : State) (w : Word) : ∃ (run : List Word) (fill off : Nat) (sum : Word),
    (s.consume w).intake = { s.intake with run := run, fill := fill, consumeOffset := off, job.sum := sum } :=
  ⟨_, _, _, _, (congrArg State.intake (State.consume_eq s w) :)⟩

section
variable (s : State) (w : Word)

theorem State.consume_mem : (s.consume w).mem = s.mem := by rw [State.consume_frame]
@[simp] theorem State.consume_composer : (s.consume w).composer = s.composer := by rw [State.consume_frame]
@[simp] theorem State.consume_hyph : (s.consume w).hyph = s.hyph := by rw [State.consume_frame]
@[simp] theorem State.consume_font : (s.consume w).font = s.font := by rw [State.consume_frame]
@[simp] theorem State.consume_queue : (s.consume w).queue = s.queue := by rw [State.consume_frame]
@[simp] theorem State.consume_exposure : (s.consume w).exposure = s.exposure := by rw [State.consume_frame]
@[simp] theorem State.consume_waitingReport : (s.consume w).waitingReport = s.waitingReport := by rw [State.consume_frame]
theorem State.consume_seq : (s.consume w).seq = s.seq := by rw [State.consume_frame]
@[simp] theorem State.consume_panel : (s.consume w).panel = s.panel := by rw [State.consume_frame]
@[simp] theorem State.consume_proof : (s.consume w).proof = s.proof := by rw [State.consume_frame]
@[simp] theorem State.consume_textRun : (s.consume w).intake.textRun = s.intake.textRun := by
  obtain ⟨_, _, _, _, h⟩ := State.consume_intake s w
  rw [h]
@[simp] theorem State.consume_decoder : (s.consume w).intake.decoder = s.intake.decoder := by
  obtain ⟨_, _, _, _, h⟩ := State.consume_intake s w
  rw [h]
@[simp] theorem State.consume_inProgress : (s.consume w).intake.job.inProgress = s.intake.job.inProgress := by
  obtain ⟨_, _, _, _, h⟩ := State.consume_intake s w
  rw [h]

@[simp] theorem State.decoded_composer : (s.decoded w).composer = s.composer := State.consume_composer s w
@[simp] theorem State.decoded_hyph : (s.decoded w).hyph = s.hyph := State.consume_hyph s w
@[simp] theorem State.decoded_font : (s.decoded w).font = s.font := State.consume_font s w
@[simp] theorem State.decoded_queue : (s.decoded w).queue = s.queue := State.consume_queue s w
@[simp] theorem State.decoded_panel : (s.decoded w).panel = s.panel := State.consume_panel s w
@[simp] theorem State.decoded_proof : (s.decoded w).proof = s.proof := State.consume_proof s w
theorem State.decoded_seq : (s.decoded w).seq = s.seq := State.consume_seq s w
theorem State.decoded_mem : (s.decoded w).mem = s.mem := State.consume_mem s w
@[simp] theorem State.decoded_exposure : (s.decoded w).exposure = s.exposure := State.consume_exposure s w
@[simp] theorem State.decoded_waitingReport : (s.decoded w).waitingReport = s.waitingReport := State.consume_waitingReport s w
end

theorem State.decoded_eq (s : State) (w : Word) :
    s.decoded w = { s.consume w with intake.decoder := none, intake.textRun := false } := rfl

section
variable (t : State)

theorem State.undecoded_job :
    ({ t with intake.decoder := none, intake.textRun := false } : State).intake.job = t.intake.job := rfl

theorem State.undecoded_inner :
    ({ t with intake.decoder := none, intake.textRun := false } : State).inner = t.inner := rfl

end

@[simp] theorem State.decoded_inProgress (s : State) (w : Word) :
    (s.decoded w).intake.job.inProgress = s.intake.job.inProgress := by
  rw [State.decoded_eq, State.undecoded_job, State.consume_inProgress]

@[simp] theorem State.decoded_inner (s : State) (w : Word) : (s.decoded w).inner = s.inner := by
  rw [State.decoded_eq, State.undecoded_inner, State.consume_inner]

/-! ### The word at the head of the run -/

theorem run_of_head {s : State} {w : Word} (h : s.intake.run.head? = some w) : ∃ rest, s.intake.run = w :: rest := by
  cases hrun : s.intake.run with
  | nil => simp [hrun] at h
  | cons a l => exact ⟨l, by simpa [hrun] using h⟩

theorem nextRow_of_wordNext {s : State} {w : Word} (h : WordNext s w) : s.nextRow = some (classify w) := by
  obtain ⟨-, hconsumes, hdecoder, hhead⟩ := h
  obtain ⟨rest, hrun⟩ := run_of_head hhead
  simp [State.nextRow, hconsumes, hrun, hdecoder]

/-- The word at the head of the run is consumed as what it is, and `f` does what it brings. -/
theorem State.row_endsIn {s u : State} {w : Word} {r : CopyRow} {f : State → Word → Nat → State} (hq : Quiet s)
    (hrow : s.nextRow = some r) (hhead : s.intake.run.head? = some w)
    (hinner : ∀ t, (f t w s.intake.consumeOffset).inner = t.inner)
    (hu : f (s.consume w) w s.intake.consumeOffset = u) : EndsIn (s.answer (s.onWord r f)) u := by
  refine State.answer_endsIn ?_ (quiet_of_inner ((hu ▸ hinner _).trans (s.consume_inner w)) hq)
  rw [State.onWord, State.headAs, if_pos hrow, hhead, ← hu]
  rfl

/-- A word in command position is consumed, and `f` does what it brings. -/
theorem State.word_endsIn {s u : State} {w : Word} {r : CopyRow} {f : State → Word → Nat → State} (h : WordNext s w)
    (hr : classify w = r) (hinner : ∀ t, (f t w s.intake.consumeOffset).inner = t.inner)
    (hu : f (s.consume w) w s.intake.consumeOffset = u) : EndsIn (s.answer (s.onWord r f)) u :=
  State.row_endsIn h.1 (hr ▸ nextRow_of_wordNext h) h.2.2.2 hinner hu

theorem State.endTextRun_undecoded (t : State) : ({ t with intake.decoder := none } : State).endTextRun
    = { t with intake.decoder := none, intake.textRun := false } := rfl

/-- A command takes effect with its last word, which is consumed, and `f` carries it out. -/
theorem State.command_endsIn {s u : State} {w : Word} {c : Cmd} {f : State → Command → State} (h : CommandNext s c w)
    (hinner : ∀ t d, (f t d).inner = t.inner) (hu : f (s.decoded w) (s.completedBy w) = u) :
    EndsIn (s.answer (s.onCommand c f)) u := by
  obtain ⟨hq, hrow, hhead⟩ := h
  refine State.answer_endsIn ?_ (quiet_of_inner ((hu ▸ hinner _ _).trans (s.decoded_inner w)) hq)
  rw [State.onCommand, State.headAs, if_pos hrow, hhead, ← hu, Option.map_some,
    State.endTextRun_undecoded]
  rfl

theorem consumes_of_commandNext {s : State} {c : Cmd} {w : Word} (h : CommandNext s c w) :
    s.composer.state.consumes = true := by
  obtain ⟨-, hrow, -⟩ := h
  unfold State.nextRow at hrow
  split at hrow
  next hconsumes => exact hconsumes
  next => cases hrow

/-! ### What a word in command position is (R84, R85) -/

theorem classify_character {w : Word} (h : 0x21 ≤ w.toNat) (h' : w.toNat ≤ 0x7E) : classify w = .character := by
  unfold classify
  dsimp only
  rw [if_neg (by omega), if_neg (by omega), if_neg (by omega), if_neg (by omega), if_pos (by simp [h, h'])]

theorem classify_invalidCode {w : Word} (h : 1 ≤ w.toNat ∧ w.toNat ≤ 0x1D ∨ 0x7F ≤ w.toNat ∧ w.toNat ≤ 0x7FFF) :
    classify w = .invalidCode := by
  have hcharacter : ¬ ((decide (0x21 ≤ w.toNat) && decide (w.toNat ≤ 0x7E)) = true) := by simp; omega
  unfold classify
  dsimp only
  rw [if_neg (by omega), if_neg (by omega), if_neg (by omega), if_neg (by omega), if_neg hcharacter, if_pos (by omega)]

/-- What a command word is, by the command its number names, if any, and by its inline byte (R85). -/
def commandRow (inline : Nat) : Option Cmd → CopyRow
  | none => .unknownCommand
  | some c => if c.operandCount inline = 0 then .effect c else .commandWord c

/-- A word with bit 15 set is a command word (11.1). -/
theorem classify_command {w : Word} (h : 0x8000 ≤ w.toNat) :
    classify w = commandRow (inlineByte w) (Cmd.ofNumber (commandNumber w)) := by
  have hcharacter : ¬ ((decide (0x21 ≤ w.toNat) && decide (w.toNat ≤ 0x7E)) = true) := by simp; omega
  unfold classify
  dsimp only
  rw [if_neg (by omega), if_neg (by omega), if_neg (by omega), if_neg (by omega), if_neg hcharacter, if_neg (by omega)]
  cases Cmd.ofNumber (commandNumber w) <;> rfl

theorem classify_unknown {w : Word} (h : 0x8000 ≤ w.toNat) (hc : Cmd.ofNumber (commandNumber w) = none) :
    classify w = .unknownCommand := by
  rw [classify_command h, hc]
  rfl

theorem classify_known {w : Word} {c : Cmd} (h : 0x8000 ≤ w.toNat) (hc : Cmd.ofNumber (commandNumber w) = some c) :
    classify w = if c.operandCount (inlineByte w) = 0 then .effect c else .commandWord c := by
  rw [classify_command h, hc]
  rfl

/-- Numbers 1..20 name the commands, and no other (11.1). -/
theorem Cmd.ofNumber_eq_none_iff (n : Nat) : Cmd.ofNumber n = none ↔ n = 0 ∨ 21 ≤ n := by
  unfold Cmd.ofNumber
  split <;> simp
  simp only [imp_false] at *
  omega

/-! ### The copy error record (R101) -/

theorem State.mem_raise_marks {s : State} {o : Nat} (h : o ∈ s.status.marks) (f : EventFlag) :
    o ∈ (s.raise f).status.marks := by
  unfold State.raise
  split
  · exact h
  · exact (State.mem_mark _ _ _).2 (.inr h)

theorem State.copyError_record (s : State) (k : CopyError) (off : Nat) :
    (s.copyError k off).intake = { s.intake with errKind := some k, errOffset := off }
      ∧ (s.copyError k off).flagSet .copyError = true ∧ 21 ∈ (s.copyError k off).status.marks
      ∧ 22 ∈ (s.copyError k off).status.marks := by
  have hmarked {o : Nat} (h : o ∈ [21, 22]) : o ∈ (s.copyError k off).status.marks :=
    State.mem_raise_marks ((State.mem_mark _ _ _).2 (.inl h)) _
  exact ⟨State.raise_intake _ _, State.flagSet_raise_same _ _, hmarked (by simp), hmarked (by simp)⟩

/-- Settles O31: `consume` written out. -/
theorem fillerIsConsumed : Obligations.FillerIsConsumed :=
  ⟨fun _ h => State.word_endsIn (r := .filler) h rfl (fun _ => rfl) rfl, State.consume_eq⟩

/-! ### Text words, and the two kinds of commands (R86) -/

/-- The text words' meanings give what is inside a job to a function of their own. -/
theorem exec_textWord {w : Word} {c : Instr}
    (h : (w, c) ∈ [(0x1E#16, Instr.discretionaryHyphen), (0x1F#16, .tie), (0x20#16, .interwordSpace)]
      ∨ (0x21 ≤ w.toNat ∧ w.toNat ≤ 0x7E ∧ c = .character)) :
    ∃ (r : CopyRow) (f : Word → Nat → State → State), classify w = r ∧ (∀ w off t, (f w off t).inner = t.inner)
      ∧ ∀ s, exec c s = s.answer (s.onWord r (fun t w off => t.textWord off (f w off))) := by
  rcases h with h | ⟨hlow, hhigh, rfl⟩
  · simp only [List.mem_cons, Prod.mk.injEq, List.not_mem_nil, or_false] at h
    rcases h with ⟨rfl, rfl⟩ | ⟨rfl, rfl⟩ | ⟨rfl, rfl⟩
    · exact ⟨.discretionaryHyphen, fun _ _ u => u.recordPoint, by decide, fun _ _ => by simp, fun _ => rfl⟩
    · exact ⟨.tie, fun _ off u => u.work [.token (.tie off)], by decide, fun _ _ => by simp, fun _ => rfl⟩
    · exact ⟨.space, fun _ _ u => u.work [.token .space], by decide, fun _ _ => by simp, fun _ => rfl⟩
  · exact ⟨.character, fun w off u => u.work [.token (.char w.toNat off)], classify_character hlow hhigh,
      fun _ _ => by simp, fun _ => rfl⟩

/-- The job commands, with their meanings (R86). -/
def jobCommands : List (Cmd × Instr) :=
  [(.endjob, .endjob), (.measure, .measure), (.lead, .lead), (.font, .font), (.size, .size), (.quad, .quad),
    (.fixspace, .fixspace)]

/-- The standing commands, with their meanings (R86). -/
def standingCommands : List (Cmd × Instr) :=
  [(.hyph, .hyph), (.exceptWord, .exceptWord), (.unexcept, .unexcept), (.lenses, .lenses), (.mount, .mount),
    (.release, .release), (.advance, .advance), (.reverse, .reverse), (.cut, .cut), (.proofMode, .proofMode),
    (.display, .display), (.mark, .mark)]

theorem exec_jobCommand : ∀ x ∈ jobCommands, ∃ f : Command → State → State, (∀ d t, (f d t).inner = t.inner)
    ∧ ∀ s, exec x.2 s = s.answer (s.onCommand x.1 (fun t d => t.jobCommand d (f d))) := by
  simp only [jobCommands, List.forall_mem_cons, List.not_mem_nil, false_implies, implies_true, and_true]
  exact ⟨⟨fun d t => t.endjobEffect d, fun _ _ => by simp, fun _ => rfl⟩, ⟨fun d t => t.measureEffect d, fun _ _ => by simp, fun _ => rfl⟩,
    ⟨fun d t => t.leadEffect d, fun _ _ => by simp, fun _ => rfl⟩, ⟨fun d t => t.fontEffect d, fun _ _ => by simp, fun _ => rfl⟩,
    ⟨fun d t => t.sizeEffect d, fun _ _ => by simp, fun _ => rfl⟩, ⟨fun d t => t.quadEffect d, fun _ _ => by simp, fun _ => rfl⟩,
    ⟨fun d t => t.fixspaceEffect d, fun _ _ => by simp, fun _ => rfl⟩⟩

theorem exec_standingCommand : ∀ x ∈ standingCommands, ∃ f : Command → State → State, (∀ d t, (f d t).inner = t.inner)
    ∧ ∀ s, exec x.2 s = s.answer (s.onCommand x.1 (fun t d => t.standingCommand (f d))) := by
  simp only [standingCommands, List.forall_mem_cons, List.not_mem_nil, false_implies, implies_true, and_true]
  exact ⟨⟨fun d t => t.hyphEffect d, fun _ _ => by simp, fun _ => rfl⟩, ⟨fun d t => t.exceptEffect d, fun _ _ => by simp, fun _ => rfl⟩,
    ⟨fun d t => t.unexceptEffect d, fun _ _ => by simp, fun _ => rfl⟩, ⟨fun d t => t.lensesEffect d, fun _ _ => by simp, fun _ => rfl⟩,
    ⟨fun d t => t.mountEffect d, fun _ _ => by simp, fun _ => rfl⟩, ⟨fun d t => t.releaseEffect d, fun _ _ => by simp, fun _ => rfl⟩,
    ⟨fun d t => t.moveEffect d 1, fun _ _ => by simp, fun _ => rfl⟩, ⟨fun d t => t.moveEffect d (-1), fun _ _ => by simp, fun _ => rfl⟩,
    ⟨fun _ t => t.cutEffect, fun _ _ => by simp, fun _ => rfl⟩, ⟨fun d t => t.proofEffect d, fun _ _ => by simp, fun _ => rfl⟩,
    ⟨fun d t => t.displayEffect d, fun _ _ => by simp, fun _ => rfl⟩, ⟨fun d t => t.markEffect d, fun _ _ => by simp, fun _ => rfl⟩⟩

section
variable {s : State} (f : State → State)

theorem State.textWord_outside (h : s.composer.state = .outsideJob) (off : Nat) : s.textWord off f =
    if s.intake.textRun then s else State.copyError { s with intake.textRun := true } .outsideJob off := by
  unfold State.textWord
  rw [h]

theorem State.textWord_discarding (h : s.composer.state = .discarding) (off : Nat) : s.textWord off f = s := by
  unfold State.textWord
  rw [h]

/-- In SETTING and in LOOKAHEAD text is set. -/
theorem State.textWord_inside (h : s.composer.state = .setting ∨ s.composer.state = .lookahead) (off : Nat) :
    s.textWord off f = f s := by
  unfold State.textWord
  rcases h with h | h <;> rw [h]

theorem State.jobCommand_outside (h : s.composer.state = .outsideJob) (d : Command) :
    s.jobCommand d f = s.copyError .outsideJob d.offset := by
  unfold State.jobCommand
  rw [h]

theorem State.jobCommand_discarding (h : s.composer.state = .discarding) (d : Command) : s.jobCommand d f = s := by
  unfold State.jobCommand
  rw [h]

theorem State.jobCommand_inside (h : s.composer.state = .setting ∨ s.composer.state = .lookahead) (d : Command) :
    s.jobCommand d f = f s := by
  unfold State.jobCommand
  rcases h with h | h <;> rw [h]

end

section
variable {s u : State} {w : Word}

theorem State.text_endsIn {r : CopyRow} {f : Word → Nat → State → State} (h : WordNext s w) (hr : classify w = r)
    (hinner : ∀ t, (f w s.intake.consumeOffset t).inner = t.inner)
    (hu : (s.consume w).textWord s.intake.consumeOffset (f w s.intake.consumeOffset) = u) :
    EndsIn (s.answer (s.onWord r (fun t w off => t.textWord off (f w off)))) u :=
  State.word_endsIn (f := fun t w off => t.textWord off (f w off)) h hr (fun t => t.textWord_inner _ _ hinner) hu

/-- A text word in SETTING or in LOOKAHEAD. -/
theorem State.textInside_endsIn {r : CopyRow} {f : Word → Nat → State → State} (h : WordNext s w) (hr : classify w = r)
    (hstate : s.composer.state = .setting ∨ s.composer.state = .lookahead)
    (hinner : ∀ t, (f w s.intake.consumeOffset t).inner = t.inner)
    (hu : f w s.intake.consumeOffset (s.consume w) = u) :
    EndsIn (s.answer (s.onWord r (fun t w off => t.textWord off (f w off)))) u :=
  State.text_endsIn h hr hinner
    ((State.textWord_inside _ (by rw [State.consume_composer]; exact hstate) _).trans hu)

theorem State.jobCommand_endsIn {c : Cmd} {f : Command → State → State} (h : CommandNext s c w)
    (hinner : ∀ d t, (f d t).inner = t.inner)
    (hu : (s.decoded w).jobCommand (s.completedBy w) (f (s.completedBy w)) = u) :
    EndsIn (s.answer (s.onCommand c (fun t d => t.jobCommand d (f d)))) u :=
  State.command_endsIn (f := fun t d => t.jobCommand d (f d)) h (fun t d => t.jobCommand_inner d _ (hinner d)) hu

/-- A job command in SETTING or in LOOKAHEAD. -/
theorem State.jobInside_endsIn {c : Cmd} {f : Command → State → State} (h : CommandNext s c w)
    (hstate : s.composer.state = .setting ∨ s.composer.state = .lookahead)
    (hinner : ∀ d t, (f d t).inner = t.inner) (hu : f (s.completedBy w) (s.decoded w) = u) :
    EndsIn (s.answer (s.onCommand c (fun t d => t.jobCommand d (f d)))) u :=
  State.jobCommand_endsIn h hinner
    ((State.jobCommand_inside _ (by rw [State.decoded_composer]; exact hstate) _).trans hu)

/-- A standing command but in DISCARDING. -/
theorem State.standing_endsIn {c : Cmd} {f : Command → State → State} (h : CommandNext s c w)
    (hstate : s.composer.state ≠ .discarding)
    (hinner : ∀ d t, (f d t).inner = t.inner) (hu : f (s.completedBy w) (s.decoded w) = u) :
    EndsIn (s.answer (s.onCommand c (fun t d => t.standingCommand (f d)))) u :=
  State.command_endsIn (f := fun t d => t.standingCommand (f d)) h (fun t d => t.standingCommand_inner _ (hinner d))
    ((if_neg (by rw [State.decoded_composer]; exact hstate)).trans hu)

end

/-- Settles O32: text words, job commands and standing commands by the Composer's state. -/
theorem copyOutsideAJob : Obligations.CopyOutsideAJob := by
  refine ⟨?text, ?job, ?standing⟩
  case text =>
    intro s w c hnext hword
    obtain ⟨r, f, hr, hinner, hexec⟩ := exec_textWord hword
    have hends {u : State} := State.text_endsIn (u := u) hnext hr (hinner w s.intake.consumeOffset)
    refine ⟨fun hout => ?_, fun hdiscarding => ?_⟩
    · rw [hexec]
      refine hends ((State.textWord_outside _ ?_ _).trans ?_)
      · rw [State.consume_composer]; exact hout
      · rw [State.consume_textRun]
    · rw [hexec]
      refine hends (State.textWord_discarding _ ?_ _)
      rw [State.consume_composer]; exact hdiscarding
  case job =>
    intro s w x hx hnext
    obtain ⟨f, hinner, hexec⟩ := exec_jobCommand x hx
    have hends {u : State} := State.jobCommand_endsIn (u := u) hnext hinner
    refine ⟨fun hout => ?_, fun hdiscarding => ?_⟩
    · rw [hexec]
      exact hends (State.jobCommand_outside _ (by rw [State.decoded_composer]; exact hout) _)
    · rw [hexec]
      exact hends (State.jobCommand_discarding _ (by rw [State.decoded_composer]; exact hdiscarding) _)
  case standing =>
    intro s w x hx hnext hdiscarding
    obtain ⟨f, hinner, hexec⟩ := exec_standingCommand x hx
    rw [hexec]
    exact State.command_endsIn hnext (fun t d => t.standingCommand_inner _ (hinner d))
      (if_pos (by rw [State.decoded_composer]; exact hdiscarding))

/-- Settles O33: the ranges of the two kinds of bad words, and the record they write. -/
theorem badWordsRaiseCopyErrors : Obligations.BadWordsRaiseCopyErrors := by
  refine ⟨?invalid, ?unknown, fun s k off => ?record⟩
  case invalid =>
    intro s w hnext hrange
    refine State.word_endsIn hnext (classify_invalidCode hrange) (fun t => by simp) ?_
    rw [State.copyErrorUnlessDiscarding, State.consume_composer]
  case unknown =>
    intro s w hnext hlow hnumber
    have hnone : Cmd.ofNumber (commandNumber w) = none := by
      rw [Cmd.ofNumber_eq_none_iff, commandNumber, wordField]
      have := w.isLt
      omega
    refine State.word_endsIn hnext (classify_unknown hlow hnone) (fun t => by simp) ?_
    rw [State.copyErrorUnlessDiscarding, show (s.consume w).endTextRun.composer = s.composer from State.consume_composer s w]
    rfl
  case record =>
    obtain ⟨hintake, hflag, h21, h22⟩ := s.copyError_record k off
    exact ⟨hintake, hflag, h21, h22, by simp, by simp, by simp, by simp⟩

/-! ### The commands of 11.1 (R85) -/

/-- The command numbers, with the operand words each command expects by its inline byte. -/
def commandTable : List (Nat × Cmd × (Nat → Nat)) :=
  [(1, .job, fun _ => 1), (2, .endjob, fun _ => 1), (3, .measure, fun _ => 1), (4, .lead, fun _ => 1),
    (5, .font, fun _ => 1), (6, .size, fun _ => 0), (7, .quad, fun _ => 0), (8, .fixspace, fun _ => 0),
    (9, .hyph, fun _ => 1), (10, .exceptWord, fun c => (c + 1) / 2 + 1), (11, .unexcept, fun c => (c + 1) / 2),
    (12, .lenses, fun _ => 4), (13, .mount, fun _ => 1), (14, .release, fun _ => 0), (15, .advance, fun _ => 1),
    (16, .reverse, fun _ => 1), (17, .cut, fun _ => 0), (18, .proofMode, fun _ => 0),
    (19, .display, fun c => (c + 1) / 2), (20, .mark, fun _ => 1)]

theorem commandTable_names : ∀ x ∈ commandTable, Cmd.ofNumber x.1 = some x.2.1 ∧ x.1 < 128 := by
  simp [commandTable, Cmd.ofNumber]

theorem commandTable_operands : ∀ x ∈ commandTable, ∀ c, x.2.1.operandCount c = x.2.2 c := by
  simp [commandTable, Cmd.operandCount, wordsFor]

theorem ofNumber_of_not_mem {n : Nat} (h : ∀ x ∈ commandTable, x.1 ≠ n) : Cmd.ofNumber n = none := by
  rw [Cmd.ofNumber_eq_none_iff]
  simp only [commandTable, List.forall_mem_cons] at h
  omega

/-- A command word is `0x8000`, its number in the high byte, and its inline byte (11.1). -/
theorem commandWord_fields {w : Word} {n inline : Nat} (hn : n < 128) (hinline : inline < 256)
    (h : w.toNat = 0x8000 + 256 * n + inline) : commandNumber w = n ∧ inlineByte w = inline := by
  simp only [commandNumber, wordField, inlineByte, loByte]
  omega

/-- The command in progress takes an operand (R85). -/
theorem Command.take_eq (d : Command) (w : Word) : d.take w = { d with
    operands := d.operands ++ [w]
    remaining := d.remaining - 1 +
      if d.cmd = .exceptWord ∧ d.operands.length = (d.word.toNat % 256 + 1) / 2 then (w.toNat % 32 + 1) / 2 else 0 } := by
  have hcount : (d.cmd == .exceptWord && d.operands.length == wordsFor (inlineByte d.word)) = true
      ↔ d.cmd = .exceptWord ∧ d.operands.length = (d.word.toNat % 256 + 1) / 2 := by
    simp [wordsFor, inlineByte, loByte]
  unfold Command.take
  dsimp only
  rw [if_congr hcount rfl rfl]
  simp [wordsFor, positionCount, wordField]

section
variable {s : State} {w : Word} {inline : Nat} {x : Nat × Cmd × (Nat → Nat)}

/-- A command word in command position, by its operand count. -/
theorem classify_commandWord (hx : x ∈ commandTable) (hinline : inline < 256)
    (hw : w.toNat = 0x8000 + 256 * x.1 + inline) :
    classify w = if x.2.2 inline = 0 then .effect x.2.1 else .commandWord x.2.1 := by
  obtain ⟨hname, hlt⟩ := commandTable_names x hx
  obtain ⟨hnumber, hbyte⟩ := commandWord_fields hlt hinline hw
  rw [classify_known (by omega) (hnumber ▸ hname), hbyte, commandTable_operands x hx]

theorem exec_commandWord {s : State} {c : Cmd} (hrow : s.nextRow = some (.commandWord c)) :
    exec .commandWord s = s.answer (s.onCommandWord c) := by
  show execCommandWord s = _
  unfold execCommandWord
  split
  next c' hc =>
    obtain rfl : c = c' := by simpa using hrow.symm.trans hc
    rfl
  next hother => exact absurd hrow (hother _)

theorem State.beginCommand_eq {t : State} {c : Cmd} {w : Word} {n : Nat} (hn : c.operandCount (inlineByte w) = n) (off : Nat) :
    t.beginCommand c w off = { t with
      intake.textRun := false
      intake.decoder := some { cmd := c, word := w, offset := off, operands := [], remaining := n, dropped := false } } := by
  subst hn
  rfl

theorem State.commandWord_endsIn (hx : x ∈ commandTable) (hnext : WordNext s w) (hinline : inline < 256)
    (hw : w.toNat = 0x8000 + 256 * x.1 + inline) (hsome : x.2.2 inline ≠ 0) : EndsIn (exec .commandWord s)
      { s.consume w with
        intake.textRun := false
        intake.decoder := some { cmd := x.2.1, word := w, offset := s.intake.consumeOffset, operands := [],
                                 remaining := x.2.2 inline, dropped := false } } := by
  have hword : classify w = .commandWord x.2.1 := (classify_commandWord hx hinline hw).trans (if_neg hsome)
  rw [exec_commandWord (hword ▸ nextRow_of_wordNext hnext)]
  refine State.word_endsIn (f := fun t w off => t.beginCommand x.2.1 w off) hnext hword
    (fun t => t.beginCommand_inner _ _ _) (State.beginCommand_eq ?_ _)
  rw [(commandWord_fields (commandTable_names x hx).2 hinline hw).2, commandTable_operands x hx]

theorem State.completedBy_commandWord (hx : x ∈ commandTable) (hnext : WordNext s w) (hinline : inline < 256)
    (hw : w.toNat = 0x8000 + 256 * x.1 + inline) : s.completedBy w =
      { cmd := x.2.1, word := w, offset := s.intake.consumeOffset, operands := [], remaining := 0, dropped := false } := by
  obtain ⟨hname, hlt⟩ := commandTable_names x hx
  obtain ⟨hnumber, -⟩ := commandWord_fields hlt hinline hw
  unfold State.completedBy
  rw [hnext.2.2.1, hnumber, hname]
  rfl

end

theorem State.operandWord_endsIn {s : State} {w : Word} {d : Command} (hq : Quiet s)
    (hconsumes : s.composer.state.consumes = true) (hhead : s.intake.run.head? = some w)
    (hdecoder : s.intake.decoder = some d) (hmore : (d.take w).remaining ≠ 0) :
    EndsIn (exec .operandWord s) { s.consume w with intake.decoder := some (d.take w) } := by
  obtain ⟨rest, hrun⟩ := run_of_head hhead
  have hrow : s.nextRow = some .operand := by simp [State.nextRow, hconsumes, hrun, hdecoder, hmore]
  refine State.row_endsIn (f := fun t w _ => t.takeOperand w) hq hrow hhead (fun t => t.takeOperand_inner w) ?_
  have hkept := s.consume_decoder w
  generalize s.consume w = t at hkept
  unfold State.takeOperand
  rw [hkept, hdecoder]
  rfl

/-- Settles O34: the table, a command word, and an operand. -/
theorem commandWordsAndOperands : Obligations.CommandWordsAndOperands := by
  unfold Obligations.CommandWordsAndOperands
  intro pairs commands
  have hcommands : commands = commandTable := rfl
  rw [hcommands]
  refine ⟨fun n _ => ⟨fun x hx hn => ?named, ofNumber_of_not_mem⟩, ?word, ?operand⟩
  case named =>
    rw [← hn]
    exact (commandTable_names x hx).1
  case word =>
    intro s w inline x hx hnext hinline hw
    refine ⟨State.commandWord_endsIn hx hnext hinline hw, fun hnone => ?_⟩
    have hword : classify w = .effect x.2.1 := (classify_commandWord hx hinline hw).trans (if_pos hnone)
    refine ⟨⟨hnext.1, hword ▸ nextRow_of_wordNext hnext, hnext.2.2.2⟩, ?_⟩
    rw [State.completedBy_commandWord hx hnext hinline hw]
    exact ⟨rfl, (commandWord_fields (commandTable_names x hx).2 hinline hw).2, rfl, rfl⟩
  case operand =>
    intro s w d hq hconsumes hhead hdecoder more hmore
    have hends := State.operandWord_endsIn hq hconsumes hhead hdecoder (by rw [d.take_eq w]; exact hmore)
    rw [d.take_eq w] at hends
    exact hends

end Sys2Proof.Machine
end

section
/-! PROOFS. The commands that set values: MEASURE, LEAD, SIZE, and the Hyphenator's (R43 to R46, R73, R91, R92, R102). -/

namespace Sys2Proof.Machine

/-! ### Positions found (R51, R52, R73) -/

theorem findPosition_eq_some {f : Fin 8 → Bool} {p : Fin 8} :
    findPosition f = some p ↔ f p = true ∧ ∀ q : Fin 8, q < p → f q = false := by
  rw [findPosition, List.find?_eq_some_iff_getElem]
  refine and_congr_right fun _ => ⟨?_, fun h => ?_⟩
  · rintro ⟨i, hi, rfl, hbefore⟩ q hq
    have hlt : q.val < i := by simpa [Fin.lt_def] using hq
    simpa using hbefore q.val hlt
  · exact ⟨p.val, by simp, by simp, fun j hj => by simpa using h ⟨j, by omega⟩ hj⟩

theorem findPosition_eq_none {f : Fin 8 → Bool} : findPosition f = none ↔ ∀ q : Fin 8, f q = false := by
  simp [findPosition]

theorem findPosition_of_exists {f : Fin 8 → Bool} (h : ∃ p, f p = true) : ∃ p, findPosition f = some p := by
  obtain ⟨p, hp⟩ := h
  cases hf : findPosition f with
  | none => rw [findPosition_eq_none.1 hf p] at hp; cases hp
  | some q => exact ⟨q, rfl⟩

/-! ### The lens that serves a size (R73) -/

theorem foldl_max_spec (l : List Nat) (a : Nat) :
    (∀ x ∈ l, x ≤ l.foldl max a) ∧ (l.foldl max a = a ∨ l.foldl max a ∈ l) ∧ a ≤ l.foldl max a := by
  induction l generalizing a with
  | nil => simp
  | cons b l ih =>
    obtain ⟨hall, hmem, hstart⟩ := ih (max a b)
    simp only [List.foldl_cons, List.mem_cons, forall_eq_or_imp]
    refine ⟨⟨by omega, hall⟩, ?_, by omega⟩
    rcases hmem with h | h
    · rcases le_total a b with hab | hab
      · exact .inr (.inl (h.trans (max_eq_right hab)))
      · exact .inl (h.trans (max_eq_left hab))
    · exact .inr (.inr h)

theorem foldl_min_spec (l : List Nat) (a : Nat) :
    (∀ x ∈ l, l.foldl min a ≤ x) ∧ (l.foldl min a = a ∨ l.foldl min a ∈ l) ∧ l.foldl min a ≤ a := by
  induction l generalizing a with
  | nil => simp
  | cons b l ih =>
    obtain ⟨hall, hmem, hstart⟩ := ih (min a b)
    simp only [List.foldl_cons, List.mem_cons, forall_eq_or_imp]
    refine ⟨⟨by omega, hall⟩, ?_, by omega⟩
    rcases hmem with h | h
    · rcases le_total a b with hab | hab
      · exact .inl (h.trans (min_eq_left hab))
      · exact .inr (.inl (h.trans (min_eq_right hab)))
    · exact .inr (.inr h)

/-- The size set for one that no lens has (R73). -/
def substituteSize (lenses : Vector Nat 8) (asked : Nat) : Nat :=
  let below := lenses.toList.filter (· < asked)
  if below.isEmpty then lenses.toList.foldl min (lenses[0]) else below.foldl max 0

theorem mem_toList_lenses (lenses : Vector Nat 8) (n : Nat) : n ∈ lenses.toList ↔ ∃ i : Fin 8, lenses[i] = n := by
  rw [Vector.mem_toList_iff, Vector.mem_iff_getElem]
  exact ⟨fun ⟨i, hi, h⟩ => ⟨⟨i, hi⟩, h⟩, fun ⟨i, h⟩ => ⟨i.val, i.isLt, h⟩⟩

/-- It is the greatest size below the one asked, else the least of all. -/
theorem substituteSize_spec (lenses : Vector Nat 8) (asked : Nat) :
    (∃ i : Fin 8, lenses[i] = substituteSize lenses asked)
      ∧ ((∃ j : Fin 8, lenses[j] < asked) →
        substituteSize lenses asked < asked ∧ ∀ j : Fin 8, lenses[j] < asked → lenses[j] ≤ substituteSize lenses asked)
      ∧ ((∀ j : Fin 8, ¬ lenses[j] < asked) → ∀ j : Fin 8, substituteSize lenses asked ≤ lenses[j]) := by
  unfold substituteSize
  simp only [List.isEmpty_iff]
  have hbelow (n : Nat) : n ∈ lenses.toList.filter (· < asked) ↔ (∃ j : Fin 8, lenses[j] = n) ∧ n < asked := by
    rw [List.mem_filter, mem_toList_lenses, decide_eq_true_iff]
  split
  next hempty =>
    obtain ⟨hall, hmem, -⟩ := foldl_min_spec lenses.toList lenses[0]
    have hnone (j : Fin 8) : ¬ lenses[j] < asked := fun hj =>
      List.not_mem_nil (hempty ▸ (hbelow _).2 ⟨⟨j, rfl⟩, hj⟩)
    refine ⟨?_, fun ⟨j, hj⟩ => absurd hj (hnone j), fun _ j => hall _ ((mem_toList_lenses _ _).2 ⟨j, rfl⟩)⟩
    rcases hmem with h | h
    · exact ⟨0, h.symm⟩
    · exact (mem_toList_lenses _ _).1 h
  next hsome =>
    obtain ⟨hall, hmem, -⟩ := foldl_max_spec (lenses.toList.filter (· < asked)) 0
    have hmax : (lenses.toList.filter (· < asked)).foldl max 0 ∈ lenses.toList.filter (· < asked) := by
      rcases hmem with h | h
      · obtain ⟨x, hx⟩ := List.exists_mem_of_ne_nil _ hsome
        have hzero : x = 0 := by have := hall x hx; omega
        rw [h, ← hzero]
        exact hx
      · exact h
    obtain ⟨hlens, hlt⟩ := (hbelow _).1 hmax
    refine ⟨hlens, fun _ => ⟨hlt, fun j hj => hall _ ((hbelow _).2 ⟨⟨j, rfl⟩, hj⟩)⟩, fun hnone => ?_⟩
    obtain ⟨j, hj⟩ := hlens
    exact absurd (hj ▸ hlt) (hnone j)

/-- The lens chosen serves the size asked (R73). -/
theorem chooseLens_serves (lenses : Vector Nat 8) (asked : Nat) :
    LensServes lenses asked (chooseLens lenses asked).1 (chooseLens lenses asked).2 := by
  have hlowest {n : Nat} {i : Fin 8} (h : findPosition (fun j => lenses[j] == n) = some i) :
      lenses[i] = n ∧ ∀ j : Fin 8, lenses[j] = lenses[i] → i ≤ j := by
    obtain ⟨hi, hbefore⟩ := findPosition_eq_some.1 h
    have hi := beq_iff_eq.1 hi
    refine ⟨hi, fun j hj => not_lt.1 fun hlt => ?_⟩
    exact beq_eq_false_iff_ne.1 (hbefore j hlt) (hj.trans hi)
  cases hfound : findPosition (fun i => lenses[i] == asked) with
  | some i =>
    obtain ⟨hi, hleast⟩ := hlowest hfound
    have hchosen : chooseLens lenses asked = (i, false) := by rw [chooseLens, hfound]
    rw [hchosen]
    exact ⟨by simp [hi], fun _ => hi, fun h => absurd h (by simp), hleast⟩
  | none =>
    have hother (j : Fin 8) : lenses[j] ≠ asked := beq_eq_false_iff_ne.1 (findPosition_eq_none.1 hfound j)
    obtain ⟨⟨k, hk⟩, hgreatest, hleast⟩ := substituteSize_spec lenses asked
    obtain ⟨i, hi⟩ := findPosition_of_exists (f := fun i => lenses[i] == substituteSize lenses asked) ⟨k, by simp [hk]⟩
    obtain ⟨hsize, hfirst⟩ := hlowest hi
    have hchosen : chooseLens lenses asked = (i, true) := by
      rw [chooseLens, hfound]
      exact congrArg (fun o : Option (Fin 8) => (o.getD 0, true)) hi
    rw [hchosen]
    refine ⟨by simpa using hother i, fun ⟨j, hj⟩ => absurd hj (hother j), fun _ => ?_, hfirst⟩
    rw [hsize]
    exact ⟨hgreatest, hleast⟩

theorem State.resolveSize_eq {s : State} {lenses : Vector Nat 8} (h : s.font.lenses = lenses) (asked : Nat) :
    s.resolveSize asked = { s with
      composer.sizeAsked := asked
      composer.lens := (chooseLens lenses asked).1
      composer.lensSize := lenses[(chooseLens lenses asked).1]
      composer.sizeSub := (chooseLens lenses asked).2 } := by
  subst h
  rfl

/-! ### The format commands (R91, R92) -/

theorem State.decoded_flags (s : State) (w : Word) : (s.decoded w).intake.job.flags = s.intake.job.flags := by
  obtain ⟨_, _, _, _, h⟩ := State.consume_intake s w
  rw [State.decoded_eq, State.undecoded_job, h]

theorem State.flagClamped_eq (s : State) :
    s.flagClamped = { s with intake.job.flags.clamped := s.intake.job.inProgress || s.intake.job.flags.clamped } := by
  unfold State.flagClamped
  cases s.intake.job.inProgress <;> rfl

theorem State.measureEffect_eq (t : State) (d : Command) : t.measureEffect d =
    if d.operand.toNat = 0 then t.copyError .badOperand d.offset
    else if d.operand.toNat ≤ 10080 then { t with composer.measure := d.operand.toNat }
    else { t with
      composer.measure := 10080
      intake.job.flags.clamped := t.intake.job.inProgress || t.intake.job.flags.clamped } := by
  unfold State.measureEffect
  dsimp only
  by_cases h : d.operand.toNat ≤ 10080
  · rw [if_pos h, if_neg (show ¬ measureLimit < d.operand.toNat by rw [measureLimit]; omega)]
    rfl
  · rw [if_neg h, if_pos (show measureLimit < d.operand.toNat by rw [measureLimit]; omega), State.flagClamped_eq]
    rfl

theorem State.leadEffect_eq (t : State) (d : Command) : t.leadEffect d =
    if d.operand.toNat ≤ 2880 then { t with composer.lead := d.operand.toNat }
    else { t with
      composer.lead := 2880
      intake.job.flags.clamped := t.intake.job.inProgress || t.intake.job.flags.clamped } := by
  unfold State.leadEffect
  dsimp only
  by_cases h : d.operand.toNat ≤ 2880
  · rw [if_pos h, if_neg (show ¬ leadLimit < d.operand.toNat by rw [leadLimit]; omega)]
  · rw [if_neg h, if_pos (show leadLimit < d.operand.toNat by rw [leadLimit]; omega), State.flagClamped_eq]
    rfl

/-- Settles O39: the effect of each of the three, and the lens that serves the size. -/
theorem measureLeadAndSize : Obligations.MeasureLeadAndSize := by
  intro s w v hstate
  refine ⟨?measure, ?lead, ?size⟩
  case measure =>
    rintro hnext rfl
    refine State.jobInside_endsIn (f := fun d t => t.measureEffect d) hnext hstate (fun _ _ => by simp) ?_
    refine (State.measureEffect_eq _ _).trans ?_
    rw [State.decoded_inProgress, State.decoded_flags]
  case lead =>
    rintro hnext rfl
    refine State.jobInside_endsIn (f := fun d t => t.leadEffect d) hnext hstate (fun _ _ => by simp) ?_
    refine (State.leadEffect_eq _ _).trans ?_
    rw [State.decoded_inProgress, State.decoded_flags]
  case size =>
    rintro hnext rfl
    have hends {u : State} := State.jobInside_endsIn (u := u) (f := fun d t => t.sizeEffect d) hnext hstate
      (fun _ _ => by simp)
    by_cases hzero : (s.completedBy w).inline = 0
    · rw [if_pos hzero]
      exact hends (if_pos hzero)
    · rw [if_neg hzero]
      refine ⟨_, _, hends ((if_neg hzero).trans (State.resolveSize_eq ?_ _)), chooseLens_serves _ _⟩
      rw [State.decoded_font]

/-! ### The Hyphenator's commands (R43, R45, R46) -/

theorem State.hyphEffect_eq (t : State) (d : Command) : t.hyphEffect d =
    let left := d.operand.toNat / 256 % 16
    let right := d.operand.toNat / 16 % 16
    let ladder := d.operand.toNat % 16
    { t with
      hyph := { t.hyph with
        on := d.operand.getLsbD 15, leftMin := max 1 (min 7 left), rightMin := max 1 (min 7 right),
        ladderLimit := min 9 ladder }
      intake.job.flags.clamped := t.intake.job.flags.clamped ||
        (t.intake.job.inProgress && (left == 0 || 7 < left || right == 0 || 7 < right || 9 < ladder)) } := by
  have hladder : wordField d.operand 0 4 = d.operand.toNat % 16 := by simp [wordField]
  unfold State.hyphEffect
  dsimp only
  rw [hladder, show wordField d.operand 8 4 = d.operand.toNat / 256 % 16 from rfl,
    show wordField d.operand 4 4 = d.operand.toNat / 16 % 16 from rfl]
  generalize d.operand.toNat / 256 % 16 = left
  generalize d.operand.toNat / 16 % 16 = right
  generalize d.operand.toNat % 16 = ladder
  have hclean : clampTo 1 7 left = left ∧ clampTo 1 7 right = right ∧ min 9 ladder = ladder
      ↔ (left == 0 || decide (7 < left) || right == 0 || decide (7 < right) || decide (9 < ladder)) = false := by
    simp [clampTo]
    omega
  rw [if_congr hclean rfl rfl]
  split
  next h =>
    rw [h, Bool.and_false, Bool.or_false]
    rfl
  next h =>
    rw [Bool.not_eq_false] at h
    rw [h, Bool.and_true, State.flagClamped_eq, Bool.or_comm]
    rfl

/-- The word of an EXCEPT or UNEXCEPT is out of range (R45, R46). -/
def BadWord (d : Command) : Prop :=
  d.inline < 2 ∨ 24 < d.inline ∨ ∃ c ∈ d.values, ¬ (0x41 ≤ c ∧ c ≤ 0x5A ∨ 0x61 ≤ c ∧ c ≤ 0x7A)

theorem wordAccepted_iff (d : Command) : wordAccepted d.inline d.values = true ↔ ¬ BadWord d := by
  have hletters : d.values.all isLetter = true
      ↔ ¬ ∃ c ∈ d.values, ¬ (0x41 ≤ c ∧ c ≤ 0x5A ∨ 0x61 ≤ c ∧ c ≤ 0x7A) := by
    simp only [List.all_eq_true, isLetter, Bool.or_eq_true, Bool.and_eq_true, decide_eq_true_eq]
    exact ⟨fun h ⟨c, hc, hn⟩ => hn (h c hc), fun h c hc => by_contra fun hn => h ⟨c, hc, hn⟩⟩
  rw [wordAccepted, Bool.and_eq_true, Bool.and_eq_true, hletters, decide_eq_true_eq, decide_eq_true_eq, BadWord, not_or,
    not_or, not_lt, not_lt, and_assoc]

theorem increasing_iff (l : List Nat) : increasing l = true ↔ l.Pairwise (· < ·) := by
  rw [← List.isChain_iff_pairwise]
  induction l with
  | nil => simp [increasing]
  | cons a l ih =>
    cases l with
    | nil => simp [increasing]
    | cons b l => simp [increasing, ih]

/-- The positions of an EXCEPT of `count` letters are out of range (R45). -/
def BadPositions (count : Nat) (never : Bool) (n : Nat) (positions : List Nat) : Prop :=
  (never = true ∧ n ≠ 0) ∨ (never = false ∧ (n = 0 ∨ 23 < n)) ∨ (∃ i ∈ positions, i = 0 ∨ count ≤ i)
    ∨ ¬ positions.Pairwise (· < ·)

theorem exceptAccepted_iff (d : Command) (never : Bool) (n : Nat) (l : List Word) :
    exceptAccepted d.inline d.values never n (valuesOf l n) = true
      ↔ ¬ BadWord d ∧ ¬ BadPositions d.inline never n (valuesOf l n) := by
  rw [exceptAccepted, Bool.and_eq_true, wordAccepted_iff]
  refine and_congr_right fun _ => ?_
  unfold BadPositions
  cases never with
  | true =>
    have hzero : n = 0 → valuesOf l n = [] := fun h => by rw [h]; rfl
    by_cases hn : n = 0
    · rw [hzero hn]
      simp [hn]
    · simp [hn]
  | false =>
    simp only [Bool.false_eq_true, if_false, Bool.and_eq_true, decide_eq_true_eq, List.all_eq_true, increasing_iff,
      false_and, false_or, true_and, not_or, not_exists, not_and, not_not, not_lt, not_le]
    refine ⟨fun ⟨⟨⟨h, h'⟩, hall⟩, hrise⟩ => ⟨⟨by omega, h'⟩, fun i hi => ?_, hrise⟩,
      fun ⟨⟨h, h'⟩, hall, hrise⟩ => ⟨⟨⟨by omega, h'⟩, fun i hi => ?_⟩, hrise⟩⟩
    · have := hall i hi
      omega
    · have := hall i hi
      omega

/-- The count word of an EXCEPT (11.1). -/
def Command.countWord (d : Command) : Word := (d.operands.drop ((d.inline + 1) / 2)).headD 0

/-- The positions of an EXCEPT. -/
def Command.positions (d : Command) : List Nat :=
  valuesOf (d.operands.drop ((d.inline + 1) / 2 + 1)) (d.countWord.toNat % 32)

/-- The dictionary entry of an EXCEPT. -/
def Command.entry (d : Command) : DictEntry :=
  { word := d.values.map foldLetter, never := d.countWord.getLsbD 15, positions := d.positions }

theorem State.exceptEffect_eq (t : State) (d : Command) : t.exceptEffect d =
    if exceptAccepted d.inline d.values (d.countWord.getLsbD 15) (d.countWord.toNat % 32) d.positions then
      t.addException d d.entry
    else t.badOperand d := by
  have hcount : positionCount d.countWord = d.countWord.toNat % 32 := by simp [positionCount, wordField]
  have htail : (d.operands.drop (wordsFor d.inline)).tail = d.operands.drop ((d.inline + 1) / 2 + 1) := List.tail_drop
  unfold State.exceptEffect
  dsimp only
  rw [htail, show (d.operands.drop (wordsFor d.inline)).headD 0 = d.countWord from rfl, hcount]
  rfl

theorem State.addException_new {t : State} {dictionary : List DictEntry} {e : DictEntry}
    (h : t.hyph.dictionary = dictionary) (hnew : ∀ x ∈ dictionary, x.word ≠ e.word) (d : Command) : t.addException d e =
      if dictionary.length < 512 then State.mark { t with hyph.dictionary := dictionary ++ [e] } [24]
      else (t.copyError .dictionaryFull d.offset).raise .dictionaryFull := by
  subst h
  unfold State.addException
  rw [lookupWord_eq_none hnew]
  rfl

theorem replaceEntry_append {before after : List DictEntry} {x e : DictEntry} (hx : x.word = e.word)
    (hother : ∀ y ∈ before ++ after, y.word ≠ e.word) :
    replaceEntry (before ++ x :: after) e = before ++ e :: after := by
  have hsame (l : List DictEntry) (hl : ∀ y ∈ l, y ∈ before ++ after) :
      l.map (fun y => if y.word = e.word then e else y) = l :=
    (List.map_congr_left fun y hy => if_neg (hother y (hl y hy))).trans (List.map_id l)
  rw [replaceEntry, List.map_append, List.map_cons, if_pos hx, hsame before fun y => List.mem_append_left _,
    hsame after fun y => List.mem_append_right _]

theorem State.addException_held {t : State} {before after : List DictEntry} {x e : DictEntry}
    (h : t.hyph.dictionary = before ++ x :: after) (hx : x.word = e.word)
    (hother : ∀ y ∈ before ++ after, y.word ≠ e.word) (d : Command) :
    t.addException d e = { t with hyph.dictionary := before ++ e :: after } := by
  unfold State.addException
  rw [h, lookupWord_append_cons hx fun y hy => hother y (List.mem_append_left _ hy), replaceEntry_append hx hother]
  rfl

theorem State.unexceptEffect_eq {t : State} {dictionary : List DictEntry} (h : t.hyph.dictionary = dictionary)
    (d : Command) : t.unexceptEffect d =
      if wordAccepted d.inline d.values then
        State.markIf { t with hyph.dictionary := dictionary.filter (fun e => e.word != d.values.map foldLetter) }
          (dictionary.any (fun e => e.word == d.values.map foldLetter)) [24]
      else t.badOperand d := by
  subst h
  unfold State.unexceptEffect lookupWord
  dsimp only
  rw [List.isSome_find?]

/-- Settles O42: each command's checks are those of the rule, and its effect is written out. -/
theorem hyphenatorCommands : Obligations.HyphenatorCommands := by
  refine ⟨?hyph, ?words⟩
  case hyph =>
    rintro s w v hnext rfl hstate
    refine State.standing_endsIn (f := fun d t => t.hyphEffect d) hnext hstate (fun _ _ => by simp) ?_
    refine (State.hyphEffect_eq _ _).trans ?_
    rw [State.decoded_inProgress, State.decoded_flags, State.decoded_hyph]
  case words =>
    intro s w hstate _ d word bad badWord
    have hbad : badWord = BadWord d := rfl
    have hdictionary : (s.decoded w).hyph.dictionary = s.hyph.dictionary := by rw [State.decoded_hyph]
    have hexcept {u : State} (hnext : CommandNext s .exceptWord w) (hu : (s.decoded w).exceptEffect d = u) :
        EndsIn (exec .exceptWord s) u :=
      State.standing_endsIn (f := fun d t => t.exceptEffect d) hnext hstate (fun _ _ => by simp) hu
    have hunexcept {u : State} (hnext : CommandNext s .unexcept w) (hu : (s.decoded w).unexceptEffect d = u) :
        EndsIn (exec .unexcept s) u :=
      State.standing_endsIn (f := fun d t => t.unexceptEffect d) hnext hstate (fun _ _ => by simp) hu
    have hrefused (h : ¬ (¬ BadWord d ∧ ¬ BadPositions d.inline (d.countWord.getLsbD 15) (d.countWord.toNat % 32) d.positions)) :
        (s.decoded w).exceptEffect d = bad :=
      (State.exceptEffect_eq _ _).trans (if_neg (mt (exceptAccepted_iff _ _ _ _).1 h))
    rw [hbad]
    refine ⟨fun h hnext => hexcept hnext (hrefused fun h' => h'.1 h), fun h hnext => ?_, fun h hnext => ?_, ?except⟩
    · exact hunexcept hnext ((State.unexceptEffect_eq rfl _).trans (if_neg (mt (wordAccepted_iff d).1 (not_not.2 h))))
    · exact hunexcept hnext ((State.unexceptEffect_eq hdictionary _).trans (if_pos ((wordAccepted_iff d).2 h)))
    case except =>
      rintro count n never positions hword hnext rfl rfl rfl rfl badPositions e
      have hbadPositions : badPositions
        = BadPositions d.inline (d.countWord.getLsbD 15) (d.countWord.toNat % 32) d.positions := rfl
      have haccepted (h : ¬ badPositions) : (s.decoded w).exceptEffect d = (s.decoded w).addException d d.entry :=
        (State.exceptEffect_eq _ _).trans (if_pos ((exceptAccepted_iff _ _ _ _).2 ⟨hword, h⟩))
      refine ⟨fun h => hexcept hnext (hrefused fun h' => h'.2 h), fun h hnew => ?_, fun before after x h hheld hx hother => ?_⟩
      · exact hexcept hnext ((haccepted h).trans (State.addException_new hdictionary hnew d))
      · exact hexcept hnext ((haccepted h).trans (State.addException_held (hdictionary.trans hheld) hx hother d))

end Sys2Proof.Machine
end

section
/-! PROOFS. The points of the rule engine (R40, R41): the runs of consonants between two vowels, and one point for each. -/

namespace Sys2Proof.Machine

/-! ### The point of one run (R41) -/

theorem beginsWithTail_iff (run : List Nat) :
    beginsWithTail run = true ↔ run.take 2 ∈ [[0x63, 0x6B], [0x6E, 0x67]] := by
  rcases run with - | ⟨a, - | ⟨b, l⟩⟩ <;> simp [beginsWithTail, isTailPair]

theorem endsWithLead_append (l : List Nat) (a b : Nat) : endsWithLead (l ++ [a, b]) = isLeadPair a b := by
  simp [endsWithLead]

theorem isLeadPair_iff (a b : Nat) : isLeadPair a b = true ↔ [a, b] ∈ [[0x63, 0x68], [0x67, 0x68], [0x70, 0x68],
    [0x73, 0x68], [0x74, 0x68], [0x77, 0x68], [0x77, 0x72], [0x67, 0x6E], [0x6B, 0x6E]] := by
  simp only [isLeadPair, Bool.or_eq_true, Bool.and_eq_true, beq_iff_eq, List.mem_cons, List.cons.injEq, and_true,
    List.not_mem_nil, or_false, and_or_left, or_assoc, and_comm (b := b = _)]

theorem endsWithLead_iff {run : List Nat} (h : 2 ≤ run.length) : endsWithLead run = true ↔
    run.drop (run.length - 2) ∈ [[0x63, 0x68], [0x67, 0x68], [0x70, 0x68], [0x73, 0x68], [0x74, 0x68], [0x77, 0x68],
      [0x77, 0x72], [0x67, 0x6E], [0x6B, 0x6E]] := by
  obtain ⟨l, a, b, rfl⟩ : ∃ l a b, run = l ++ [a, b] := by
    rcases List.eq_nil_or_concat run with rfl | ⟨l, b, rfl⟩
    · simp at h
    · rcases List.eq_nil_or_concat l with rfl | ⟨l, a, rfl⟩
      · simp at h
      · exact ⟨l, a, b, by simp⟩
  rw [endsWithLead_append, isLeadPair_iff, show (l ++ [a, b]).length - 2 = l.length by simp, List.drop_left]

/-- A run's point stands between the letter before the run and its last letter. -/
theorem runPoint_bounds {a : Nat} {run : List Nat} (h : run ≠ []) :
    a - 1 ≤ runPoint a run ∧ (0 < a → runPoint a run < a + run.length) := by
  have hlength := List.length_pos_iff.2 h
  unfold runPoint
  dsimp only
  split
  · omega
  · split
    · omega
    · split <;> omega

/-! ### The runs of a word (R40) -/

/-- In a word whose rest is `l`, the consonant run that begins with `run` is closed by a vowel, as `full`. -/
def Closes (run l full : List Nat) : Prop :=
  ∃ cs u after, l = cs ++ u :: after ∧ (∀ c ∈ cs, isVowel false c = false) ∧ isVowel false u = true
    ∧ full = run ++ cs ∧ full ≠ []

theorem not_closes_nil (run full : List Nat) : ¬ Closes run [] full := by
  rintro ⟨cs, u, after, h, -⟩
  simp at h

theorem closes_cons_vowel {c : Nat} (hc : isVowel false c = true) (run l full : List Nat) :
    Closes run (c :: l) full ↔ full = run ∧ run ≠ [] := by
  refine ⟨?_, fun ⟨hfull, hrun⟩ => ⟨[], c, l, rfl, by simp, hc, by simpa using hfull, hfull ▸ hrun⟩⟩
  rintro ⟨cs, u, after, h, hcs, -, rfl, hne⟩
  cases cs with
  | nil => exact ⟨by simp, by simpa using hne⟩
  | cons d cs =>
    obtain ⟨rfl, -⟩ := List.cons.inj h
    simp [hc] at hcs

theorem closes_cons_consonant {c : Nat} (hc : isVowel false c = false) (run l full : List Nat) :
    Closes run (c :: l) full ↔ Closes (run ++ [c]) l full := by
  constructor
  · rintro ⟨cs, u, after, h, hcs, hu, rfl, hne⟩
    cases cs with
    | nil =>
      obtain ⟨rfl, -⟩ := List.cons.inj h
      rw [hc] at hu
      cases hu
    | cons d cs =>
      obtain ⟨rfl, rfl⟩ := List.cons.inj h
      exact ⟨cs, u, after, rfl, fun x hx => hcs x (List.mem_cons_of_mem _ hx), hu, by simp, hne⟩
  · rintro ⟨cs, u, after, rfl, hcs, hu, rfl, hne⟩
    exact ⟨c :: cs, u, after, rfl, by simpa [hc] using hcs, hu, by simp, hne⟩

/-- `i` is the point of a run between two vowels of `l`, which begins with letter `j` of the word. -/
def HasPoint (j : Nat) (l : List Nat) (i : Nat) : Prop :=
  ∃ before v rest full, l = before ++ v :: rest ∧ isVowel (decide (j = 1 ∧ before = [])) v = true
    ∧ Closes [] rest full ∧ i = runPoint (j + before.length + 1) full

theorem not_hasPoint_nil (j i : Nat) : ¬ HasPoint j [] i := by
  rintro ⟨before, v, rest, full, h, -⟩
  simp at h

theorem hasPoint_cons {j : Nat} (hj : 1 ≤ j) (c : Nat) (l : List Nat) (i : Nat) : HasPoint j (c :: l) i ↔
    (isVowel (decide (j = 1)) c = true ∧ ∃ full, Closes [] l full ∧ i = runPoint (j + 1) full) ∨ HasPoint (j + 1) l i := by
  constructor
  · rintro ⟨before, v, rest, full, h, hv, hcloses, rfl⟩
    cases before with
    | nil =>
      obtain ⟨rfl, rfl⟩ := List.cons.inj h
      exact .inl ⟨by simpa using hv, full, hcloses, rfl⟩
    | cons d before =>
      obtain ⟨rfl, rfl⟩ := List.cons.inj h
      refine .inr ⟨before, v, rest, full, rfl, ?_, hcloses, ?_⟩
      · simpa [show j ≠ 0 by omega] using hv
      · rw [List.length_cons]
        congr 1
        omega
  · rintro (⟨hv, full, hcloses, rfl⟩ | ⟨before, v, rest, full, rfl, hv, hcloses, rfl⟩)
    · exact ⟨[], c, l, full, rfl, by simpa using hv, hcloses, rfl⟩
    · refine ⟨c :: before, v, rest, full, rfl, ?_, hcloses, ?_⟩
      · simpa [show j ≠ 0 by omega] using hv
      · rw [List.length_cons]
        congr 1
        omega

theorem isVowel_inside {first : Bool} {c : Nat} (h : isVowel first c = true) : isVowel false c = true := by
  cases first
  · exact h
  · simp only [isVowel, Bool.not_true, Bool.and_false, Bool.or_false] at h
    simp [isVowel, h]

/-- The engine gives the point of the run in hand, if it is bounded and closed, and those of the runs after it. -/
theorem mem_pointsFrom (l : List Nat) : ∀ (j : Nat) (bounded : Bool) (run : List Nat) (i : Nat), 1 ≤ j →
    (j = 1 → bounded = false) → (i ∈ pointsFrom j bounded run l ↔
      (bounded = true ∧ ∃ full, Closes run l full ∧ i = runPoint (j - run.length) full) ∨ HasPoint j l i) := by
  induction l with
  | nil => simp [pointsFrom, not_closes_nil, not_hasPoint_nil]
  | cons c l ih =>
    intro j bounded run i hj hfirst
    rw [pointsFrom, hasPoint_cons hj]
    split
    next hvowel =>
      simp only [closes_cons_vowel (isVowel_inside hvowel), List.mem_append, ih (j + 1) true [] i (by omega) (by omega),
        hvowel, true_and, List.length_nil, Nat.sub_zero]
      refine or_congr ?_ Iff.rfl
      cases bounded <;> cases run <;> simp
    next hconsonant =>
      rw [ih (j + 1) bounded (run ++ [c]) i (by omega) (by omega)]
      have hnone : ¬ (isVowel (decide (j = 1)) c = true ∧ ∃ full, Closes [] l full ∧ i = runPoint (j + 1) full) :=
        fun h => hconsonant h.1
      rw [or_iff_right hnone]
      refine or_congr (and_congr_right fun hbounded => ?_) Iff.rfl
      have hinside : isVowel false c = false := by
        have hj1 : j ≠ 1 := fun h => by rw [hfirst h] at hbounded; cases hbounded
        simpa [hj1] using hconsonant
      simp only [closes_cons_consonant hinside, List.length_append, List.length_singleton, Nat.add_sub_add_right]

theorem mem_rulePoints (word : List Nat) (i : Nat) : i ∈ rulePoints word ↔ HasPoint 1 word i := by
  rw [rulePoints, mem_pointsFrom word 1 false [] i (by omega) (fun _ => rfl)]
  simp

/-! ### The order of the points -/

theorem run_of_closed {bounded : Bool} {run : List Nat} (h : (bounded && !run.isEmpty) = true) : run ≠ [] := by
  rintro rfl
  simp at h

theorem pointsFrom_ge (l : List Nat) : ∀ (j : Nat) (bounded : Bool) (run : List Nat) (i : Nat), run.length < j →
    i ∈ pointsFrom j bounded run l → j - run.length - 1 ≤ i := by
  induction l with
  | nil => simp [pointsFrom]
  | cons c l ih =>
    intro j bounded run i hrun hi
    rw [pointsFrom] at hi
    split at hi
    next =>
      rcases List.mem_append.1 hi with h | h
      · split at h
        next hclosed =>
          obtain rfl := List.mem_singleton.1 h
          exact (runPoint_bounds (run_of_closed hclosed)).1
        next => cases h
      · have := ih (j + 1) true [] i (by simp) h
        simp only [List.length_nil] at this
        omega
    next =>
      have := ih (j + 1) bounded (run ++ [c]) i (by simpa using hrun) hi
      simp only [List.length_append, List.length_singleton] at this
      omega

theorem pointsFrom_pairwise (l : List Nat) : ∀ (j : Nat) (bounded : Bool) (run : List Nat), run.length < j →
    (pointsFrom j bounded run l).Pairwise (· < ·) := by
  induction l with
  | nil => simp [pointsFrom]
  | cons c l ih =>
    intro j bounded run hrun
    rw [pointsFrom]
    split
    next =>
      have hrest := ih (j + 1) true [] (by simp)
      split
      next hclosed =>
        have hne := run_of_closed hclosed
        refine List.pairwise_append.2 ⟨List.pairwise_singleton _ _, hrest, fun a ha b hb => ?_⟩
        obtain rfl := List.mem_singleton.1 ha
        have hlow := pointsFrom_ge l (j + 1) true [] b (by simp) hb
        have hhigh := (runPoint_bounds (a := j - run.length) hne).2 (by omega)
        simp only [List.length_nil] at hlow
        omega
      next => exact hrest
    next => exact ih (j + 1) bounded (run ++ [c]) (by simpa using hrun)

theorem isVowel_iff (first : Bool) (c : Nat) :
    isVowel first c = true ↔ c ∈ [0x61, 0x65, 0x69, 0x6F, 0x75] ∨ (c = 0x79 ∧ first = false) := by
  simp [isVowel, or_assoc]

/-- Settles O60: the engine's points are those of the bounded runs, in order. -/
theorem ruleEnginePoints : Obligations.RuleEnginePoints := by
  intro word vowel tail lead
  refine ⟨pointsFrom_pairwise word 1 false [] (by simp), fun i => ?_⟩
  have hpoint (n : Nat) {run : List Nat} (hne : run ≠ []) : i = runPoint (1 + n + 1) run ↔
      (if run.length = 1 then i = n + 2 - 1
      else if run.take 2 ∈ tail then i = n + 2 + 1
      else if run.drop (run.length - 2) ∈ lead then i = n + 1 + run.length - 2
      else i = n + 1 + run.length - 1) := by
    have hlength := List.length_pos_iff.2 hne
    rw [show 1 + n + 1 = n + 2 by omega]
    unfold runPoint
    dsimp only
    by_cases hone : run.length = 1
    · rw [if_pos hone, if_pos hone]
    · rw [if_neg hone, if_neg hone, if_congr (beginsWithTail_iff run) rfl rfl,
        if_congr (endsWithLead_iff (by omega)) rfl rfl, show n + 2 + run.length - 1 = n + 1 + run.length by omega]
      split
      · rfl
      · split <;> rfl
  have hfirst (before : List Nat) (v : Nat) : isVowel (decide (1 = 1 ∧ before = [])) v = true ↔ vowel before.isEmpty v := by
    rw [isVowel_iff]
    cases before <;> rfl
  have hconsonant (c : Nat) : isVowel false c = false ↔ ¬ vowel false c := by
    rw [← Bool.not_eq_true, isVowel_iff]
  rw [mem_rulePoints]
  constructor
  · rintro ⟨before, v, rest, full, rfl, hv, ⟨run, u, after, rfl, hrun, hu, rfl, hne⟩, hi⟩
    exact ⟨before, full, after, v, u, by simp, hne, (hfirst _ _).1 hv, (isVowel_iff _ _).1 hu,
      fun c hc => (hconsonant c).1 (hrun c hc), (hpoint _ hne).1 hi⟩
  · rintro ⟨before, run, after, v, u, rfl, hne, hv, hu, hrun, hi⟩
    exact ⟨before, v, run ++ u :: after, run, by simp, (hfirst _ _).2 hv,
      ⟨run, u, after, rfl, fun c hc => (hconsonant c).2 (hrun c hc), (isVowel_iff _ _).2 hu, rfl, hne⟩,
      (hpoint _ hne).2 hi⟩

end Sys2Proof.Machine
end

section
/-! PROOFS. The messages of the operator's panel, both ways, and the film messages (R130, R131, R140 to R149). -/

namespace Sys2Proof.Machine

/-! ### Messages made (R142, R143) -/

theorem keptBy_refused_eq (r : ReasonWord) (l : List PanelMessage) : keptBy (.refused r) l =
    if 8 ≤ (l.filter PanelMessage.isRefused).length then dropFirst PanelMessage.isRefused l else l := rfl

theorem keptBy_refused {l : List PanelMessage} (h : (l.filter PanelMessage.isRefused).length < 8) (r : ReasonWord) :
    keptBy (.refused r) l = l := if_neg (by omega)

theorem dropFirst_append {f : PanelMessage → Bool} {before after : List PanelMessage} {m : PanelMessage}
    (hbefore : ∀ x ∈ before, f x = false) (hm : f m = true) : dropFirst f (before ++ m :: after) = before ++ after := by
  induction before with
  | nil => simp [dropFirst, hm]
  | cons x l ih =>
    have hx := hbefore x List.mem_cons_self
    rw [List.cons_append, dropFirst, hx, ih fun y hy => hbefore y (List.mem_cons_of_mem _ hy)]
    rfl

/-- A message made joins the end of the list, and a free link takes up the first (R142). -/
theorem State.toPanel_eq (s : State) (m : PanelMessage) :
    s.toPanel m = State.linked { s with panel.outbound := keptBy m s.panel.outbound ++ [m] } := rfl

/-- The state in which a message from the panel has been refused with reason `r` (R143). -/
def State.refusing (s : State) (r : ReasonWord) : State :=
  State.linked { s with panel.outbound := s.panel.outbound ++ [.refused r] }

theorem State.refuse_eq {s : State} (h : (s.panel.outbound.filter PanelMessage.isRefused).length < 8) (r : ReasonWord) :
    s.refuse r = s.refusing r := by
  rw [State.refuse, State.toPanel_eq, keptBy_refused h]
  rfl

theorem State.refused_endsIn {s : State} (hq : Quiet s) (h : (s.panel.outbound.filter PanelMessage.isRefused).length < 8)
    (r : ReasonWord) : EndsIn (s.refuse r).done (s.refusing r) := by
  rw [State.refuse_eq h]
  exact State.done_endsIn _ hq

theorem PanelLink.startLink_busy {l : PanelLink} (h : l.sending ≠ none) : l.startLink = l := by
  obtain ⟨x, hx⟩ := Option.ne_none_iff_exists'.1 h
  cases l
  obtain rfl : _ = some x := hx
  rfl

theorem PanelLink.startLink_free {l : PanelLink} (h : l.sending = none) :
    l.startLink = { l with sending := l.outbound.head?, outbound := l.outbound.tail } := by
  cases l
  obtain rfl : _ = none := h
  rfl

theorem State.linked_busy {s : State} (h : s.panel.sending ≠ none) : s.linked = s := by
  unfold State.linked
  rw [PanelLink.startLink_busy h]

theorem State.linked_free {s : State} (h : s.panel.sending = none) :
    s.linked = { s with panel.sending := s.panel.outbound.head?, panel.outbound := s.panel.outbound.tail } := by
  unfold State.linked
  rw [PanelLink.startLink_free h]

theorem State.toPanel_busy {s : State} (h : s.panel.sending ≠ none) (m : PanelMessage) :
    s.toPanel m = { s with panel.outbound := keptBy m s.panel.outbound ++ [m] } :=
  State.linked_busy (s := { s with panel.outbound := keptBy m s.panel.outbound ++ [m] }) h

theorem State.toPanel_free {s : State} (h : s.panel.sending = none) (hempty : s.panel.outbound = []) (m : PanelMessage) :
    s.toPanel m = { s with panel.sending := some m } := by
  unfold State.toPanel
  rw [PanelLink.make_free h hempty]

/-! ### The bounds of the waiting messages (R142) -/

theorem dropFirst_sublist (f : PanelMessage → Bool) (l : List PanelMessage) : (dropFirst f l).Sublist l := by
  induction l with
  | nil => exact List.Sublist.refl _
  | cons m l ih =>
    unfold dropFirst
    split
    · exact List.sublist_cons_self m l
    · exact ih.cons_cons m

theorem keptBy_sublist (m : PanelMessage) (l : List PanelMessage) : (keptBy m l).Sublist l := by
  cases m with
  | display | alarm | mountCall => exact List.filter_sublist
  | refused r =>
    rw [keptBy_refused_eq]
    split
    · exact dropFirst_sublist _ l
    · exact List.Sublist.refl l

theorem length_filter_dropFirst {f : PanelMessage → Bool} {l : List PanelMessage} (h : 0 < (l.filter f).length) :
    ((dropFirst f l).filter f).length = (l.filter f).length - 1 := by
  induction l with
  | nil => simp at h
  | cons m l ih =>
    unfold dropFirst
    by_cases hm : f m = true
    · simp [hm]
    · simp only [hm, List.filter_cons] at h ⊢
      simpa [hm] using ih (by simpa using h)

/-- The messages of one sort that wait once `m` has been made. -/
def waitingOf (f : PanelMessage → Bool) (m : PanelMessage) (l : List PanelMessage) : Nat :=
  ((keptBy m l ++ [m]).filter f).length

theorem waitingOf_eq (f : PanelMessage → Bool) (m : PanelMessage) (l : List PanelMessage) :
    waitingOf f m l = ((keptBy m l).filter f).length + (f m).toNat := by
  unfold waitingOf
  cases hm : f m <;> simp [hm]

theorem waitingOf_other {f : PanelMessage → Bool} {m : PanelMessage} (hm : f m = false) (l : List PanelMessage) :
    waitingOf f m l ≤ (l.filter f).length := by
  rw [waitingOf_eq, hm]
  exact ((keptBy_sublist m l).filter f).length_le

theorem waitingOf_replaced {f : PanelMessage → Bool} {m : PanelMessage} (hkept : ∀ l, keptBy m l = l.filter (fun x => !f x))
    (l : List PanelMessage) : waitingOf f m l ≤ 1 := by
  rw [waitingOf_eq, hkept]
  have hnone : (l.filter (fun x => !f x)).filter f = [] := by simp
  rw [hnone]
  have := Bool.toNat_le (f m)
  simpa using this

theorem waitingOf_refused (r : ReasonWord) {l : List PanelMessage} (h : (l.filter PanelMessage.isRefused).length ≤ 8) :
    waitingOf PanelMessage.isRefused (.refused r) l ≤ 8 := by
  rw [waitingOf_eq, keptBy_refused_eq]
  split
  next hfull =>
    rw [length_filter_dropFirst (by omega)]
    simp only [PanelMessage.isRefused, Bool.toNat_true]
    omega
  next => simp only [PanelMessage.isRefused, Bool.toNat_true]; omega

theorem outboundInv_toPanel {s : State} (h : OutboundInv s) (m : PanelMessage) : OutboundInv (s.toPanel m) := by
  obtain ⟨hfree, hdisplay, halarm, hrefused⟩ := h
  by_cases hsending : s.panel.sending = none
  · rw [State.toPanel_free hsending (hfree hsending)]
    exact ⟨fun h => absurd h (by simp), hdisplay, halarm, hrefused⟩
  · rw [State.toPanel_busy hsending]
    refine ⟨fun h => absurd h hsending, ?_⟩
    cases m with
    | display line hostLine =>
      exact ⟨waitingOf_replaced (fun _ => rfl) _, (waitingOf_other rfl _).trans halarm, (waitingOf_other rfl _).trans hrefused⟩
    | alarm order =>
      exact ⟨(waitingOf_other rfl _).trans hdisplay, waitingOf_replaced (fun _ => rfl) _, (waitingOf_other rfl _).trans hrefused⟩
    | mountCall p n remove =>
      exact ⟨(waitingOf_other rfl _).trans hdisplay, (waitingOf_other rfl _).trans halarm, (waitingOf_other rfl _).trans hrefused⟩
    | refused r =>
      exact ⟨(waitingOf_other rfl _).trans hdisplay, (waitingOf_other rfl _).trans halarm, waitingOf_refused r hrefused⟩

/-- A message made is the one being sent, or waits (R135). -/
theorem mem_unsent_toPanel (s : State) (m : PanelMessage) : m ∈ (s.toPanel m).panel.unsent := by
  rw [State.toPanel_eq]
  by_cases hsending : s.panel.sending = none
  · rw [State.linked_free (by exact hsending)]
    show m ∈ (keptBy m s.panel.outbound ++ [m]).head?.toList ++ (keptBy m s.panel.outbound ++ [m]).tail
    cases keptBy m s.panel.outbound <;> simp
  · rw [State.linked_busy (by exact hsending)]
    simp [PanelLink.unsent]

theorem messageInRange_iff (text : List Nat) :
    messageInRange text = true ↔ 1 ≤ text.length ∧ text.length ≤ 32 ∧ ∀ c ∈ text, 0x20 ≤ c ∧ c ≤ 0x7E := by
  simp [messageInRange, isTextCode, and_assoc]

theorem exec_message {text : List Nat} (hlow : 1 ≤ text.length) (hhigh : text.length ≤ 32)
    (hcodes : ∀ c ∈ text, 0x20 ≤ c ∧ c ≤ 0x7E) (s : State) : exec (.message text) s = (s.messageReport text).done := by
  show execMessage text s = _
  rw [execMessage, if_pos ((messageInRange_iff text).2 ⟨hlow, hhigh, hcodes⟩)]

/-- Settles O56: each message of the panel, and the outbound list. -/
theorem messagesBothWays : Obligations.MessagesBothWays := by
  refine ⟨fun s hq hroom => ?reports, fun s hq => ?sent, fun s => ⟨State.linked_busy, State.linked_free⟩,
    fun s hbusy => ?list, fun s m hinv => ?bounds⟩
  case reports =>
    have hrefused (r : ReasonWord) := State.refused_endsIn hq hroom r
    refine ⟨fun text hbad => ?_, fun text hlow hhigh hcodes => ⟨fun hfull => ?_, fun hempty => ?_⟩, fun hjob => ?_,
      hrefused .unknown⟩
    · have hrange : ¬ messageInRange text = true := by
        rw [messageInRange_iff]
        rintro ⟨hlow, hhigh, hcodes⟩
        rcases hbad with h | h | ⟨c, hc, h⟩
        · omega
        · omega
        · have := hcodes c hc
          omega
      show EndsIn (execMessage text s) _
      rw [execMessage, if_neg hrange]
      exact hrefused .badValue
    · obtain ⟨x, hx⟩ := Option.ne_none_iff_exists'.1 hfull
      rw [exec_message hlow hhigh hcodes, State.messageReport, hx]
      exact hrefused .inboxFull
    · rw [exec_message hlow hhigh hcodes, State.messageReport, hempty]
      exact State.done_endsIn _ (quiet_of_inner (by simp) hq)
    · show EndsIn (execCancel s) _
      rw [execCancel, if_neg (by simp [hjob])]
      exact hrefused .noJob
  case sent => exact State.done_endsIn _ hq
  case list =>
    refine ⟨fun _ _ => State.toPanel_busy hbusy _, fun _ => State.toPanel_busy hbusy _,
      fun _ _ _ => State.toPanel_busy hbusy _, fun r => ⟨fun hroom => ?_, fun before oldest after hfull hwaiting hbefore => ?_⟩⟩
    · rw [State.toPanel_busy hbusy, keptBy_refused hroom]
    · have hkept : keptBy (.refused r) s.panel.outbound = before ++ after := by
        refine (if_pos hfull).trans ?_
        rw [hwaiting]
        exact dropFirst_append hbefore rfl
      rw [State.toPanel_busy hbusy, hkept]
  case bounds =>
    refine ⟨outboundInv_toPanel hinv m, mem_unsent_toPanel s m, fun hbusy => ?_, fun hfree => ?_⟩
    · rw [State.toPanel_busy hbusy]
    · exact State.toPanel_free hfree (hinv.1 hfree) m

end Sys2Proof.Machine
end

section
/-! PROOFS. The film messages of the panel, and the expiry of a call timer (R57 to R59, R130, R131, R144). -/

namespace Sys2Proof.Machine

/-! ### The display (R144) -/

theorem readsOnLine1 (s : State) (result : Option ManualResult) : ReadsOnLine1 s result (s.line1 false result) := by
  have hline : s.line1 false result = if s.seq.state = .halted then .halted s.seq.halt s.seq.failed s.heldSubject
      else s.line1 false result := by
    split
    next h => exact if_pos h
    next => rfl
  refine ⟨fun h => hline.trans (if_pos h), fun h => ⟨fun p rest hcalls => ?_, fun hcalls => ?_⟩⟩
  all_goals
    unfold State.line1
    rw [if_neg (by decide), if_neg h, hcalls]
  rfl

theorem State.showWith_eq (s : State) (result : Option ManualResult) : s.showWith false result =
    State.linked { s with
      panel.outbound := s.panel.outbound.filter (fun m => !m.isDisplay) ++ [.display (s.line1 false result) s.panel.hostLine] } :=
  rfl

/-! ### The film messages (R130, R131) -/

section
variable {s : State} {inRange : Bool} {taken : State}

theorem State.filmMessage_badValue (h : inRange = false) : s.filmMessage inRange taken = s.refuse .badValue := by
  rw [State.filmMessage, h]
  rfl

theorem State.filmMessage_notTaken (h : inRange = true) (hown : s.panel.ownership ≠ .panel) :
    s.filmMessage inRange taken = s.refuse .notTaken := by
  rw [State.filmMessage, h, if_neg (by decide), if_pos hown]

theorem State.filmMessage_busy (h : inRange = true) (hown : s.panel.ownership = .panel) (hm : s.seq.manual ≠ none) :
    s.filmMessage inRange taken = s.refuse .busy := by
  rw [State.filmMessage, h, if_neg (by decide), if_neg (not_not.2 hown), if_pos (by simpa [Option.isSome_iff_ne_none] using hm)]

theorem State.filmMessage_taken (h : inRange = true) (hown : s.panel.ownership = .panel) (hm : s.seq.manual = none) :
    s.filmMessage inRange taken = taken := by
  rw [State.filmMessage, h, if_neg (by decide), if_neg (not_not.2 hown), if_neg (by simp [hm])]

theorem State.manualMove_short {t : Int} (h : 0 < t) (hfilm : s.seq.film.remaining < t) :
    s.manualMove t = s.refuse .filmLow := by
  rw [State.manualMove, if_pos h, if_pos hfilm]

theorem State.manualMove_forward {t : Int} (h : 0 < t) (hfilm : t ≤ s.seq.film.remaining) :
    s.manualMove t = s.sendManual (.move t) := by
  rw [State.manualMove, if_pos h, if_neg (by omega)]

theorem State.manualMove_reverse {t : Int} (h : 0 < t) (hfilm : 0 < s.seq.film.position) :
    s.manualMove (-t) = s.sendManual (.move (-(min t s.seq.film.position))) := by
  unfold State.manualMove Film.reverseDistance
  dsimp only
  rw [if_neg (by omega), neg_neg, if_pos (lt_min h hfilm)]

theorem State.manualMove_nothing {t : Int} (h : 0 < t) (hfilm : s.seq.film.position = 0) :
    s.manualMove (-t) = s.showWith false (some (.moved 0)) := by
  unfold State.manualMove Film.reverseDistance
  dsimp only
  rw [if_neg (by omega), neg_neg, hfilm, min_eq_right (le_of_lt h), if_neg (lt_irrefl 0)]

end

theorem State.sendManual_eq (s : State) {m : ManualMotion} {x : SeqState} {d : Nat} (hx : m.seqState = x) (hd : m.deadline = d) :
    s.sendManual m = State.markIf { s with
      seq.manual := some { motion := m, expiry := 0, deadline := d, leftHalted := s.seq.state == .halted }
      seq.state := x } (s.seq.state != x) [3] := by
  subst hx hd
  rfl

theorem exec_film (s : State) :
    (∀ x, exec (.filmLoaded x) s
      = (s.filmMessage (decide (1 ≤ x) && decide (x ≤ 1200)) (s.setFilm (Film.load x)).display).done)
    ∧ (∀ t : Int, exec (.panelAdvance t) s
      = (s.filmMessage (decide (1 ≤ t.natAbs) && decide (t.natAbs ≤ 14400)) (s.manualMove t)).done)
    ∧ exec .panelCut s = (s.filmMessage true (s.sendManual .cut)).done := ⟨fun _ => rfl, fun _ => rfl, rfl⟩

/-- Settles O55: each message is refused by the first check that fails, and else taken. -/
theorem operatorMovesTheFilm : Obligations.OperatorMovesTheFilm := by
  intro s hq
  obtain ⟨hloaded, hadvance, hcut⟩ := exec_film s
  have hinch {x : Nat} (h : 1 ≤ x) (h' : x ≤ 1200) : (decide (1 ≤ x) && decide (x ≤ 1200)) = true := by simp [h, h']
  have hmove {t : Int} (h : t ≠ 0) (h' : t.natAbs ≤ 14400) :
      (decide (1 ≤ t.natAbs) && decide (t.natAbs ≤ 14400)) = true := by
    simp [h']
    omega
  refine ⟨fun hroom => ?refused, fun hown hidle => ⟨fun x hlow hhigh => ?load, fun t hpos hlimit hzero => ?nothing, ?ordered⟩⟩
  case refused =>
    have hrefused {r : ReasonWord} {t : State} (ht : t = s.refuse r) : EndsIn t.done (s.refusing r) :=
      ht ▸ State.refused_endsIn hq hroom r
    refine ⟨fun x hx => ?_, fun t ht => ?_, fun hown => ⟨fun x hlow hhigh => ?_, fun t hne hlimit => ?_, ?_⟩,
      fun t hown hidle hfilm hpos hlimit => ?_, fun hown hbusy => ⟨fun x hlow hhigh => ?_, fun t hne hlimit => ?_, ?_⟩⟩
    · rw [hloaded]
      exact hrefused (State.filmMessage_badValue (by simp; omega))
    · rw [hadvance]
      exact hrefused (State.filmMessage_badValue (by simp; omega))
    · rw [hloaded]
      exact hrefused (State.filmMessage_notTaken (hinch hlow hhigh) hown)
    · rw [hadvance]
      exact hrefused (State.filmMessage_notTaken (hmove hne hlimit) hown)
    · rw [hcut]
      exact hrefused (State.filmMessage_notTaken rfl hown)
    · rw [hadvance]
      exact hrefused ((State.filmMessage_taken (hmove (by omega) (by omega)) hown hidle).trans
        (State.manualMove_short hpos hfilm))
    · rw [hloaded]
      exact hrefused (State.filmMessage_busy (hinch hlow hhigh) hown hbusy)
    · rw [hadvance]
      exact hrefused (State.filmMessage_busy (hmove hne hlimit) hown hbusy)
    · rw [hcut]
      exact hrefused (State.filmMessage_busy rfl hown hbusy)
  case load =>
    rw [hloaded, State.filmMessage_taken (hinch hlow hhigh) hown hidle]
    refine ⟨_, State.done_endsIn _ (quiet_of_inner ((State.display_inner _).trans (State.mark_inner _ _)) hq), ?_, ?_, ?_, ?_, ?_⟩
    · rw [State.display_seq, State.setFilm_frame, Film.load]
      simp [ticksPerInch]
    · rfl
    · rfl
    · rfl
    · exact hown
  case nothing =>
    rw [hadvance, State.filmMessage_taken (hmove (by omega) (by omega)) hown hidle, State.manualMove_nothing hpos hzero]
    exact ⟨_, readsOnLine1 s _, State.done_endsIn _ (quiet_of_inner (by simp) hq)⟩
  case ordered =>
    intro c m x d hcase
    have hsend {t : State} (ht : t = s.sendManual m) (hx : m.seqState = x) (hd : m.deadline = d) : EndsIn t.done
        (State.markIf { s with
          seq.manual := some { motion := m, expiry := 0, deadline := d, leftHalted := s.seq.state == .halted }
          seq.state := x } (s.seq.state != x) [3]) := by
      rw [ht, State.sendManual_eq s hx hd]
      exact State.done_endsIn _ (by rw [Quiet, State.markIf_port]; exact hq)
    rcases hcase with ⟨t, rfl, hpos, hlimit, hfilm, rfl, rfl, rfl⟩ | ⟨t, rfl, hpos, hlimit, hfilm, rfl, rfl, rfl⟩
      | ⟨rfl, rfl, rfl, rfl⟩
    · rw [hadvance]
      exact hsend ((State.filmMessage_taken (hmove (by omega) (by omega)) hown hidle).trans
        (State.manualMove_forward hpos hfilm)) rfl rfl
    · rw [hadvance]
      exact hsend ((State.filmMessage_taken (hmove (by omega) (by omega)) hown hidle).trans
        (State.manualMove_reverse hpos hfilm)) rfl rfl
    · rw [hcut]
      exact hsend (State.filmMessage_taken rfl hown hidle) rfl rfl

end Sys2Proof.Machine
end

section
/-! PROOFS. The expiry of a call timer (R58, R59). -/

namespace Sys2Proof.Machine

/-- A change of an entry that no mirror word shows and no FONT WAIT hears of (R47). -/
theorem State.setPosition_unseen {s : State} {p : Fin 8} {e old : Position} (hold : s.font.table[p] = old)
    (hfont : old.font = e.font) (hstate : old.state = e.state) (hreason : old.reason = e.reason) (hage : old.age = e.age)
    (huse : old.inUse = e.inUse) : s.setPosition p e = { s with font.table := s.font.table.set p e } := by
  unfold State.setPosition
  dsimp only
  have hnone : mirrorChanges p old e = [] := by simp [mirrorChanges, hfont, hstate, hreason, hage, huse]
  rw [hold, if_pos ⟨hstate, hfont⟩, hnone]
  rfl

theorem State.refusePosition_font (s : State) (p : Fin 8) (r : Reason) : (s.refusePosition p r).font =
    { s.font with table := s.font.table.set p (s.font.table[p].refusedFor r) } := by
  rw [State.refusePosition_frame, State.refusePosition_table]

theorem callInterval_eq {n : Nat} (h : n ≤ 4) : callInterval n = 5 * 2 ^ n := by
  interval_cases n <;> rfl

/-- A call is shown again: the timer of the entry starts anew, and the call's two messages go out (R58). -/
theorem State.repeatCall_eq {s : State} {p : Fin 8} {e : Position} (he : s.font.table[p] = e) (n : Nat) :
    s.repeatCall p n =
      State.toPanel (State.toPanel
        { s with font.table := s.font.table.set p { e with callStep := n, timer := some (callInterval n) } }
        (.mountCall p e.font e.remove)) (.alarm .sound) := by
  have hset := State.setPosition_unseen (e := { e with callStep := n, timer := some (callInterval n) }) he rfl rfl rfl rfl rfl
  unfold State.repeatCall State.sendCall
  rw [he, hset]
  simp

/-- Settles O48: by the call step and the WAIT mark, in the order of the table of R58. -/
theorem callTimerExpires : Obligations.CallTimerExpires := by
  intro s p hq hreq e called shown
  have hexec : exec (.callTimerExpiry p) s = s.answer (s.onCallTimer p) := rfl
  have htimer : s.onCallTimer p = some (if e.callStep < 4 then s.repeatCall p (e.callStep + 1)
      else if e.wait then s.repeatCall p 4 else (s.refusePosition p .timeout).endCall p) := if_pos hreq
  have hshown (n k : Nat) (hk : callInterval n = k) : s.repeatCall p n =
      { shown with font.table := s.font.table.set p { e with callStep := n, timer := some k } } :=
    hk ▸ State.repeatCall_eq rfl n
  refine ⟨fun hlow => ?_, fun hfour hwait => ?_, fun hfour hwait => ?_⟩
  · rw [hexec, htimer, if_pos hlow, hshown _ _ (callInterval_eq (by omega))]
    exact State.done_endsIn _ hq
  · rw [hexec, htimer, if_neg (by omega), if_pos hwait, hshown 4 80 rfl]
    exact State.done_endsIn _ hq
  · rw [hexec, htimer, if_neg (by omega), if_neg (by simp [hwait])]
    refine ⟨_, State.answer_endsIn (ho := rfl) (quiet_of_inner (by simp) hq), ?_, ?_, ?_, ?_, ?_, ?_, ?_, ?_⟩
    · rw [State.endCall_font, State.refusePosition_font]
      rfl
    · rw [State.endCall_frame]
      exact s.flagSet_refusePosition p .timeout
    · rw [State.endCall_calls, State.refusePosition_frame]
    all_goals rw [State.endCall_frame, State.refusePosition_frame]

end Sys2Proof.Machine
end

section
/-! PROOFS. The Sequencer's orders and halts, and the deadlines (R115, R120 to R123, R132). -/

namespace Sys2Proof.Machine

/-- A message that waits stands when one of another sort is made (R142). -/
theorem mem_unsent_toPanel_of_mem {s : State} {m x : PanelMessage} (h : x ∈ s.panel.unsent)
    (hkept : ∀ l, x ∈ l → x ∈ keptBy m l) : x ∈ (s.toPanel m).panel.unsent := by
  rw [State.toPanel_eq]
  by_cases hsending : s.panel.sending = none
  · have hx : x ∈ keptBy m s.panel.outbound := hkept _ (by simpa [PanelLink.unsent, hsending] using h)
    rw [State.linked_free (by exact hsending)]
    show x ∈ (keptBy m s.panel.outbound ++ [m]).head?.toList ++ (keptBy m s.panel.outbound ++ [m]).tail
    generalize keptBy m s.panel.outbound = l at hx
    cases l with
    | nil => cases hx
    | cons y l =>
      show x ∈ y :: (l ++ [m])
      rw [← List.cons_append]
      exact List.mem_append_left _ hx
  · rw [State.linked_busy (by exact hsending)]
    rcases List.mem_append.1 h with h | h
    · exact List.mem_append_left _ h
    · exact List.mem_append_right _ (List.mem_append_left _ (hkept _ h))

/-! ### What the Sequencer's steps can change while the set queue stands -/

/-- The state `s` with the Sequencer, the ownership, the messages to the panel, the event flags and the change marks
taken from `t`. -/
def State.seqFrom (s t : State) : State :=
  { s with
    seq := t.seq
    panel.outbound := t.panel.outbound
    panel.sending := t.panel.sending
    panel.ownership := t.panel.ownership
    status.flags := t.status.flags
    status.marks := t.status.marks }

/-- The two states differ in nothing else. -/
def SeqFrame (s t : State) : Prop := t = s.seqFrom t

namespace SeqFrame

theorem refl (s : State) : SeqFrame s s := rfl

theorem trans {s t u : State} (h : SeqFrame s t) (h' : SeqFrame t u) : SeqFrame s u :=
  Eq.trans h' (show t.seqFrom u = (s.seqFrom t).seqFrom u from congrArg (State.seqFrom · u) h)

theorem seq (s : State) (q : Sequencer) : SeqFrame s { s with seq := q } := rfl

section
variable {s t : State} (h : SeqFrame s t)
include h
theorem queue : t.queue = s.queue := (congrArg State.queue h :)
theorem mem : t.mem = s.mem := (congrArg State.mem h :)
theorem port : t.port = s.port := (congrArg State.port h :)
theorem intake : t.intake = s.intake := (congrArg State.intake h :)
theorem composer : t.composer = s.composer := (congrArg State.composer h :)
theorem font : t.font = s.font := (congrArg State.font h :)
theorem exposure : t.exposure = s.exposure := (congrArg State.exposure h :)
theorem waitingReport : t.waitingReport = s.waitingReport := (congrArg State.waitingReport h :)
theorem proof : t.proof = s.proof := (congrArg State.proof h :)
theorem hyph : t.hyph = s.hyph := (congrArg State.hyph h :)
theorem panel : t.panel = { s.panel with
    outbound := t.panel.outbound, sending := t.panel.sending, ownership := t.panel.ownership } := congrArg State.panel h
theorem status : t.status = { s.status with flags := t.status.flags, marks := t.status.marks } := congrArg State.status h
theorem quiet (hq : Quiet s) : Quiet t := by rw [Quiet, h.port]; exact hq
end

end SeqFrame

theorem State.mark_seqFrame (s : State) (l : List Nat) : SeqFrame s (s.mark l) := rfl

theorem State.markIf_seqFrame (s : State) (b : Bool) (l : List Nat) : SeqFrame s (s.markIf b l) := by
  rw [SeqFrame, s.markIf_frame b l]; rfl

theorem State.raise_seqFrame (s : State) (f : EventFlag) : SeqFrame s (s.raise f) := by
  rw [SeqFrame, s.raise_frame f]; rfl

theorem State.toPanel_seqFrame (s : State) (m : PanelMessage) : SeqFrame s (s.toPanel m) := by
  rw [SeqFrame, s.toPanel_frame m]; rfl

theorem State.display_seqFrame (s : State) : SeqFrame s s.display := s.toPanel_seqFrame _

theorem State.alarmOnce_seqFrame (s : State) : SeqFrame s s.alarmOnce := by
  rw [SeqFrame, s.alarmOnce_frame]; rfl

theorem State.setOwnership_seqFrame (s : State) (o : Ownership) : SeqFrame s (s.setOwnership o) := by
  rw [SeqFrame, s.setOwnership_frame o]; rfl

theorem State.ownBy_seqFrame (s : State) (o : Ownership) : SeqFrame s (s.ownBy o) := by
  rw [SeqFrame, s.ownBy_frame o]; rfl

theorem State.setSeq_seqFrame (s : State) (x : SeqState) : SeqFrame s (s.setSeq x) :=
  (SeqFrame.seq s _).trans (State.markIf_seqFrame _ _ _)

theorem State.setHalt_seqFrame (s : State) (k : Option HaltKind) : SeqFrame s (s.setHalt k) :=
  (SeqFrame.seq s _).trans (State.markIf_seqFrame _ _ _)

theorem State.sendOrder_seqFrame (s : State) (a : Action) (o : Order) : SeqFrame s (s.sendOrder a o) :=
  (SeqFrame.seq s _).trans (State.setSeq_seqFrame _ _)

theorem State.haltAt_seqFrame (s : State) (k : HaltKind) (a : Action) : SeqFrame s (s.haltAt k a) := by
  unfold State.haltAt
  dsimp only
  refine SeqFrame.trans ?_ (State.alarmOnce_seqFrame _)
  have hraised := (((SeqFrame.seq s _).trans (State.setSeq_seqFrame { s with
    seq := { s.seq.forget k with failed := some a, action := none, order := none, deadline := none } } .halted)).trans
    (State.setHalt_seqFrame _ (some k))).trans (State.raise_seqFrame _ k.flag)
  split
  · exact hraised.trans (State.display_seqFrame _)
  · exact hraised.trans (State.setOwnership_seqFrame _ _)

/-! ### The Sequencer after its steps -/

@[simp] theorem State.setOwnership_seq (s : State) (o : Ownership) : (s.setOwnership o).seq = s.seq :=
  (congrArg State.seq (s.setOwnership_frame o) :)

@[simp] theorem State.setOwnership_ownership (s : State) (o : Ownership) : (s.setOwnership o).panel.ownership = o := by
  unfold State.setOwnership
  split
  next h => exact h
  next => simp

@[simp] theorem State.alarmOnce_seq (s : State) : s.alarmOnce.seq = s.seq := (congrArg State.seq s.alarmOnce_frame :)

@[simp] theorem State.alarmOnce_ownership (s : State) : s.alarmOnce.panel.ownership = s.panel.ownership := by
  rw [s.alarmOnce_frame]

@[simp] theorem State.alarmOnce_status (s : State) : s.alarmOnce.status = s.status :=
  (congrArg State.status s.alarmOnce_frame :)

theorem State.setSeq_seq (s : State) (x : SeqState) : (s.setSeq x).seq = { s.seq with state := x } := by
  unfold State.setSeq
  rw [State.markIf_frame]

theorem State.setHalt_seq (s : State) (k : Option HaltKind) : (s.setHalt k).seq = { s.seq with halt := k } := by
  unfold State.setHalt
  rw [State.markIf_frame]

theorem State.sendOrder_seq (s : State) (a : Action) (o : Order) : (s.sendOrder a o).seq =
    { s.seq with state := o.seqState, action := some a, order := some o, deadline := some o.deadline, expiry := 0 } :=
  State.setSeq_seq _ _

/-- All that an order sent changes. -/
theorem State.sendOrder_frame (s : State) (a : Action) (o : Order) : s.sendOrder a o = { s with
    seq := { s.seq with state := o.seqState, action := some a, order := some o, deadline := some o.deadline, expiry := 0 }
    status.marks := (s.sendOrder a o).status.marks } := by
  rw [← State.sendOrder_seq]
  unfold State.sendOrder
  rw [State.setSeq_frame]

theorem State.setSeq_markIf (s : State) (x : SeqState) :
    s.setSeq x = State.markIf { s with seq.state := x } (s.seq.state != x) [3] := rfl

/-! ### Halts (R123) -/

theorem State.haltAt_seq (s : State) (k : HaltKind) (a : Action) : (s.haltAt k a).seq =
    { s.seq.forget k with
      failed := some a, action := none, order := none, deadline := none, state := .halted, halt := some k } := by
  unfold State.haltAt
  dsimp only
  rw [State.alarmOnce_seq]
  split
  all_goals simp [State.setHalt_seq, State.setSeq_seq]

theorem State.haltAt_ownership (s : State) (k : HaltKind) (a : Action) : (s.haltAt k a).panel.ownership = .panel := by
  unfold State.haltAt
  dsimp only
  rw [State.alarmOnce_ownership]
  split
  next h => exact h
  next => simp

theorem State.flagSet_setOwnership_mono {s : State} {f : EventFlag} (h : s.flagSet f = true) (o : Ownership) :
    (s.setOwnership o).flagSet f = true := by
  unfold State.setOwnership
  split
  · exact h
  · exact (State.flagSet_raise _ _ _).trans (by rw [Bool.or_eq_true]; exact .inl h)

theorem State.flagSet_haltAt (s : State) (k : HaltKind) (a : Action) : (s.haltAt k a).flagSet k.flag = true := by
  unfold State.haltAt
  dsimp only
  have hraised (t : State) : (t.raise k.flag).flagSet k.flag = true := State.flagSet_raise_same _ _
  rw [State.flagSet, State.alarmOnce_status]
  split
  · exact hraised _
  · exact State.flagSet_setOwnership_mono (hraised _) _

/-! ### Manual motions (R131, R132) -/

theorem State.leaveManual_frame (s : State) (m : Manual) : s.leaveManual m = { s with
    seq := { s.seq with manual := none, state := if m.leftHalted then .halted else .idle }
    status.marks := (s.leaveManual m).status.marks } := by
  unfold State.leaveManual
  rw [State.setSeq_frame, State.setSeq_seq]

theorem State.leaveManual_seqFrame (s : State) (m : Manual) : SeqFrame s (s.leaveManual m) :=
  (SeqFrame.seq s _).trans (State.setSeq_seqFrame _ _)

/-- In PANEL ownership neither an entry starts nor does a halted Sequencer go on (R116, R124). -/
theorem State.starts_of_panel {s : State} (h : s.panel.ownership = .panel) : s.starts = s := by
  have hcan : s.canStart = false := by
    unfold State.canStart
    rw [h]
    simp
  unfold State.starts State.startsFuel
  simp [hcan]

theorem State.goOn_of_panel {s : State} (h : s.panel.ownership = .panel) : s.goOn = s := by
  unfold State.goOn
  split
  · exact State.starts_of_panel h
  · exact if_pos h
  · rfl

/-- A manual motion abandoned in PANEL ownership (R132). -/
theorem State.abandonManual_of_panel {s : State} (m : Manual) (h : s.panel.ownership = .panel) :
    SeqFrame s (s.abandonManual m)
      ∧ (s.abandonManual m).seq = { s.seq with manual := none, state := if m.leftHalted then .halted else .idle }
      ∧ (s.abandonManual m).panel.ownership = .panel ∧ (s.abandonManual m).flagSet .unitFault = true
      ∧ .refused m.motion.faultWord ∈ (s.abandonManual m).panel.unsent := by
  have hleft := s.leaveManual_frame m
  have hkept := s.leaveManual_seqFrame m
  unfold State.abandonManual
  generalize s.leaveManual m = t at hleft hkept
  have hpanel : (t.refuse m.motion.faultWord).panel.ownership = .panel := by
    rw [State.refuse_frame, hleft]
    exact h
  have hunsent : .refused m.motion.faultWord ∈ (t.refuse m.motion.faultWord).panel.unsent := mem_unsent_toPanel _ _
  have hraised := State.raise_frame (t.refuse m.motion.faultWord) .unitFault
  have hpanel' : ((t.refuse m.motion.faultWord).raise .unitFault).panel = (t.refuse m.motion.faultWord).panel := by
    rw [hraised]
  rw [State.goOn_of_panel (by rw [hpanel']; exact hpanel), hpanel']
  refine ⟨(hkept.trans (State.toPanel_seqFrame _ _)).trans (State.raise_seqFrame _ _), ?_, hpanel,
    State.flagSet_raise_same _ _, hunsent⟩
  rw [hraised, State.refuse_frame, hleft]

/-! ### Deadlines (R120, R123, R132) -/

theorem Order.deadline_haltKind {o : Order} {d : Nat} {k : HaltKind}
    (h : (∃ p, o = .shift p) ∧ d = 2 ∧ k = .shift ∨ (∃ i, o = .lens i) ∧ d = 2 ∧ k = .lens
      ∨ (∃ x, o = .step x) ∧ d = 2 ∧ k = .step ∨ (∃ m c, o = .move m c) ∧ d = 10 ∧ k = .filmDrive
      ∨ o = .cut ∧ d = 5 ∧ k = .cutter) : o.isMotion = true ∧ o.deadline = d ∧ o.haltKind = k ∧ k.flag = .unitFault := by
  rcases h with ⟨⟨p, rfl⟩, rfl, rfl⟩ | ⟨⟨i, rfl⟩, rfl, rfl⟩ | ⟨⟨x, rfl⟩, rfl, rfl⟩ | ⟨⟨m, c, rfl⟩, rfl, rfl⟩ | ⟨rfl, rfl, rfl⟩
  all_goals exact ⟨rfl, rfl, rfl, rfl⟩

theorem Sequencer.forget_halted (q : Sequencer) (k : HaltKind) : (q.forget k).item = q.item
    ∧ (k = .shift → (q.forget k).shifted = none) ∧ (k = .lens → (q.forget k).lens = none)
    ∧ (k = .step → (q.forget k).escapement = none) := by
  cases k
  all_goals exact ⟨rfl, fun h => by cases h <;> rfl, fun h => by cases h <;> rfl, fun h => by cases h <;> rfl⟩

/-- Settles O51: an entry's motion and a manual one, at the first expiry and at the second. -/
theorem deadlinesRetryThenHalt : Obligations.DeadlinesRetryThenHalt := by
  refine fun s hq => ⟨fun o d k ho hcase => ?entry, fun m hm => ?manual⟩
  case entry =>
    obtain ⟨hmotion, rfl, rfl, hflag⟩ := Order.deadline_haltKind hcase
    have hexec : exec .motionDeadlineExpiry s = s.answer s.onDeadline := rfl
    have hdue : s.onDeadline = some (if s.seq.expiry = 0 then
        { s with seq.expiry := 1, seq.deadline := some o.deadline }
      else s.haltAt o.haltKind (s.seq.action.getD .step)) := by
      unfold State.onDeadline State.motion
      rw [ho, Option.filter_some_pos hmotion]
      rfl
    rw [hexec]
    refine ⟨fun hfirst => ?_, fun hsecond => ?_⟩
    · rw [hdue, if_pos hfirst]
      exact State.done_endsIn _ hq
    · rw [hdue, if_neg hsecond]
      have hframe := s.haltAt_seqFrame o.haltKind (s.seq.action.getD .step)
      have hseq := s.haltAt_seq o.haltKind (s.seq.action.getD .step)
      have hraised := s.flagSet_haltAt o.haltKind (s.seq.action.getD .step)
      obtain ⟨hitem, hshift, hlens, hstep⟩ := s.seq.forget_halted o.haltKind
      refine ⟨_, State.done_endsIn _ (hframe.quiet hq), ?_⟩
      rw [hseq, hframe.queue, hframe.mem, hframe.intake]
      exact ⟨rfl, rfl, rfl, rfl, Sequencer.forget_film _ _, hshift, hlens, hstep, hitem, rfl, s.haltAt_ownership _ _,
        hflag ▸ hraised, rfl, rfl⟩
  case manual =>
    have hexec : exec .manualDeadlineExpiry s = s.answer s.onManualDeadline := rfl
    have hdue : s.onManualDeadline = some (if m.expiry = 0 then
        { s with seq.manual := some { m with expiry := 1, deadline := m.motion.deadline } } else s.abandonManual m) := by
      unfold State.onManualDeadline
      rw [hm]
      rfl
    rw [hexec]
    refine ⟨fun hfirst => ?_, fun hsecond hpanel => ?_⟩
    · rw [hdue, if_pos hfirst]
      cases m.motion <;> exact State.done_endsIn _ hq
    · obtain ⟨hframe, hseq, hown, hset, hunsent⟩ := State.abandonManual_of_panel (s := s) m hpanel
      rw [hdue, if_neg hsecond]
      refine ⟨_, State.done_endsIn _ (hframe.quiet hq), ?_⟩
      rw [hseq, hframe.queue, hframe.mem]
      obtain ⟨motion, expiry, deadline, leftHalted⟩ := m
      cases motion <;> exact ⟨rfl, rfl, rfl, hset, hunsent, hown, rfl, rfl⟩

end Sys2Proof.Machine
end

section
/-! PROOFS. The work of an entry in exposure: its motions, its characters and its completion (R109 to R112, R116 to R122,
R127 to R129). -/

namespace Sys2Proof.Machine

/-! ### What a completion can change -/

/-- The state `s` with all that the Sequencer's events can change taken from `t`. -/
def State.photoFrom (s t : State) : State :=
  { s with
    seq := t.seq
    queue := t.queue
    exposure := t.exposure
    waitingReport := t.waitingReport
    font.table := t.font.table
    composer.fontWait := t.composer.fontWait
    panel.outbound := t.panel.outbound
    panel.sending := t.panel.sending
    panel.ownership := t.panel.ownership
    status := t.status }

/-- The two states differ in nothing else. -/
def PhotoFrame (s t : State) : Prop := t = s.photoFrom t

namespace PhotoFrame

theorem refl (s : State) : PhotoFrame s s := rfl

theorem trans {s t u : State} (h : PhotoFrame s t) (h' : PhotoFrame t u) : PhotoFrame s u :=
  Eq.trans h' (show t.photoFrom u = (s.photoFrom t).photoFrom u from congrArg (State.photoFrom · u) h)

theorem of_seqFrame {s t : State} (h : SeqFrame s t) : PhotoFrame s t :=
  Eq.trans h (show s.seqFrom t = s.photoFrom (s.seqFrom t) from rfl) |>.trans (congrArg s.photoFrom h.symm)

section
variable {s t : State} (h : PhotoFrame s t)
include h
theorem mem : t.mem = s.mem := (congrArg State.mem h :)
theorem port : t.port = s.port := (congrArg State.port h :)
theorem intake : t.intake = s.intake := (congrArg State.intake h :)
theorem proof : t.proof = s.proof := (congrArg State.proof h :)
theorem hyph : t.hyph = s.hyph := (congrArg State.hyph h :)
theorem quiet (hq : Quiet s) : Quiet t := by rw [Quiet, h.port]; exact hq
end

end PhotoFrame

/-! ### Marks posted (R109) -/

theorem State.postMark_eq (s : State) (v : Word) : ∃ marks flags, s.postMark v = { s with
    status := { s.status with
      markValue := v, markCount := s.status.markCount + 1, marks := marks, flags := flags } } := by
  unfold State.postMark State.raise
  split
  · exact ⟨_, _, rfl⟩
  · exact ⟨_, _, rfl⟩

/-- The marks of a list are posted one after another: the mark cell keeps the last (R109). -/
theorem State.postMarks_eq (s : State) (l : List Word) : ∃ marks flags, s.postMarks l = { s with
    status := { s.status with
      markValue := l.getLast?.getD s.status.markValue, markCount := s.status.markCount + BitVec.ofNat 16 l.length,
      marks := marks, flags := flags } } := by
  unfold State.postMarks
  induction l generalizing s with
  | nil => exact ⟨s.status.marks, s.status.flags, by simp⟩
  | cons v l ih =>
    obtain ⟨marks, flags, hpost⟩ := s.postMark_eq v
    obtain ⟨marks', flags', hrest⟩ := ih (s.postMark v)
    refine ⟨marks', flags', ?_⟩
    rw [List.foldl_cons, hrest, hpost]
    have hlast : (v :: l).getLast?.getD s.status.markValue = l.getLast?.getD v := by
      cases l <;> simp [List.getLast?_cons]
    have hcount : s.status.markCount + BitVec.ofNat 16 (v :: l).length =
        s.status.markCount + 1 + BitVec.ofNat 16 l.length := by
      rw [List.length_cons, BitVec.add_assoc, Nat.add_comm, BitVec.ofNat_add]
      rfl
    rw [hlast, hcount]

/-! ### The exposure record (R109, R110, R112) -/

theorem State.reachesRecord_iff (s : State) (t : Option JobTag) :
    s.reachesRecord t = true ↔ t ≠ none ∧ t = s.exposure.tag := by
  simp [State.reachesRecord, Option.isSome_iff_ne_none]

/-- The exposure record once the work of the entry `e` has been completed (R109, R112). -/
def Entry.recordAfter (e : Entry) (x : Exposure) : Exposure :=
  match e.kind with
  | .line _ => if e.tag ≠ none ∧ e.tag = x.tag then { x with lines := nextCount x.lines } else x
  | .jobEnd _ => Exposure.none
  | _ => x

/-- What the completion of the entry `e` does to the exposure record, and the report written from it (R109, R112). -/
def State.recordDone (s : State) (e : Entry) : State :=
  match e.kind with
  | .line _ => s.countLineExposed e.tag
  | .jobEnd j => s.reportJobEnd e.tag j
  | _ => s

theorem State.setExposure_exposure (s : State) (x : Exposure) : (s.setExposure x).exposure = x := by
  unfold State.setExposure
  dsimp only
  split
  · rw [State.markIf_frame]
  · show (State.markIf { s with exposure := x } (s.exposure.lines != x.lines) [8]).exposure = x
    rw [State.markIf_frame]

theorem State.countLineExposed_frame (s : State) (t : Option JobTag) : ∃ marks, s.countLineExposed t = { s with
    exposure := if t ≠ none ∧ t = s.exposure.tag then { s.exposure with lines := nextCount s.exposure.lines } else s.exposure
    status.marks := marks } := by
  by_cases h : s.reachesRecord t = true
  · rw [if_pos ((s.reachesRecord_iff t).1 h)]
    unfold State.countLineExposed State.setExposure
    dsimp only
    rw [if_pos h, if_pos rfl, State.markIf_frame]
    exact ⟨_, rfl⟩
  · rw [if_neg (fun hown => h ((s.reachesRecord_iff t).2 hown))]
    unfold State.countLineExposed
    rw [if_neg h]
    exact ⟨_, rfl⟩

/-- The report of a completed JOBEND and the reset of the record (R112). -/
theorem State.reportJobEnd_frame (s : State) (t : Option JobTag) (j : JobEndEntry) :
    s.reportJobEnd t j = { s with
      exposure := Exposure.none
      panel.outbound := (s.reportJobEnd t j).panel.outbound
      panel.sending := (s.reportJobEnd t j).panel.sending
      status := { s.status with
        reports := s.status.reports.set s.status.nextSlot
          { job := j.job, outcome := some j.outcome, linesSet := j.linesSet, sumComputed := j.sumComputed, sumGiven := j.sumGiven
            linesExposed := if s.reachesRecord t then s.exposure.lines else 0
            film := if s.reachesRecord t then s.exposure.film else 0
            flags := { j.flags with clamped := j.flags.clamped || (s.reachesRecord t && s.exposure.clamped) } }
        nextSlot := s.status.nextSlot + 1
        marks := (s.reportJobEnd t j).status.marks
        flags := (s.reportJobEnd t j).status.flags } } := by
  have hexposure : (s.reportJobEnd t j).exposure = Exposure.none := State.setExposure_exposure _ _
  rw [← hexposure]
  unfold State.reportJobEnd
  dsimp only
  generalize ({ job := j.job, .. } : Report) = r
  rw [State.setExposure_frame]
  unfold State.writeReport
  dsimp only
  rw [State.raise_frame]
  rfl

theorem State.flagSet_reportJobEnd (s : State) (t : Option JobTag) (j : JobEndEntry) :
    (s.reportJobEnd t j).flagSet .jobReport = true := by
  unfold State.reportJobEnd
  dsimp only
  rw [State.setExposure_frame]
  exact State.flagSet_raise_same _ _

/-! ### An entry completed (R109, R116) -/

/-- What the completion of the only entry of the queue leads to (R108, R109, R112, R116, R125). -/
structure Completes (s t : State) (e : Entry) : Prop where
  frame : PhotoFrame s t
  seq : t.seq = { s.seq with item := none, action := none, order := none, deadline := none, state := .idle }
  queue : t.queue = if e.proof = .proofed then [] else [{ e with photo := .exposed }]
  exposure : t.exposure = e.recordAfter s.exposure
  ownership : t.panel.ownership = if s.panel.ownership = .taking then .panel else s.panel.ownership
  markCount : t.status.markCount = s.status.markCount + BitVec.ofNat 16 e.marks.length
  markValue : t.status.markValue = e.marks.getLast?.getD s.status.markValue
  report (j : JobEndEntry) (hj : e.kind = .jobEnd j) : t.flagSet .jobReport = true
    ∧ t.status.nextSlot = s.status.nextSlot + 1
    ∧ t.status.reports = s.status.reports.set s.status.nextSlot
        { job := j.job, outcome := some j.outcome, linesSet := j.linesSet, sumComputed := j.sumComputed, sumGiven := j.sumGiven
          linesExposed := if s.reachesRecord e.tag then s.exposure.lines else 0
          film := if s.reachesRecord e.tag then s.exposure.film else 0
          flags := { j.flags with clamped := j.flags.clamped || (s.reachesRecord e.tag && s.exposure.clamped) } }

theorem State.queueComplete_eq {s : State} (e : Entry) (hw : s.waitingReport = none) :
    s.queueComplete e = ((s.markExposed.postMarks e.marks).recordDone e).releaseDone := by
  have hnone : ((s.markExposed.postMarks e.marks).recordDone e).waitingReport = none := by
    obtain ⟨_, _, hpost⟩ := s.markExposed.postMarks_eq e.marks
    unfold State.recordDone
    cases e.kind with
    | line l =>
      obtain ⟨_, hcount⟩ := State.countLineExposed_frame (s.markExposed.postMarks e.marks) e.tag
      show (State.countLineExposed _ _).waitingReport = none
      rw [hcount, hpost]
      exact hw
    | jobEnd j =>
      show (State.reportJobEnd _ _ _).waitingReport = none
      rw [State.reportJobEnd_frame, hpost]
      exact hw
    | move | cut =>
      rw [hpost]
      exact hw
  unfold State.recordDone at hnone ⊢
  unfold State.queueComplete
  cases hk : e.kind with
  | line | jobEnd | move | cut =>
    rw [hk] at hnone
    dsimp only at hnone ⊢
    rw [hnone]

/-- All that the completion of an entry does to the record and the report ring (R109, R112). -/
theorem State.recordDone_frame (s : State) (e : Entry) : s.recordDone e = { s with
    exposure := e.recordAfter s.exposure
    panel.outbound := (s.recordDone e).panel.outbound
    panel.sending := (s.recordDone e).panel.sending
    status := { s.status with
      reports := (s.recordDone e).status.reports
      nextSlot := (s.recordDone e).status.nextSlot
      marks := (s.recordDone e).status.marks
      flags := (s.recordDone e).status.flags } } := by
  unfold State.recordDone Entry.recordAfter
  cases e.kind with
  | line l =>
    obtain ⟨_, hcount⟩ := s.countLineExposed_frame e.tag
    dsimp only
    rw [hcount]
  | jobEnd j =>
    dsimp only
    rw [State.reportJobEnd_frame]
  | move | cut => rfl

theorem State.inExposure_one {s : State} {e : Entry} (hqueue : s.queue = [e]) (he : e.photo = .inExposure) :
    s.inExposure = some e := by
  unfold State.inExposure
  rw [hqueue]
  simp [he]

/-- The queue of one entry once the photounit has exposed it (R108). -/
theorem done_exposed (e : Entry) : [{ e with photo := PhotoState.exposed }].filter (fun x => !x.done) =
    if e.proof = .proofed then [] else [{ e with photo := .exposed }] := by
  by_cases h : e.proof = .proofed <;> simp [Entry.done, h]

/-- What the Set Queue does when the only entry is completed. -/
theorem State.queueComplete_one {s : State} {e : Entry} (hqueue : s.queue = [e]) (he : e.photo = .inExposure)
    (hw : s.waitingReport = none) : s.queueComplete e = { s with
      queue := if e.proof = .proofed then [] else [{ e with photo := .exposed }]
      exposure := e.recordAfter s.exposure
      font.table := (s.queueComplete e).font.table
      composer.fontWait := (s.queueComplete e).composer.fontWait
      panel.outbound := (s.queueComplete e).panel.outbound
      panel.sending := (s.queueComplete e).panel.sending
      status := { s.status with
        markCount := s.status.markCount + BitVec.ofNat 16 e.marks.length
        markValue := e.marks.getLast?.getD s.status.markValue
        reports := (s.queueComplete e).status.reports
        nextSlot := (s.queueComplete e).status.nextSlot
        marks := (s.queueComplete e).status.marks
        flags := (s.queueComplete e).status.flags } } := by
  have hexposed : s.markExposed = { s with queue := [{ e with photo := .exposed }] } := by
    unfold State.markExposed modifyFirst
    rw [hqueue]
    simp [he]
  obtain ⟨_, _, hpost⟩ := s.markExposed.postMarks_eq e.marks
  rw [State.queueComplete_eq e hw]
  have hrecord := State.recordDone_frame (s.markExposed.postMarks e.marks) e
  generalize (s.markExposed.postMarks e.marks).recordDone e = u at hrecord
  have hreleased := u.releaseDone_frame
  generalize u.releaseDone = t at hreleased
  rw [hpost, hexposed] at hrecord
  have hleft : u.queue.filter (fun x => !x.done) = if e.proof = .proofed then [] else [{ e with photo := .exposed }] := by
    rw [hrecord]
    exact done_exposed e
  rw [hreleased, hleft, hrecord]

/-- The report a JOBEND leaves in the ring (R112, R193). -/
theorem State.queueComplete_report {s : State} {e : Entry} {j : JobEndEntry} (hk : e.kind = .jobEnd j)
    (hw : s.waitingReport = none) : (s.queueComplete e).flagSet .jobReport = true
      ∧ (s.queueComplete e).status.nextSlot = s.status.nextSlot + 1
      ∧ (s.queueComplete e).status.reports = s.status.reports.set s.status.nextSlot
        { job := j.job, outcome := some j.outcome, linesSet := j.linesSet, sumComputed := j.sumComputed, sumGiven := j.sumGiven
          linesExposed := if s.reachesRecord e.tag then s.exposure.lines else 0
          film := if s.reachesRecord e.tag then s.exposure.film else 0
          flags := { j.flags with clamped := j.flags.clamped || (s.reachesRecord e.tag && s.exposure.clamped) } } := by
  obtain ⟨_, _, hpost⟩ := s.markExposed.postMarks_eq e.marks
  have hrecord : (s.markExposed.postMarks e.marks).recordDone e = (s.markExposed.postMarks e.marks).reportJobEnd e.tag j := by
    unfold State.recordDone
    rw [hk]
  rw [State.queueComplete_eq e hw, hrecord]
  have hflag := State.flagSet_reportJobEnd (s.markExposed.postMarks e.marks) e.tag j
  have hframe := State.reportJobEnd_frame (s.markExposed.postMarks e.marks) e.tag j
  generalize (s.markExposed.postMarks e.marks).reportJobEnd e.tag j = u at hflag hframe
  have hreleased := u.releaseDone_frame
  generalize u.releaseDone = t at hreleased
  rw [hpost] at hframe
  rw [hreleased]
  refine ⟨hflag, ?_, ?_⟩
  · rw [hframe]
    rfl
  · rw [hframe]
    rfl

theorem State.completeEntry_eq {s : State} {e : Entry} (he : s.inExposure = some e) : s.completeEntry =
    let t := State.setSeq { s.queueComplete e with
      seq := { (s.queueComplete e).seq with item := none, action := none, order := none, deadline := none } } .idle
    if t.panel.ownership = .taking then t.setOwnership .panel else t := by
  unfold State.completeEntry
  rw [he]

/-- The completion of the only entry (R109, R116, R125). -/
theorem State.completeEntry_completes {s : State} {e : Entry} (hqueue : s.queue = [e]) (he : e.photo = .inExposure)
    (hw : s.waitingReport = none) : Completes s s.completeEntry e := by
  have hone := State.queueComplete_one hqueue he hw
  have hreport := fun j (hj : e.kind = .jobEnd j) => State.queueComplete_report (s := s) hj hw
  rw [State.completeEntry_eq (State.inExposure_one hqueue he)]
  generalize s.queueComplete e = u at hone hreport
  dsimp only
  have hidle := State.setSeq_frame { u with
      seq := { u.seq with item := none, action := none, order := none, deadline := none } } .idle
  rw [State.setSeq_seq] at hidle
  generalize State.setSeq { u with
      seq := { u.seq with item := none, action := none, order := none, deadline := none } } .idle = v at hidle
  split
  next htaking =>
    have howned := v.setOwnership_frame .panel
    have hpanel := v.setOwnership_ownership .panel
    have hmono := fun f (h : v.flagSet f = true) => State.flagSet_setOwnership_mono h .panel
    generalize v.setOwnership .panel = t at howned hpanel hmono
    have htaking' : s.panel.ownership = .taking := by
      rw [hidle, hone] at htaking
      exact htaking
    refine ⟨?_, ?_, ?_, ?_, hpanel.trans (if_pos htaking').symm, ?_, ?_, fun j hj => ?_⟩
    case refine_7 =>
      obtain ⟨hflag, hslot, hreports⟩ := hreport j hj
      refine ⟨hmono _ ?_, ?_⟩
      · rw [hidle]
        exact hflag
      · rw [howned, hidle]
        exact ⟨hslot, hreports⟩
    all_goals rw [howned, hidle, hone]
    rfl
  next htaking =>
    have htaking' : s.panel.ownership ≠ .taking := by
      rw [hidle, hone] at htaking
      exact htaking
    rw [hidle]
    refine ⟨?_, ?_, ?_, ?_, ?_, ?_, ?_, hreport⟩
    case refine_5 => rw [hone, if_neg htaking']
    all_goals rw [hone]
    rfl

end Sys2Proof.Machine
end

section
/-! PROOFS. Entries started, motions confirmed and flashes seen (R116 to R122). -/

namespace Sys2Proof.Machine

/-! ### Starts (R116) -/

theorem State.canStart_iff (s : State) : s.canStart = true ↔
    s.seq.state = .idle ∧ s.panel.ownership = .copy ∧ ∃ e ∈ s.queue, e.photo = .waiting := by
  simp [State.canStart, and_assoc]

theorem State.starts_of_not {s : State} (h : ¬ s.canStart = true) : s.starts = s := by
  unfold State.starts State.startsFuel
  exact if_neg h

theorem State.starts_of_busy {s : State} (h : s.seq.state ≠ .idle) : s.starts = s :=
  State.starts_of_not fun hcan => h ((s.canStart_iff.1 hcan).1)

theorem State.starts_of_none {s : State} (h : ∀ e ∈ s.queue, e.photo ≠ .waiting) : s.starts = s :=
  State.starts_of_not fun hcan => by
    obtain ⟨-, -, e, he, hwaiting⟩ := s.canStart_iff.1 hcan
    exact h e he hwaiting

theorem State.starts_once {s : State} (h : s.canStart = true) (hnext : ¬ s.startEntry.canStart = true) :
    s.starts = s.startEntry := by
  unfold State.starts State.startsFuel
  rw [if_pos h]
  unfold State.startsFuel
  exact if_neg hnext

theorem Completes.not_waiting {s t : State} {e : Entry} (h : Completes s t e) : ∀ x ∈ t.queue, x.photo ≠ .waiting :=
  fun x hx => by
    rw [h.queue] at hx
    split at hx
    · cases hx
    · rw [List.mem_singleton.1 hx]
      exact fun hwaiting => by cases hwaiting

theorem Completes.starts {s t : State} {e : Entry} (h : Completes s t e) : t.starts = t :=
  State.starts_of_none h.not_waiting

/-! ### The characters of a LINE (R117, R118) -/

theorem nextCharFrom_none {l : List SetItem} (h : ∀ y ∈ l, ∀ c a w, y.item ≠ .char c a w) (i : Nat) :
    nextCharFrom i l = none := by
  induction l generalizing i with
  | nil => rfl
  | cons x l ih =>
    have hx := h x List.mem_cons_self
    unfold nextCharFrom
    split
    next c a w hi => exact absurd hi (hx c a w)
    next => exact ih (fun y hy => h y (List.mem_cons_of_mem _ hy)) _

theorem nextCharFrom_append {before after : List SetItem} {y : SetItem} {c w : Nat} {a : Attr}
    (h : ∀ y ∈ before, ∀ c a w, y.item ≠ .char c a w) (hy : y.item = .char c a w) (i : Nat) :
    nextCharFrom i (before ++ y :: after) = some (i + before.length) := by
  induction before generalizing i with
  | nil =>
    rw [List.nil_append, nextCharFrom, hy]
    rfl
  | cons x l ih =>
    have hx := h x List.mem_cons_self
    rw [List.cons_append, nextCharFrom]
    split
    next c a w hi => exact absurd hi (hx c a w)
    next =>
      rw [ih (fun y hy => h y (List.mem_cons_of_mem _ hy)), List.length_cons]
      congr 1
      omega

theorem State.charAt_of_char {s : State} {e : Entry} {i c w : Nat} {a : Attr} {x wide : Int} (he : s.inExposure = some e)
    (hi : e.kind.items[i]? = some { item := .char c a w, pos := x, width := wide }) :
    s.charAt i = some (a.pos, a.lens, x) := by
  unfold State.charAt
  rw [he]
  dsimp only
  rw [hi]

/-- The action a character needs next is ordered; its state is posted when it is another (R117, R118). -/
theorem State.charAction_eq (s : State) (p i : Fin 8) (x : Int) : s.charAction p i x =
    State.markIf { s with seq := s.seq.ordering p i x } (s.seq.state != (s.seq.ordering p i x).state) [3] := by
  have hsend (a : Action) (o : Order) : s.sendOrder a o = State.markIf { s with
      seq := { s.seq with state := o.seqState, action := some a, order := some o, deadline := some o.deadline, expiry := 0 } }
      (s.seq.state != o.seqState) [3] := rfl
  unfold State.charAction
  by_cases hp : s.seq.shifted ≠ some p
  · have hordering : s.seq.ordering p i x = { s.seq with
        state := .shifting, action := some .shift, order := some (.shift p), deadline := some 2, expiry := 0 } := by
      simp [Sequencer.ordering, hp]
    rw [if_pos hp, hsend, hordering]
    rfl
  by_cases hl : s.seq.lens ≠ some i
  · have hordering : s.seq.ordering p i x = { s.seq with
        state := .lens, action := some .lens, order := some (.lens i), deadline := some 2, expiry := 0 } := by
      simp [Sequencer.ordering, hp, hl]
    rw [if_neg hp, if_pos hl, hsend, hordering]
    rfl
  by_cases hx : s.seq.escapement ≠ some x
  · have hordering : s.seq.ordering p i x = { s.seq with
        state := .stepping, action := some .step, order := some (.step x), deadline := some 2, expiry := 0 } := by
      simp [Sequencer.ordering, hp, hl, hx]
    rw [if_neg hp, if_neg hl, if_pos hx, hsend, hordering]
    rfl
  · have hordering : s.seq.ordering p i x = { s.seq with
        state := .flashing, action := some .flash, order := some .flash, deadline := some 2, expiry := 0 } := by
      simp [Sequencer.ordering, hp, hl, hx]
    rw [if_neg hp, if_neg hl, if_neg hx, hsend, hordering]
    rfl

theorem State.charAction_frame (s : State) (p i : Fin 8) (x : Int) : s.charAction p i x =
    { s with seq := s.seq.ordering p i x, status.marks := (s.charAction p i x).status.marks } := by
  rw [State.charAction_eq, State.markIf_frame]

theorem Sequencer.ordering_eq (q : Sequencer) (p i : Fin 8) (x : Int) : q.ordering p i x = { q with
    state := if q.shifted ≠ some p then .shifting else if q.lens ≠ some i then .lens
      else if q.escapement ≠ some x then .stepping else .flashing
    action := some (if q.shifted ≠ some p then .shift else if q.lens ≠ some i then .lens
      else if q.escapement ≠ some x then .step else .flash)
    order := some (if q.shifted ≠ some p then .shift p else if q.lens ≠ some i then .lens i
      else if q.escapement ≠ some x then .step x else .flash)
    deadline := some 2, expiry := 0 } := by
  unfold Sequencer.ordering
  split_ifs <;> rfl

theorem Sequencer.ordering_busy (q : Sequencer) (p i : Fin 8) (x : Int) : (q.ordering p i x).state ≠ .idle := by
  unfold Sequencer.ordering
  dsimp only
  (repeat' split) <;> exact fun h => by cases h

theorem State.workItem_eq {s : State} {j : Nat} {p i : Fin 8} {x : Int} (hj : s.seq.item = some j)
    (hchar : s.charAt j = some (p, i, x)) : s.workItem = s.charAction p i x := by
  unfold State.workItem
  rw [hj, Option.bind_some, hchar]

theorem State.takeUpFrom_some {s : State} {e : Entry} {n j : Nat} {p i : Fin 8} {x : Int} (he : s.inExposure = some e)
    (hnext : nextCharFrom n (e.kind.items.drop n) = some j) (hchar : s.charAt j = some (p, i, x)) :
    s.takeUpFrom n = State.charAction { s with seq.item := some j, seq.miss := 0 } p i x := by
  unfold State.takeUpFrom
  rw [he]
  dsimp only
  rw [hnext]
  exact State.workItem_eq rfl hchar

theorem State.takeUpFrom_none {s : State} {e : Entry} {n : Nat} (he : s.inExposure = some e)
    (hnext : nextCharFrom n (e.kind.items.drop n) = none) : s.takeUpFrom n = s.completeEntry := by
  unfold State.takeUpFrom
  rw [he]
  dsimp only
  rw [hnext]

/-! ### The start of an entry (R110, R116) -/

/-- The exposure record as an entry with tag `t` starts (R110). -/
def startedRecord (t : Option JobTag) (x : Exposure) : Exposure :=
  if t = none ∨ t = x.tag then x else { Exposure.none with tag := t }

theorem State.startExposure_frame (s : State) (t : Option JobTag) : s.startExposure t = { s with
    exposure := startedRecord t s.exposure
    panel.outbound := (s.startExposure t).panel.outbound
    panel.sending := (s.startExposure t).panel.sending
    status.marks := (s.startExposure t).status.marks } := by
  unfold State.startExposure startedRecord
  cases t with
  | none => rfl
  | some tag =>
    by_cases h : s.exposure.tag = some tag
    · rw [if_pos (.inr h.symm)]
      dsimp only
      rw [if_pos h]
    · rw [if_neg (by simp [Ne.symm h])]
      dsimp only
      rw [if_neg h]
      have hset := State.setExposure_exposure s { Exposure.none with tag := some tag }
      refine (State.setExposure_frame _ _).trans ?_
      rw [hset]

theorem State.startEntry_eq {s : State} {e : Entry} (hqueue : s.queue = [e]) (he : e.photo = .waiting) :
    ∃ t : State, s.startEntry = t.filmWork e ∧ t = { s with
      queue := [{ e with photo := .inExposure }]
      exposure := startedRecord e.tag s.exposure
      panel.outbound := t.panel.outbound
      panel.sending := t.panel.sending
      status.marks := t.status.marks } := by
  have hmark : s.markInExposure = { s with queue := [{ e with photo := .inExposure }] } := by
    unfold State.markInExposure modifyFirst
    rw [hqueue]
    simp [he]
  refine ⟨s.markInExposure.startExposure e.tag, ?_, ?_⟩
  · unfold State.startEntry
    rw [hqueue, List.find?_cons_of_pos (by simp [he])]
  · rw [State.startExposure_frame, hmark]

section
variable {e : Entry} {x : Exposure}

theorem Entry.recordAfter_line {p : PhotoState} {l : LineEntry} (hk : e.kind = .line l) :
    ({ e with photo := p } : Entry).recordAfter x =
      if e.tag ≠ none ∧ e.tag = x.tag then { x with lines := nextCount x.lines } else x := by
  unfold Entry.recordAfter
  dsimp only
  rw [hk]

theorem Entry.recordAfter_jobEnd {p : PhotoState} {j : JobEndEntry} (hk : e.kind = .jobEnd j) (x : Exposure) :
    ({ e with photo := p } : Entry).recordAfter x = Exposure.none := by
  unfold Entry.recordAfter
  dsimp only
  rw [hk]

theorem Entry.recordAfter_other {p : PhotoState} (hline : ∀ l, e.kind ≠ .line l) (hend : ∀ j, e.kind ≠ .jobEnd j) :
    ({ e with photo := p } : Entry).recordAfter x = x := by
  unfold Entry.recordAfter
  dsimp only
  split
  next l hk => exact absurd hk (hline l)
  next j hk => exact absurd hk (hend j)
  next => rfl

end

theorem quiet_of_account {s t : State} (h : t.account = s.account) (hq : Quiet s) : Quiet t :=
  (congrArg Outer.hostQueue (outer_of_account h) :).trans hq

/-! ### The film work of an entry (R117, R119, R127, R128) -/

section
variable {s : State} {e : Entry}

theorem State.forwardMove_sent (a : Action) {m : Int} (h : m ≤ s.seq.film.remaining) :
    s.forwardMove a m = s.sendOrder a (.move m false) := if_neg (by omega)

theorem State.forwardMove_short (a : Action) {m : Int} (h : s.seq.film.remaining < m) :
    s.forwardMove a m = s.haltAt .filmLow a := if_pos h

theorem State.filmWork_lead {l : LineEntry} (hk : e.kind = .line l) (h : 0 < l.lead) :
    s.filmWork e = s.forwardMove .leadMove l.lead := by
  unfold State.filmWork
  rw [hk]
  exact if_neg (by omega)

theorem State.filmWork_noLead {l : LineEntry} (hk : e.kind = .line l) (h : l.lead = 0) :
    s.filmWork e = s.takeUpFrom 0 := by
  unfold State.filmWork
  rw [hk]
  exact if_pos h

theorem State.filmWork_forward {m : Int} (hk : e.kind = .move m) (h : 0 < m) :
    s.filmWork e = s.forwardMove .filmMove m := by
  unfold State.filmWork
  rw [hk]
  exact if_pos h

theorem State.filmWork_reverse {m : Int} (hk : e.kind = .move m) (h : m < 0) (hfilm : 0 < s.seq.film.position) :
    s.filmWork e = s.sendOrder .filmMove
      (.move (-(min (-m) s.seq.film.position)) (decide (s.seq.film.position < -m))) := by
  unfold State.filmWork
  rw [hk]
  dsimp only
  rw [if_neg (by omega)]
  unfold State.reverseMove Film.reverseDistance
  dsimp only
  rw [if_pos (by omega)]
  have hclamped : min (-m) s.seq.film.position < -m ↔ s.seq.film.position < -m := by omega
  rw [decide_eq_decide.2 hclamped]

theorem State.filmWork_atCut {m : Int} (hk : e.kind = .move m) (h : m < 0) (hfilm : s.seq.film.position = 0) :
    s.filmWork e = (s.clampExposure e.tag).completeEntry := by
  unfold State.filmWork
  rw [hk]
  dsimp only
  rw [if_neg (by omega)]
  unfold State.reverseMove Film.reverseDistance
  dsimp only
  rw [if_neg (by omega), if_pos (by omega)]

theorem State.filmWork_cut (hk : e.kind = .cut) : s.filmWork e = s.sendOrder .cut .cut := by
  unfold State.filmWork
  rw [hk]

theorem State.filmWork_jobEnd {j : JobEndEntry} (hk : e.kind = .jobEnd j) : s.filmWork e = s.completeEntry := by
  unfold State.filmWork
  rw [hk]

theorem State.clampExposure_frame (t : Option JobTag) : s.clampExposure t = { s with
    exposure := if t ≠ none ∧ t = s.exposure.tag then { s.exposure with clamped := true } else s.exposure } := by
  unfold State.clampExposure
  by_cases h : s.reachesRecord t = true
  · rw [if_pos h, if_pos ((s.reachesRecord_iff t).1 h)]
  · rw [if_neg h, if_neg (fun hown => h ((s.reachesRecord_iff t).2 hown))]

end

theorem startedRecord_tag {t : Option JobTag} (h : t ≠ none) (x : Exposure) : (startedRecord t x).tag = t := by
  unfold startedRecord
  split
  next hor => exact (hor.resolve_left h).symm
  next => rfl

/-- Settles O49: by the film work of the entry, in the order of R117 and R119. -/
theorem entryStarts : Obligations.EntryStarts := by
  intro s e hq hidle hcopy hqueue hwaiting
  obtain ⟨v, hstart, hv⟩ := State.startEntry_eq hqueue hwaiting
  have hcan : s.canStart = true := s.canStart_iff.2 ⟨hidle, hcopy, e, by simp [hqueue], hwaiting⟩
  have hexec : exec .entryStart s = s.starts.done := by
    show s.answer (if s.canStart then some s.starts else none) = _
    rw [if_pos hcan]
    rfl
  have hinexp : v.inExposure = some { e with photo := .inExposure } := by
    rw [hv]
    exact State.inExposure_one (s := { s with queue := [{ e with photo := .inExposure }] }) rfl rfl
  -- the start stops at an entry whose work leaves the Sequencer busy
  have hbusy {t : State} (hwork : v.filmWork e = t) (ht : t.seq.state ≠ .idle) : s.starts = t := by
    have hone : s.starts = s.startEntry := State.starts_once hcan fun h => by
      rw [hstart, hwork] at h
      exact ht ((State.canStart_iff _).1 h).1
    rw [hone, hstart, hwork]
  have hdone {t : State} (hwork : v.filmWork e = t) (ht : ∀ x ∈ t.queue, x.photo ≠ .waiting) : s.starts = t := by
    have hone : s.starts = s.startEntry := State.starts_once hcan fun h => by
      rw [hstart, hwork] at h
      obtain ⟨-, -, x, hx, hxw⟩ := (State.canStart_iff _).1 h
      exact ht x hx hxw
    rw [hone, hstart, hwork]
  refine ⟨s.starts, ?_, fun a o x d hcase => ?order, fun m a hpos hfilm hcase => ?short,
    fun l j p i x hk hlead hnext hchar => ?character, fun hw hcase => ?complete⟩
  · rw [hexec]
    exact State.done_endsIn _ (quiet_of_account s.starts_account hq)
  case order =>
    have hfilm : v.seq.film = s.seq.film := by rw [hv]
    have hwork : v.filmWork e = v.sendOrder a o ∧ o.seqState = x ∧ o.deadline = d := by
      rcases hcase with ⟨l, hk, hlead, hroom, rfl, rfl, rfl, rfl⟩ | ⟨m, hk, hpos, hroom, rfl, rfl, rfl, rfl⟩
        | ⟨m, hk, hneg, hback, rfl, rfl, rfl, rfl⟩ | ⟨hk, rfl, rfl, rfl, rfl⟩
      · exact ⟨(State.filmWork_lead hk hlead).trans (State.forwardMove_sent _ (hfilm ▸ hroom)), rfl, rfl⟩
      · exact ⟨(State.filmWork_forward hk hpos).trans (State.forwardMove_sent _ (hfilm ▸ hroom)), rfl, rfl⟩
      · exact ⟨hfilm ▸ State.filmWork_reverse hk hneg (hfilm ▸ hback), rfl, rfl⟩
      · exact ⟨State.filmWork_cut hk, rfl, rfl⟩
    obtain ⟨hwork, rfl, rfl⟩ := hwork
    have hseq := v.sendOrder_seq a o
    rw [hbusy hwork (by rw [hseq]; cases o <;> exact fun h => by cases h)]
    rw [State.sendOrder_frame, hv]
    exact ⟨rfl, rfl, hcopy, rfl, rfl, rfl, rfl, rfl, rfl⟩
  case short =>
    have hfilm' : v.seq.film = s.seq.film := by rw [hv]
    have hwork : v.filmWork e = v.haltAt .filmLow a := by
      rcases hcase with ⟨hk, rfl⟩ | ⟨l, hk, rfl, rfl⟩
      · exact (State.filmWork_forward hk hpos).trans (State.forwardMove_short _ (hfilm' ▸ hfilm))
      · exact (State.filmWork_lead hk (by omega)).trans (State.forwardMove_short _ (hfilm' ▸ hfilm))
    have hseq := v.haltAt_seq .filmLow a
    have hframe := v.haltAt_seqFrame .filmLow a
    rw [hbusy hwork (by rw [hseq]; exact fun h => by cases h), hseq, hframe.queue]
    refine ⟨?_, rfl, rfl, rfl, rfl, ?_, v.haltAt_ownership _ _, v.flagSet_haltAt _ _⟩
    · rw [hv]
    · exact hfilm'
  case character =>
    obtain ⟨c, a, w, wide, hitem, rfl, rfl⟩ := hchar
    have hwork : v.filmWork e = State.charAction { v with seq.item := some j, seq.miss := 0 } a.pos a.lens x := by
      rw [State.filmWork_noLead hk hlead]
      have hitems : ({ e with photo := .inExposure } : Entry).kind.items = l.items := congrArg EntryKind.items hk
      refine State.takeUpFrom_some hinexp ?_ (State.charAt_of_char (c := c) (w := w) (wide := wide) hinexp ?_)
      · rw [hitems]
        exact hnext
      · rw [hitems]
        exact hitem
    have hseq : (State.charAction { v with seq.item := some j, seq.miss := 0 } a.pos a.lens x).seq =
        ({ v.seq with item := some j, miss := 0 } : Sequencer).ordering a.pos a.lens x := by
      rw [State.charAction_frame]
    rw [hbusy hwork (by rw [hseq]; exact Sequencer.ordering_busy _ _ _ _), hseq]
    refine ⟨by rw [State.charAction_frame, hv], ?_⟩
    rw [hv, Sequencer.ordering_eq]
  case complete =>
    have hfinish (u : State) (hu : u = { v with exposure := u.exposure }) (hwork : v.filmWork e = u.completeEntry) :
        Completes u s.starts { e with photo := .inExposure } := by
      have hall : Completes u u.completeEntry { e with photo := .inExposure } :=
        State.completeEntry_completes (by rw [hu, hv]) rfl (by rw [hu, hv]; exact hw)
      rw [hdone hwork hall.not_waiting]
      exact hall
    have hown (htag : e.tag ≠ none) : e.tag = (startedRecord e.tag s.exposure).tag := (startedRecord_tag htag _).symm
    -- what the start of the entry and its completion leave, in terms of the state before
    have hleft {u : State} (hu : u = { v with exposure := u.exposure })
        (h : Completes u s.starts { e with photo := .inExposure }) :
        s.starts.queue = (if e.proof = .proofed then [] else [{ e with photo := .exposed }]) ∧ s.starts.seq.state = .idle
          ∧ s.starts.seq.item = none ∧ s.starts.seq.order = none ∧ s.starts.seq.film = s.seq.film
          ∧ s.starts.status.markCount = s.status.markCount + BitVec.ofNat 16 e.marks.length ∧ s.starts.mem = s.mem
          ∧ s.starts.panel.ownership = .copy := by
      have hcount := h.markCount
      have howner := h.ownership
      rw [hu, hv] at hcount howner
      rw [h.seq, h.frame.mem, hu, hv]
      exact ⟨h.queue, rfl, rfl, rfl, rfl, hcount, rfl, howner.trans (by rw [hcopy]; exact if_neg (by decide))⟩
    obtain ⟨u, hu, hwork, hkept, hclamped⟩ : ∃ u : State, u = { v with exposure := u.exposure }
        ∧ v.filmWork e = u.completeEntry ∧ ((∀ m, e.kind ≠ .move m) → u.exposure = startedRecord e.tag s.exposure)
        ∧ ∀ m, e.kind = .move m → u.exposure = if e.tag = none then startedRecord e.tag s.exposure
          else { startedRecord e.tag s.exposure with clamped := true } := by
      have hrecord : v.exposure = startedRecord e.tag s.exposure := by rw [hv]
      rcases hcase with ⟨l, hk, hlead, hnone⟩ | ⟨m, hk, hneg, hzero⟩ | ⟨j, hk⟩
      · have hitems : ({ e with photo := .inExposure } : Entry).kind.items = l.items := congrArg EntryKind.items hk
        refine ⟨v, rfl, (State.filmWork_noLead hk hlead).trans (State.takeUpFrom_none hinexp (hitems ▸ hnone)),
          fun _ => hrecord, fun m hk' => ?_⟩
        cases hk.symm.trans hk'
      · refine ⟨v.clampExposure e.tag, by rw [State.clampExposure_frame],
          State.filmWork_atCut hk hneg (by rw [hv]; exact hzero), fun h => absurd hk (h m), fun _ _ => ?_⟩
        rw [State.clampExposure_frame, hrecord]
        by_cases htag : e.tag = none
        · rw [if_pos htag, if_neg (fun h => h.1 htag)]
        · rw [if_neg htag, if_pos ⟨htag, hown htag⟩]
      · refine ⟨v, rfl, State.filmWork_jobEnd hk, fun _ => hrecord, fun m hk' => ?_⟩
        cases hk.symm.trans hk'
    have h := hfinish u hu hwork
    obtain ⟨hqueue', hstate, hitem, horder, hfilm, hmarks, hmem, howner⟩ := hleft hu h
    refine ⟨hqueue', hstate, hitem, horder, hfilm, hmarks, hmem, howner, fun l hk => ?_, fun m hk => ?_, fun j hk => ?_⟩
    · rw [h.exposure, Entry.recordAfter_line hk, hkept (by simp [hk])]
      by_cases htag : e.tag = none
      · rw [if_pos htag, if_neg (fun h => h.1 htag)]
        rfl
      · rw [if_neg htag, if_pos ⟨htag, hown htag⟩]
        rfl
    · rw [h.exposure, Entry.recordAfter_other (fun l => by simp [hk]) (fun j => by simp [hk]), hclamped m hk]
      rfl
    · obtain ⟨hflag, hslot, hreports⟩ := h.report j hk
      have hreach : u.reachesRecord e.tag = decide (e.tag ≠ none) := by
        rw [Bool.eq_iff_iff, State.reachesRecord_iff, hkept (by simp [hk]), decide_eq_true_eq]
        exact ⟨fun h => h.1, fun h => ⟨h, hown h⟩⟩
      refine ⟨h.exposure.trans (Entry.recordAfter_jobEnd hk _), hflag, ?_, ?_⟩
      · rw [hslot, hu, hv]
      · have hring (r : Report) : u.status.reports.set u.status.nextSlot r =
            s.status.reports.set s.status.nextSlot r := by rw [hu, hv]
        rw [hreports, hring, hreach, hkept (by simp [hk])]
        by_cases htag : e.tag = none
        · simp [htag]
        · simp [htag, startedRecord]

end Sys2Proof.Machine
end

section
/-! PROOFS. Motions confirmed, flashes seen or missed, and the return of the machine (R118 to R124, R136 to R139). -/

namespace Sys2Proof.Machine

/-- What the events of the Sequencer see of the motion outstanding (R120, R121). -/
theorem exec_motionComplete {s : State} {o : Order} (hmanual : s.seq.manual = none) (ho : s.seq.order = some o)
    (hmotion : o.isMotion = true) : exec .motionComplete s = (s.confirm o).starts.done := by
  show s.answer s.onCompletion = _
  unfold State.onCompletion State.motion
  rw [hmanual, ho, Option.filter_some_pos hmotion]
  rfl

/-- An order sent replaces all of the order before it. -/
theorem Sequencer.ordering_anew (q : Sequencer) (o : Option Order) (d : Option Nat) (n : Nat) (p i : Fin 8) (x : Int) :
    ({ q with order := o, deadline := d, expiry := n } : Sequencer).ordering p i x = q.ordering p i x := by
  rw [Sequencer.ordering_eq, Sequencer.ordering_eq]

/-- A value confirmed and the next action ordered (R117, R118). -/
theorem State.confirmed_endsIn {s : State} (hq : Quiet s) {q : Sequencer} {j : Nat} {p i : Fin 8} {x : Int}
    (hj : q.item = some j) (hchar : s.charAt j = some (p, i, x)) (hstate : q.state ≠ (q.ordering p i x).state) :
    EndsIn (State.workItem { s with seq := { q with order := none, deadline := none, expiry := 0 } }).starts.done
      (State.mark { s with seq := q.ordering p i x } [3]) := by
  have hne : (q.state != (q.ordering p i x).state) = true := by simpa using hstate
  rw [State.workItem_eq (s := { s with seq := { q with order := none, deadline := none, expiry := 0 } }) hj hchar,
    State.charAction_eq]
  dsimp only
  rw [Sequencer.ordering_anew, hne]
  have hstarts : (State.mark { s with seq := q.ordering p i x } [3]).starts = State.mark { s with seq := q.ordering p i x } [3] :=
    State.starts_of_busy (Sequencer.ordering_busy q p i x)
  show EndsIn (State.starts (State.mark { s with seq := q.ordering p i x } [3])).done _
  rw [hstarts]
  exact State.done_endsIn _ hq

/-! ### The account of a confirmed move (R127, R128, R133) -/

theorem State.addFilmUsed_frame (s : State) (t : Option JobTag) (d : Int) : s.addFilmUsed t d = { s with
    exposure := if t ≠ none ∧ t = s.exposure.tag then { s.exposure with film := s.exposure.film + d } else s.exposure } := by
  unfold State.addFilmUsed
  by_cases h : s.reachesRecord t = true
  · rw [if_pos h, if_pos ((s.reachesRecord_iff t).1 h)]
  · rw [if_neg h, if_neg (fun hown => h ((s.reachesRecord_iff t).2 hown))]

theorem State.filmMoved_frame (s : State) (t : Option JobTag) (d : Int) (c : Bool) : s.filmMoved t d c = { s with
    seq.film := s.seq.film.moved d
    exposure := if t ≠ none ∧ t = s.exposure.tag then
      { s.exposure with film := s.exposure.film + d, clamped := s.exposure.clamped || c } else s.exposure
    status.marks := (s.filmMoved t d c).status.marks } := by
  have hfilm := s.setFilm_film (s.seq.film.moved d)
  have hset := s.setFilm_frame (s.seq.film.moved d)
  rw [hfilm] at hset
  unfold State.filmMoved
  generalize s.setFilm (s.seq.film.moved d) = u at hset
  dsimp only
  have htag : u.exposure = s.exposure := by rw [hset]
  by_cases hown : t ≠ none ∧ t = s.exposure.tag
  · cases c
    · rw [if_neg (by decide), State.addFilmUsed_frame, htag, if_pos hown, if_pos hown, Bool.or_false, hset]
    · rw [if_pos rfl, State.clampExposure_frame, State.addFilmUsed_frame, htag, if_pos hown, if_pos hown, Bool.or_true, hset]
      dsimp only
      rw [if_pos hown]
  · cases c
    · rw [if_neg (by decide), State.addFilmUsed_frame, htag, if_neg hown, hset, if_neg hown]
    · rw [if_pos rfl, State.clampExposure_frame, State.addFilmUsed_frame, htag, if_neg hown, hset, if_neg hown]
      dsimp only
      rw [if_neg hown]

/-! ### A manual motion confirmed (R131) -/

/-- In PANEL ownership the account and the state change, and a SHOW is made (R131, R144). -/
theorem State.confirmManual_of_panel {s : State} (m : Manual) (h : s.panel.ownership = .panel) :
    ∃ t : State, t = { s with
        seq := { s.seq with
          film := m.motion.apply s.seq.film, manual := none, state := if m.leftHalted then .halted else .idle }
        status.marks := t.status.marks }
      ∧ s.confirmManual m = t.showWith false (some m.motion.result) := by
  have hset := s.setFilm_frame (m.motion.apply s.seq.film)
  rw [State.setFilm_film] at hset
  unfold State.confirmManual
  generalize s.setFilm (m.motion.apply s.seq.film) = u at hset
  have hleft := u.leaveManual_frame m
  generalize u.leaveManual m = t at hleft
  refine ⟨t, by rw [hleft, hset], State.goOn_of_panel ?_⟩
  rw [State.showWith_frame, hleft, hset]
  exact h

/-- Settles O50: by the motion outstanding; an entry that has no further character is completed. -/
theorem motionsAreConfirmed : Obligations.MotionsAreConfirmed := by
  intro s hq moved cut
  refine ⟨fun j p i x hmanual hj hchar => ?values, fun d c hmanual ho => ?move, fun hmanual ho => ?cut,
    fun e o hmanual ho he => ?entry, fun m hm hpanel => ?manual⟩
  case values =>
    refine ⟨fun ho hstate => ?_, fun ho hstate hshift => ?_, fun ho hstate hshift hlens => ?_⟩
    · rw [exec_motionComplete hmanual ho rfl]
      exact State.confirmed_endsIn (q := { s.seq with shifted := some p }) hq hj hchar (by
        rw [Sequencer.ordering_eq]
        dsimp only
        rw [hstate, if_neg (by simp)]
        split_ifs <;> exact fun h => by cases h)
    · rw [exec_motionComplete hmanual ho rfl]
      exact State.confirmed_endsIn (q := { s.seq with lens := some i }) hq hj hchar (by
        rw [Sequencer.ordering_eq]
        dsimp only
        rw [hstate, if_neg (not_not.2 hshift), if_neg (by simp)]
        split_ifs <;> exact fun h => by cases h)
    · rw [exec_motionComplete hmanual ho rfl]
      exact State.confirmed_endsIn (q := { s.seq with escapement := some x }) hq hj hchar (by
        rw [Sequencer.ordering_eq]
        dsimp only
        rw [hstate, if_neg (not_not.2 hshift), if_neg (not_not.2 hlens), if_neg (by simp)]
        exact fun h => by cases h)
  case move =>
    have haccount : (s.confirm (.move d c)).starts.account = _ := (State.starts_account _).trans (s.confirm_account (.move d c))
    rw [exec_motionComplete hmanual ho rfl]
    exact ⟨_, State.done_endsIn _ ((congrArg (fun x : Account => x.outer.hostQueue) haccount).trans hq),
      congrArg (fun x : Account => x.outer.mem) haccount, congrArg Account.film haccount⟩
  case cut =>
    have haccount : (s.confirm .cut).starts.account = _ := (State.starts_account _).trans (s.confirm_account .cut)
    rw [exec_motionComplete hmanual ho rfl]
    exact ⟨_, State.done_endsIn _ ((congrArg (fun x : Account => x.outer.hostQueue) haccount).trans hq),
      congrArg (fun x : Account => x.outer.mem) haccount, congrArg Account.film haccount⟩
  case entry =>
    refine ⟨fun d c l before after code a w x wide hd ha hk hitems hbefore => ?_, fun f x hqueue hw hcase => ?_⟩
    · subst hd
      have hconfirm : s.confirm (.move d c) =
          (State.filmMoved { s with seq.order := none, seq.deadline := none, seq.expiry := 0 } e.tag d c).takeUpFrom 0 := by
        unfold State.confirm
        rw [he]
        exact if_pos ha
      have hmoved := State.filmMoved_frame { s with seq.order := none, seq.deadline := none, seq.expiry := 0 } e.tag d c
      rw [exec_motionComplete hmanual ho rfl, hconfirm]
      generalize State.filmMoved { s with seq.order := none, seq.deadline := none, seq.expiry := 0 } e.tag d c = u at hmoved
      have hu : u.inExposure = some e := by rw [hmoved]; exact he
      have hwork : u.takeUpFrom 0 = State.charAction { u with seq.item := some before.length, seq.miss := 0 } a.pos a.lens x := by
        have hl : e.kind.items = l.items := congrArg EntryKind.items hk
        refine State.takeUpFrom_some hu ?_ (State.charAt_of_char (c := code) (w := w) (wide := wide) hu ?_)
        · rw [hl, hitems]
          simpa using nextCharFrom_append hbefore rfl 0
        · rw [hl, hitems]
          simp
      have hframe := State.charAction_frame { u with seq.item := some before.length, seq.miss := 0 } a.pos a.lens x
      rw [hwork]
      generalize State.charAction { u with seq.item := some before.length, seq.miss := 0 } a.pos a.lens x = t at hframe
      have hordering : t.seq = ({ s.seq with film := moved d, item := some before.length, miss := 0 } : Sequencer).ordering
          a.pos a.lens x := by
        rw [hframe, hmoved]
        rw [Sequencer.ordering_eq, Sequencer.ordering_eq]
        rfl
      have hstarts : t.starts = t := State.starts_of_busy (by rw [hordering]; exact Sequencer.ordering_busy _ _ _ _)
      rw [hstarts]
      refine ⟨t, State.done_endsIn _ ?_, ?_⟩
      · rw [hframe, hmoved]
        exact hq
      · rw [← hordering, hframe, hmoved]
    · have hcopied : s.queue.find? (fun y => y.photo == .inExposure) = some e := he
      have hin : e.photo = .inExposure := by
        rw [hqueue] at hcopied
        by_contra hne
        simp [hne] at hcopied
      obtain ⟨u, hu, hconfirm, hrecord⟩ : ∃ u : State, u = { s with
            seq := { s.seq with film := f, order := none, deadline := none, expiry := 0 }
            exposure := u.exposure
            status.marks := u.status.marks }
          ∧ s.confirm o = u.completeEntry ∧ e.recordAfter u.exposure = x := by
        rcases hcase with ⟨d, c, rfl, rfl, hrest⟩ | ⟨rfl, hk, rfl, rfl⟩
        · have hmoved := State.filmMoved_frame { s with seq.order := none, seq.deadline := none, seq.expiry := 0 } e.tag d c
          have hconfirm : s.confirm (.move d c) = if s.seq.action = some .leadMove then
              (State.filmMoved { s with seq.order := none, seq.deadline := none, seq.expiry := 0 } e.tag d c).takeUpFrom 0
              else (State.filmMoved { s with seq.order := none, seq.deadline := none, seq.expiry := 0 } e.tag d c).completeEntry := by
            unfold State.confirm
            rw [he]
            rfl
          rw [hconfirm]
          generalize State.filmMoved { s with seq.order := none, seq.deadline := none, seq.expiry := 0 } e.tag d c = u at hmoved
          refine ⟨u, by rw [hmoved]; rfl, ?_⟩
          have hin' : u.inExposure = some e := by rw [hmoved]; exact he
          have hused : u.exposure = if e.tag ≠ none ∧ e.tag = s.exposure.tag then
              { s.exposure with film := s.exposure.film + d, clamped := s.exposure.clamped || c } else s.exposure := by
            rw [hmoved]
          rcases hrest with ⟨ha, ⟨l, hk, hnone⟩, rfl⟩ | ⟨ha, ⟨m, hk⟩, rfl⟩
          · have hitems : e.kind.items = l.items := congrArg EntryKind.items hk
            rw [if_pos ha, Entry.recordAfter_line (p := e.photo) hk, hused]
            refine ⟨State.takeUpFrom_none hin' (by rw [hitems]; exact nextCharFrom_none hnone 0), ?_⟩
            by_cases hown : e.tag ≠ none ∧ e.tag = s.exposure.tag
            · rw [if_pos hown, if_pos hown, if_pos hown]
              dsimp only
              rw [if_pos hown]
            · rw [if_neg hown, if_neg hown, if_neg hown]
          · rw [if_neg (by rw [ha]; simp), Entry.recordAfter_other (p := e.photo) (by simp [hk]) (by simp [hk])]
            exact ⟨rfl, hused⟩
        · refine ⟨State.setFilm { s with seq.order := none, seq.deadline := none, seq.expiry := 0 } s.seq.film.afterCut, ?_, rfl,
            ?_⟩
          · rw [State.setFilm_frame, State.setFilm_film]
            rfl
          · exact Entry.recordAfter_other (p := e.photo) (by simp [hk]) (by simp [hk])
      have h : Completes u u.completeEntry e := State.completeEntry_completes (by rw [hu]; exact hqueue) hin (by rw [hu]; exact hw)
      have hmotion : o.isMotion = true := by
        rcases hcase with ⟨d, c, rfl, -⟩ | ⟨rfl, -⟩ <;> rfl
      rw [exec_motionComplete hmanual ho hmotion, hconfirm, h.starts]
      refine ⟨_, State.done_endsIn _ (h.frame.quiet (by rw [hu]; exact hq)), ?_, h.exposure.trans hrecord, h.queue,
        h.ownership.trans (by rw [hu]), h.markCount.trans (by rw [hu]), h.markValue.trans (by rw [hu]), ?_, ?_, ?_, ?_⟩
      · rw [h.seq, hu]
      · rw [h.frame.mem, hu]
      · rw [h.frame.intake, hu]
      · rw [h.frame.proof, hu]
      · rw [h.frame.hyph, hu]
  case manual =>
    have hconfirm : exec .motionComplete s = (s.confirmManual m).done := by
      show s.answer s.onCompletion = _
      unfold State.onCompletion
      rw [hm]
      rfl
    obtain ⟨t, ht, hshown⟩ := State.confirmManual_of_panel (s := s) m hpanel
    have hmade : .display (t.line1 false (some m.motion.result)) s.panel.hostLine ∈
        (t.showWith false (some m.motion.result)).panel.unsent := by
      have hhost : t.panel.hostLine = s.panel.hostLine := by rw [ht]
      rw [← hhost]
      exact mem_unsent_toPanel t _
    have hreads : ReadsOnLine1 (t.showWith false (some m.motion.result)) (some m.motion.result)
        (t.line1 false (some m.motion.result)) := readsOnLine1 t _
    rw [hconfirm, hshown]
    refine ⟨_, State.done_endsIn _ ?_, ?_⟩
    · rw [ht]
      exact hq
    have hframe := t.showWith_frame false (some m.motion.result)
    generalize t.showWith false (some m.motion.result) = u at hmade hreads hframe
    have hstands : u.seq.manual = none ∧ u.seq.state = (if m.leftHalted then .halted else .idle) ∧ u.panel.ownership = .panel
        ∧ u.queue = s.queue ∧ u.exposure = s.exposure ∧ u.mem = s.mem ∧ u.seq.halt = s.seq.halt
        ∧ u.seq.failed = s.seq.failed ∧ u.seq.film = m.motion.apply s.seq.film := by
      rw [hframe, ht]
      exact ⟨rfl, rfl, hpanel, rfl, rfl, rfl, rfl, rfl, rfl⟩
    obtain ⟨hmanual, hstate, howner, hqueue, hexposure, hmem, hhalt, hfailed, hfilm⟩ := hstands
    refine ⟨hmanual, hstate, howner, hqueue, hexposure, hmem, hhalt, hfailed, ?_⟩
    generalize t.line1 false (some m.motion.result) = line1 at hmade hreads
    obtain ⟨motion, expiry, deadline, leftHalted⟩ := m
    cases motion <;> exact ⟨hfilm, line1, hreads, hmade⟩

/-! ### Flashes (R122) -/

theorem exec_flash {s : State} (ho : s.seq.order = some .flash) : exec .flashSeen s = s.flashSeen.done
    ∧ ∀ c ∈ [Instr.flashMissed, .flashTimeout], exec c s = s.flashMiss.done := by
  have hflashing : s.flashing = true := by simp [State.flashing, ho]
  have hseen : exec .flashSeen s = s.answer (if s.flashing then some s.flashSeen else none) := rfl
  have hmissed : exec .flashMissed s = s.answer (if s.flashing then some s.flashMiss else none) := rfl
  have htimeout : exec .flashTimeout s = s.answer (if s.flashing then some s.flashMiss else none) := rfl
  refine ⟨by rw [hseen, if_pos hflashing]; rfl, fun c hc => ?_⟩
  rcases List.mem_cons.1 hc with rfl | hc
  · rw [hmissed, if_pos hflashing]
    rfl
  · rw [List.mem_singleton.1 hc, htimeout, if_pos hflashing]
    rfl

/-- Settles O52: the flash seen goes on to the next character or completes the entry; a flash missed is sent again once. -/
theorem flashesAreSeenOrMissed : Obligations.FlashesAreSeenOrMissed := by
  intro s e j hq ho hstate hqueue hin hj
  obtain ⟨hseen, hmissed⟩ := exec_flash ho
  have hflash : s.flashSeen =
      (State.takeUpFrom { s with seq.miss := 0, seq.order := none, seq.deadline := none } (j + 1)).starts := by
    unfold State.flashSeen
    rw [hj]
    rfl
  have hin' : State.inExposure { s with seq.miss := 0, seq.order := none, seq.deadline := none } = some e :=
    State.inExposure_one hqueue hin
  refine ⟨fun hlast hcopy hw hproof hline => ?last, fun j' p i x hnext hchar hshift hlens hstep => ?next,
    fun c hc => ⟨fun hfirst => ?first, fun hsecond => ?second⟩⟩
  case last =>
    obtain ⟨l, hk⟩ := hline
    have h := State.completeEntry_completes (s := { s with seq.miss := 0, seq.order := none, seq.deadline := none })
      hqueue hin hw
    rw [hseen, hflash, State.takeUpFrom_none hin' hlast, h.starts]
    have hrecord := h.exposure
    rw [Entry.recordAfter_line (p := e.photo) hk] at hrecord
    refine ⟨_, State.done_endsIn _ (h.frame.quiet hq), h.queue.trans (if_neg hproof), by rw [h.seq], by rw [h.seq],
      by rw [h.seq], by rw [h.seq], ?_, h.markCount, h.frame.mem⟩
    rw [hrecord]
    split <;> rfl
  case next =>
    have hordering : Sequencer.ordering { s.seq with item := some j', miss := 0, order := none, deadline := none } p i x =
        { s.seq with
          item := some j', miss := 0, state := .stepping, action := some .step, order := some (.step x), deadline := some 2,
          expiry := 0 } := by
      rw [Sequencer.ordering_eq]
      dsimp only
      rw [if_neg (not_not.2 hshift), if_neg (not_not.2 hlens), if_pos hstep, if_neg (not_not.2 hshift),
        if_neg (not_not.2 hlens), if_pos hstep, if_neg (not_not.2 hshift), if_neg (not_not.2 hlens), if_pos hstep]
    have hwork := State.takeUpFrom_some (n := j + 1) hin' hnext (p := p) (i := i) (x := x) hchar
    rw [State.charAction_eq] at hwork
    dsimp only at hwork
    have hne : (s.seq.state != SeqState.stepping) = true := by rw [hstate]; rfl
    rw [hordering] at hwork
    dsimp only at hwork
    rw [hne] at hwork
    rw [hseen, hflash, hwork, State.starts_of_busy]
    · exact State.done_endsIn _ hq
    · exact fun h => by cases h
  case first =>
    rw [hmissed c hc, State.flashMiss, if_pos hfirst]
    exact State.done_endsIn _ hq
  case second =>
    have hframe := s.haltAt_seqFrame .lamp .flash
    have hseq := s.haltAt_seq .lamp .flash
    rw [hmissed c hc, State.flashMiss, if_neg hsecond]
    refine ⟨_, State.done_endsIn _ (hframe.quiet hq), ?_⟩
    rw [hseq, hframe.queue, hframe.mem]
    exact ⟨rfl, rfl, rfl, rfl, rfl, rfl, rfl, rfl, rfl, s.haltAt_ownership _ _, s.flagSet_haltAt _ _, rfl⟩

end Sys2Proof.Machine
end

section
/-! PROOFS. The machine taken and returned (R124, R136 to R139). -/

namespace Sys2Proof.Machine

theorem State.setOwnership_changed {s : State} {o : Ownership} (h : s.panel.ownership ≠ o) :
    s.setOwnership o = (s.ownBy o).display := if_neg h

theorem State.flagSet_ownBy (s : State) (o : Ownership) : (s.ownBy o).flagSet .ownership = true :=
  State.flagSet_raise_same { s with panel.ownership := o } .ownership

theorem State.flagSet_ownBy_mono {s : State} {f : EventFlag} (h : s.flagSet f = true) (o : Ownership) :
    (s.ownBy o).flagSet f = true :=
  (State.flagSet_raise { s with panel.ownership := o } .ownership f).trans (by rw [Bool.or_eq_true]; exact .inl h)

theorem State.mem_marks_ownBy (s : State) (o : Ownership) : 2 ∈ (s.ownBy o).status.marks :=
  (State.mem_mark _ _ _).2 (.inl (List.mem_singleton.2 rfl))

/-- A change of ownership (R139). -/
theorem State.setOwnership_facts {s : State} {o : Ownership} (h : s.panel.ownership ≠ o) :
    (s.setOwnership o).flagSet .ownership = true ∧ 2 ∈ (s.setOwnership o).status.marks := by
  rw [State.setOwnership_changed h]
  exact ⟨s.flagSet_ownBy o, s.mem_marks_ownBy o⟩

/-! ### The alarm's message (R147) -/

theorem mem_unsent_alarmOnce {s : State} {m : PanelMessage} (h : m ∈ s.panel.unsent) (hm : m.isAlarm = false) :
    m ∈ s.alarmOnce.panel.unsent := by
  unfold State.alarmOnce
  split
  · exact mem_unsent_toPanel_of_mem h fun l hl => List.mem_filter.2 ⟨hl, by rw [hm]; rfl⟩
  · exact h

theorem State.alarmOnce_busy {s : State} (h : s.panel.sending ≠ none) : s.alarmOnce.panel.sending = s.panel.sending
    ∧ s.alarmOnce.panel.outbound.filter PanelMessage.isDisplay = s.panel.outbound.filter PanelMessage.isDisplay := by
  unfold State.alarmOnce
  split
  · rw [State.toPanel_busy h]
    refine ⟨rfl, ?_⟩
    have hdisplay : (fun x : PanelMessage => x.isDisplay && !x.isAlarm) = PanelMessage.isDisplay := by
      funext x
      cases x <;> rfl
    show List.filter PanelMessage.isDisplay (s.panel.outbound.filter (fun x => !x.isAlarm) ++ [.alarm .once]) = _
    rw [List.filter_append, List.filter_filter, hdisplay]
    exact List.append_nil _
  · exact ⟨rfl, rfl⟩

theorem State.line1_halted {s : State} (h : s.seq.state = .halted) (r : Option ManualResult) :
    s.line1 false r = .halted s.seq.halt s.seq.failed s.heldSubject := by
  unfold State.line1
  rw [if_neg (by decide), if_pos h]

theorem State.line1_status {s : State} (h : s.seq.state ≠ .halted) (hcalls : s.panel.calls = []) (r : Option ManualResult) :
    s.line1 false r =
      .status s.panel.ownership s.seq.state (s.exposure.tag.map (·.number)) (s.seq.film.remaining / ticksPerInch) r := by
  unfold State.line1
  rw [if_neg (by decide), if_neg h, hcalls]

/-! ### HALTED left and entered again (R123, R124) -/

theorem State.mem_marks_markIf {s : State} {o : Nat} (h : o ∈ s.status.marks) (b : Bool) (l : List Nat) :
    o ∈ (s.markIf b l).status.marks := by
  unfold State.markIf
  split
  · exact (State.mem_mark _ _ _).2 (.inr h)
  · exact h

theorem State.mem_marks_setHalt {s : State} {o : Nat} (k : Option HaltKind) (h : o ∈ s.status.marks) :
    o ∈ (s.setHalt k).status.marks := State.mem_marks_markIf (s := { s with seq.halt := k }) h _ _

theorem State.mem_marks_setSeq {s : State} {o : Nat} (x : SeqState) (h : o ∈ s.status.marks) :
    o ∈ (s.setSeq x).status.marks := State.mem_marks_markIf (s := { s with seq.state := x }) h _ _

/-- HALTED is left for the state of the failed action, with one SHOW (R124, R145). -/
theorem State.leaveHalt_frame {s : State} {a : Action} (hin : s.inExposure ≠ none) (ha : s.seq.failed = some a) :
    ∃ v : State, v = { s with
        seq := { s.seq with expiry := 0, miss := 0, failed := none, halt := none, state := a.seqState }
        status.marks := v.status.marks }
      ∧ (∀ o ∈ s.status.marks, o ∈ v.status.marks) ∧ s.leaveHalt = v.display := by
  have hnone := State.setHalt_frame { s with seq.expiry := 0, seq.miss := 0, seq.failed := none } none
  have hkept := fun o (h : o ∈ s.status.marks) =>
    State.mem_marks_setHalt (s := { s with seq.expiry := 0, seq.miss := 0, seq.failed := none }) none h
  rw [State.setHalt_seq] at hnone
  have hleave : s.leaveHalt = ((State.setHalt { s with seq.expiry := 0, seq.miss := 0, seq.failed := none } none).setSeq
      a.seqState).display := by
    unfold State.leaveHalt
    rw [ha, if_pos (Option.isSome_iff_ne_none.2 hin)]
    rfl
  generalize State.setHalt { s with seq.expiry := 0, seq.miss := 0, seq.failed := none } none = u at hnone hkept hleave
  have hset := u.setSeq_frame a.seqState
  rw [State.setSeq_seq] at hset
  refine ⟨u.setSeq a.seqState, ?_, fun o ho => State.mem_marks_setSeq _ (hkept o ho), hleave⟩
  rw [hset, hnone]

/-- A halt under another ownership than PANEL changes the ownership with one SHOW (R123, R137). -/
theorem State.haltAt_unowned {s : State} (k : HaltKind) (a : Action) (h : s.panel.ownership ≠ .panel) :
    ∃ v : State, v = { s with
        seq := { s.seq.forget k with
          failed := some a, action := none, order := none, deadline := none, state := .halted, halt := some k }
        panel.ownership := .panel
        status.flags := v.status.flags
        status.marks := v.status.marks }
      ∧ v.flagSet .ownership = true ∧ v.flagSet k.flag = true ∧ 2 ∈ v.status.marks
      ∧ s.haltAt k a = v.display.alarmOnce := by
  have hset := State.setSeq_frame
    { s with seq := { s.seq.forget k with failed := some a, action := none, order := none, deadline := none } } .halted
  have hhalt : s.haltAt k a = (fun t : State => (if t.panel.ownership = .panel then t.display else t.setOwnership .panel).alarmOnce)
      (((State.setSeq { s with seq := { s.seq.forget k with
        failed := some a, action := none, order := none, deadline := none } } .halted).setHalt (some k)).raise k.flag) := rfl
  rw [State.setSeq_seq] at hset
  rw [hhalt]
  generalize State.setSeq { s with seq := { s.seq.forget k with
    failed := some a, action := none, order := none, deadline := none } } .halted = u at hset
  have hkind := u.setHalt_frame (some k)
  rw [State.setHalt_seq] at hkind
  generalize u.setHalt (some k) = w at hkind
  have hraised := w.raise_frame k.flag
  have hflag := State.flagSet_raise_same w k.flag
  generalize w.raise k.flag = x at hraised hflag
  have howned := x.ownBy_frame .panel
  rw [State.ownBy_ownership] at howned
  have hx : x.panel.ownership ≠ .panel := by
    rw [hraised, hkind, hset]
    exact h
  refine ⟨x.ownBy .panel, ?_, x.flagSet_ownBy _, State.flagSet_ownBy_mono hflag _, x.mem_marks_ownBy _, ?_⟩
  · rw [howned, hraised, hkind, hset]
  · dsimp only
    rw [if_neg hx, State.setOwnership_changed hx]

/-- RETURN of a HALTED machine: the ownership changes, HALTED is left with the one SHOW of both, and the film work of the
failed action is taken up afresh (R124, R138). -/
theorem State.returnToCopy_halted {s : State} {e : Entry} {a : Action} (hhalted : s.seq.state = .halted)
    (he : s.inExposure = some e) (ha : s.seq.failed = some a) (hfilm : a = .leadMove ∨ a = .filmMove ∨ a = .cut) :
    ∃ v : State, v = { s with
        seq := { s.seq with expiry := 0, miss := 0, failed := none, halt := none, state := a.seqState }
        panel.ownership := .copy
        status.flags := v.status.flags
        status.marks := v.status.marks }
      ∧ v.flagSet .ownership = true ∧ 2 ∈ v.status.marks ∧ s.returnToCopy = (v.display.filmWork e).starts := by
  have howned := s.ownBy_frame .copy
  rw [State.ownBy_ownership] at howned
  have hflag := s.flagSet_ownBy .copy
  have hmark := s.mem_marks_ownBy .copy
  have hgo : s.returnToCopy = (s.ownBy .copy).goOn := by
    unfold State.returnToCopy
    rw [if_pos hhalted]
  generalize s.ownBy .copy = u at howned hflag hmark hgo
  have hin : u.inExposure = some e := by rw [howned]; exact he
  have hfailed : u.seq.failed = some a := by rw [howned]; exact ha
  obtain ⟨v, hv, hkept, hleave⟩ := State.leaveHalt_frame (by rw [hin]; exact fun h => by cases h) hfailed
  have hresume : u.goOn = (u.leaveHalt.filmWork e).starts := by
    have hstate : u.seq.state = .halted := by rw [howned]; exact hhalted
    have hcopy : u.panel.ownership ≠ .panel := by rw [howned]; exact fun h => by cases h
    unfold State.goOn
    rw [hstate]
    dsimp only
    rw [if_neg hcopy]
    unfold State.resume
    rw [hin, hfailed]
    rcases hfilm with rfl | rfl | rfl <;> rfl
  refine ⟨v, ?_, ?_, hkept 2 hmark, ?_⟩
  · rw [hv, howned]
  · rw [hv]
    exact hflag
  · rw [hgo, hresume, hleave]

/-- Settles O53: TAKE, RETURN refused, and RETURN by the state of the Sequencer. -/
theorem ownershipIsTakenAndReturned : Obligations.OwnershipIsTakenAndReturned := by
  intro s hq
  have hreturn (h : s.panel.ownership = .panel) : exec .returnMachine s = s.returnToCopy.done := by
    show execReturnMachine s = _
    rw [execReturnMachine, if_pos h]
  refine ⟨fun hcopy => ?take, fun hown hroom => ?refused, fun hpanel hidle hnone => ?idle, fun e hpanel hhalted hfailed he hk => ?cut,
    fun e m a hpanel hhalted he hfailed hpos hshort hcase => ?short⟩
  case take =>
    have htaken : exec .take s = (s.setOwnership (if s.inExposure.isSome then .taking else .panel)).done := by
      show s.answer (if s.panel.ownership = .copy then _ else none) = _
      rw [if_pos hcopy]
      rfl
    have hto : (if s.inExposure.isSome then Ownership.taking else .panel) = if s.inExposure = none then .panel else .taking := by
      cases s.inExposure <;> rfl
    have hne : s.panel.ownership ≠ if s.inExposure = none then Ownership.panel else .taking := by
      rw [hcopy]
      split <;> exact fun h => by cases h
    rw [htaken, hto]
    generalize (if s.inExposure = none then Ownership.panel else .taking) = o at hne
    have hframe := s.setOwnership_seqFrame o
    obtain ⟨hflag, hmark⟩ := State.setOwnership_facts hne
    exact ⟨_, State.done_endsIn _ (hframe.quiet hq), State.setOwnership_ownership _ _, hflag, hmark, State.setOwnership_seq _ _,
      hframe.queue, hframe.mem, hframe.intake, hframe.composer, hframe.font, hframe.proof⟩
  case refused =>
    have hrefused : exec .returnMachine s = (s.refuse .notTaken).done := by
      show execReturnMachine s = _
      rw [execReturnMachine, if_neg hown]
    rw [hrefused]
    exact State.refused_endsIn hq hroom _
  case idle =>
    have hne : s.panel.ownership ≠ .copy := by rw [hpanel]; decide
    have hframe := s.setOwnership_seqFrame .copy
    obtain ⟨hflag, hmark⟩ := State.setOwnership_facts hne
    have hgo : s.returnToCopy = s.setOwnership .copy := by
      unfold State.returnToCopy State.goOn
      rw [if_neg (by rw [hidle]; decide), State.setOwnership_seq, hidle]
      exact State.starts_of_none (by rw [hframe.queue]; exact hnone)
    rw [hreturn hpanel, hgo]
    exact ⟨_, State.done_endsIn _ (hframe.quiet hq), State.setOwnership_ownership _ _, hflag, hmark, State.setOwnership_seq _ _,
      hframe.queue, hframe.mem, hframe.font⟩
  case cut =>
    obtain ⟨u, hu, -, -, hresume⟩ := State.returnToCopy_halted hhalted he hfailed (.inr (.inr rfl))
    rw [State.filmWork_cut hk] at hresume
    have hsent := u.display.sendOrder_frame .cut .cut
    have hshown := u.display_frame
    generalize u.display = w at hresume hsent hshown
    generalize w.sendOrder .cut .cut = t at hresume hsent
    have hgo : s.returnToCopy = t := hresume.trans (State.starts_of_busy (by rw [hsent]; exact fun h => by cases h))
    rw [hreturn hpanel, hgo]
    refine ⟨t, State.done_endsIn _ ?_, ?_⟩
    all_goals rw [hsent, hshown, hu]
    · exact hq
    · exact ⟨rfl, rfl, rfl, rfl, rfl, rfl, rfl, rfl, rfl, rfl⟩
  case short =>
    have ha : a = .leadMove ∨ a = .filmMove ∨ a = .cut := by
      rcases hcase with ⟨-, rfl⟩ | ⟨l, -, -, rfl⟩
      · exact .inr (.inl rfl)
      · exact .inl rfl
    have hmoving : a.seqState = .moving := by rcases hcase with ⟨-, rfl⟩ | ⟨l, -, -, rfl⟩ <;> rfl
    obtain ⟨u, hu, -, -, hresume⟩ := State.returnToCopy_halted hhalted he hfailed ha
    have hshown := u.display_frame
    have hfree := State.toPanel_free (s := u) (m := .display (u.line1 false none) u.panel.hostLine)
    change _ → _ → u.display = _ at hfree
    generalize u.display = w at hresume hshown hfree
    have hfilm : w.seq.film.remaining < m := by rw [hshown, hu]; exact hshort
    have hwork : w.filmWork e = w.haltAt .filmLow a := by
      rcases hcase with ⟨hk, rfl⟩ | ⟨l, hk, rfl, rfl⟩
      · exact (State.filmWork_forward hk hpos).trans (State.forwardMove_short _ hfilm)
      · exact (State.filmWork_lead hk (by omega)).trans (State.forwardMove_short _ hfilm)
    obtain ⟨x, hx, hownership, hlow, hmark, hhalt⟩ := State.haltAt_unowned (s := w) .filmLow a (by
      rw [hshown, hu]
      exact fun h => by cases h)
    have hline : x.line1 false none = .halted (some .filmLow) (some a) s.heldSubject := by
      have hsubject : x.heldSubject = s.heldSubject := by rw [hx, hshown, hu]; rfl
      rw [State.line1_halted (by rw [hx]), hsubject, hx]
    have hhost : x.panel.hostLine = s.panel.hostLine := by rw [hx, hshown, hu]
    have hmade : .display (.halted (some .filmLow) (some a) s.heldSubject) s.panel.hostLine ∈ x.display.panel.unsent := by
      rw [← hline, ← hhost]
      exact mem_unsent_toPanel x _
    have hlink : s.panel.sending = none → s.panel.outbound = [] → s.panel.calls = [] →
        x.display.panel.sending = some (.display (.status .copy .moving (s.exposure.tag.map (·.number))
          (s.seq.film.remaining / 1440) none) s.panel.hostLine)
        ∧ x.display.panel.outbound = [.display (.halted (some .filmLow) (some a) s.heldSubject) s.panel.hostLine] := by
      intro hsending houtbound hcalls
      have hfirst : u.line1 false none =
          .status .copy .moving (s.exposure.tag.map (·.number)) (s.seq.film.remaining / 1440) none := by
        have hmoved : u.seq.state = .moving := by rw [hu]; exact hmoving
        rw [State.line1_status (by rw [hmoved]; decide) (by rw [hu]; exact hcalls), hmoved, hu]
        rfl
      have hw := hfree (by rw [hu]; exact hsending) (by rw [hu]; exact houtbound)
      rw [hfirst] at hw
      have hbusy : x.panel.sending ≠ none := by
        rw [hx, hw]
        exact fun h => by cases h
      have hsecond := State.toPanel_busy hbusy (.display (x.line1 false none) x.panel.hostLine)
      change x.display = _ at hsecond
      have hwaits : x.panel.outbound = [] := by
        rw [hx, hw, hu]
        exact houtbound
      rw [hsecond, hline, hhost, hwaits]
      refine ⟨?_, rfl⟩
      rw [hx, hw, hu]
    have hstatus : x.display.status = x.status := rfl
    have hdisplay := x.display_frame
    generalize x.display = y at hhalt hmade hlink hdisplay hstatus
    have halarm := y.alarmOnce_frame
    have hmade' := mem_unsent_alarmOnce hmade rfl
    have hlink' := y.alarmOnce_busy
    have hflags := y.alarmOnce_status
    rw [← hhalt] at halarm hmade' hlink' hflags
    generalize w.haltAt .filmLow a = t at hwork halarm hmade' hlink' hflags
    have hgo : s.returnToCopy = t := by
      rw [hresume, hwork]
      exact State.starts_of_busy (by rw [halarm, hdisplay, hx]; exact fun h => by cases h)
    have hseq : s.seq = { s.seq with state := .halted, failed := some a } := by rw [← hhalted, ← hfailed]
    rw [hreturn hpanel, hgo]
    refine ⟨t, State.done_endsIn _ ?_, ?_, ?_, ?_, ?_, ?_, ?_, ?_, ?_, ?_, hmade', fun hsending houtbound hcalls => ?_⟩
    · rw [halarm, hdisplay, hx, hshown, hu]
      exact hq
    · rw [halarm, hdisplay, hx]
    · rw [State.flagSet, hflags, hstatus]
      exact hownership
    · rw [State.flagSet, hflags, hstatus]
      exact hlow
    · rw [hflags, hstatus]
      exact hmark
    · rw [halarm, hdisplay, hx, hshown, hu, hseq]
      rfl
    · rw [halarm, hdisplay, hx, hshown, hu]
    · rw [halarm, hdisplay, hx, hshown, hu]
    · rw [halarm, hdisplay, hx, hshown, hu]
    · rw [halarm, hdisplay, hx, hshown, hu]
    · obtain ⟨hsent, hwaits⟩ := hlink hsending houtbound hcalls
      obtain ⟨hsent', hwaits'⟩ := hlink' (by rw [hsent]; exact fun h => by cases h)
      rw [hsent', hsent, hwaits', hwaits]
      exact ⟨rfl, rfl⟩

end Sys2Proof.Machine
end

section
/-! PROOFS. A font requested and a font loaded: the entry, what ends with its old state, and the entries REFUSED for the
font elsewhere (R48, R52, R57, R60, R61, R63, R66). -/

namespace Sys2Proof.Machine

/-! ### What ends with the old state of an entry (R59, R61, R66) -/

theorem State.leaveOldState_other {x : PosState} (hr : x ≠ .requested) (hl : x ≠ .loading) (s : State) (p : Fin 8) :
    s.leaveOldState p x = s := by
  cases x with
  | requested => exact absurd rfl hr
  | loading => exact absurd rfl hl
  | _ => rfl

/-- The requests once a position has left the fetch list: a read for the fetch in flight is given up (R61, R176). -/
def State.requestsWithout (s : State) (p : Fin 8) : PerRequester (Option CycleRequest) :=
  if s.font.fetchList.head? = some p then
    { s.port.requests with library := s.port.requests.library.map (fun q => { q with stale := true }) }
  else s.port.requests

theorem State.leaveFetchList_requests {s : State} (hlib : s.port.disabled.library = false) (p : Fin 8) :
    (s.leaveFetchList p).port.requests = s.requestsWithout p := by
  unfold State.leaveFetchList State.requestsWithout
  dsimp only
  by_cases hhead : s.font.fetchList.head? = some p
  · rw [if_pos (beq_iff_eq.2 hhead), if_pos hhead, State.giveUpRequest_eq]
    rw [State.startFetches_of_idle]
    · rfl
    · rfl
    · exact hlib
  · rw [if_neg (by rw [beq_iff_eq]; exact hhead), if_neg hhead]

/-- The state `s` after the entry at `p` has left the state `x`. -/
def State.withoutState (s : State) (p : Fin 8) (x : PosState) : State := { s with
  font.fetchList := if x = .loading then s.font.fetchList.filter (· ≠ p) else s.font.fetchList
  font.fetch := if x = .loading then s.font.fetchWithout p else s.font.fetch
  port.requests := if x = .loading then s.requestsWithout p else s.port.requests
  panel := if x = .requested then (s.endCall p).panel else s.panel }

theorem State.leaveOldState_eq {s : State} {p : Fin 8} {x : PosState}
    (hlib : x = .loading → s.port.disabled.library = false) : s.leaveOldState p x = s.withoutState p x := by
  unfold State.withoutState
  by_cases hr : x = .requested
  · subst hr
    have hframe := s.endCall_frame p
    show s.endCall p = _
    generalize s.endCall p = t at hframe
    rw [hframe]
    rfl
  by_cases hl : x = .loading
  · subst hl
    have hframe := State.leaveFetchList_frame (hlib rfl) p
    rw [State.leaveFetchList_requests (hlib rfl)] at hframe
    exact hframe
  · rw [State.leaveOldState_other hr hl, if_neg hl, if_neg hl, if_neg hl, if_neg hr]

/-! ### Entries REFUSED for a font (R48) -/

/-- `t` is `s` with the entries outside `p` that are REFUSED for font `n` VACANT, among those of which `f` holds (R48). -/
def Clears (p : Fin 8) (n : Nat) (f : Fin 8 → Prop) (s t : State) : Prop :=
  t = { s with
      font.table := t.font.table
      font.widths := t.font.widths
      composer.fontWait := t.composer.fontWait
      status.marks := t.status.marks }
    ∧ (s.composer.fontWait = none → t.composer.fontWait = none)
    ∧ ∀ q : Fin 8,
      (f q ∧ q ≠ p ∧ s.font.table[q].state = .refused ∧ s.font.table[q].font = n →
        t.font.table[q] = { Position.vacant with inUse := s.font.table[q].inUse } ∧ t.font.widths[q] = none)
      ∧ (¬ (f q ∧ q ≠ p ∧ s.font.table[q].state = .refused ∧ s.font.table[q].font = n) →
        t.font.table[q] = s.font.table[q] ∧ t.font.widths[q] = s.font.widths[q])

/-- One entry looked at. -/
def State.clearAt (p : Fin 8) (n : Nat) (s : State) (q : Fin 8) : State :=
  if q ≠ p ∧ s.font.table[q].state = .refused ∧ s.font.table[q].font = n then s.vacate q none else s

theorem State.clearRefused_eq (s : State) (p : Fin 8) (n : Nat) :
    s.clearRefused p n = (List.finRange 8).foldl (State.clearAt p n) s := rfl

theorem State.clearAt_clears (p : Fin 8) (n : Nat) (s : State) (q : Fin 8) : Clears p n (· = q) s (s.clearAt p n q) := by
  unfold State.clearAt
  by_cases h : q ≠ p ∧ s.font.table[q].state = .refused ∧ s.font.table[q].font = n
  · have hframe := s.vacating_frame q none
    have hwait : s.composer.fontWait = none → (s.vacating q none).composer.fontWait = none :=
      fun hnone => State.setPosition_fontWait_none hnone q _
    have hvacant : s.vacate q none = s.vacating q none :=
      State.vacate_other (by rw [h.2.1]; decide) (by rw [h.2.1]; decide) none
    rw [if_pos h, hvacant]
    generalize s.vacating q none = t at hframe hwait
    refine ⟨by rw [hframe], hwait, fun r => ⟨fun hr => ?_, fun hr => ?_⟩⟩
    · obtain ⟨rfl, -⟩ := hr
      rw [hframe]
      dsimp only
      rw [getElem_set_fin_same, getElem_set_fin_same]
      exact ⟨rfl, rfl⟩
    · have hne : r ≠ q := fun heq => hr ⟨heq, heq ▸ h⟩
      rw [hframe]
      dsimp only
      rw [getElem_set_fin_other (h := hne), getElem_set_fin_other (h := hne)]
      exact ⟨rfl, rfl⟩
  · rw [if_neg h]
    refine ⟨rfl, id, fun r => ⟨fun hr => ?_, fun _ => ⟨rfl, rfl⟩⟩⟩
    obtain ⟨rfl, hr⟩ := hr
    exact absurd hr h

namespace Clears

theorem trans {p : Fin 8} {n : Nat} {f g : Fin 8 → Prop} {s t u : State} (h : Clears p n f s t) (h' : Clears p n g t u) :
    Clears p n (fun q => f q ∨ g q) s u := by
  obtain ⟨hframe, hwait, hentry⟩ := h
  obtain ⟨hframe', hwait', hentry'⟩ := h'
  refine ⟨by rw [hframe', hframe], fun h => hwait' (hwait h), fun q => ?_⟩
  obtain ⟨hgone, hstood⟩ := hentry q
  obtain ⟨hgone', hstood'⟩ := hentry' q
  by_cases hq : f q ∧ q ≠ p ∧ s.font.table[q].state = .refused ∧ s.font.table[q].font = n
  · obtain ⟨htable, hwidths⟩ := hgone hq
    obtain ⟨htable', hwidths'⟩ := hstood' (fun h => by
      have := h.2.2.1
      rw [htable] at this
      cases this)
    refine ⟨fun _ => ⟨htable'.trans htable, hwidths'.trans hwidths⟩, fun h => absurd ⟨.inl hq.1, hq.2⟩ h⟩
  · obtain ⟨htable, hwidths⟩ := hstood hq
    rw [htable] at hgone' hstood'
    rw [hwidths] at hstood'
    refine ⟨fun h => hgone' ⟨h.1.resolve_left fun hf => hq ⟨hf, h.2⟩, h.2⟩, fun h => hstood' fun h' => h ⟨.inr h'.1, h'.2⟩⟩

theorem foldl (p : Fin 8) (n : Nat) (l : List (Fin 8)) (s : State) :
    Clears p n (· ∈ l) s (l.foldl (State.clearAt p n) s) := by
  induction l generalizing s with
  | nil => exact ⟨rfl, id, fun q => ⟨fun h => absurd h.1 List.not_mem_nil, fun _ => ⟨rfl, rfl⟩⟩⟩
  | cons q l ih =>
    have h := (s.clearAt_clears p n q).trans (ih (s.clearAt p n q))
    simpa only [List.foldl_cons, List.mem_cons] using h

end Clears

theorem State.clearRefused_clears (s : State) (p : Fin 8) (n : Nat) : Clears p n (fun _ => True) s (s.clearRefused p n) := by
  have h := Clears.foldl p n (List.finRange 8) s
  simpa only [List.mem_finRange, State.clearRefused_eq] using h

end Sys2Proof.Machine
end

section
/-! PROOFS. The operator's reports on the disc, and MOUNT and RELEASE (R60 to R66, R71, R96). -/

namespace Sys2Proof.Machine

/-! ### An entry replaced (R48, R52, R60, R63) -/

/-- The state `s` with entry `e` at `p`, its width record dropped, and not yet left what its old state had. -/
def State.placing (s : State) (p : Fin 8) (e : Position) : State := (s.setPosition p e).dropWidths p

theorem State.placing_frame (s : State) (p : Fin 8) (e : Position) : s.placing p e = { s with
    font := { s.font with table := s.font.table.set p e, widths := s.font.widths.set p none }
    composer.fontWait := (s.placing p e).composer.fontWait
    status.marks := (s.placing p e).status.marks } := by
  unfold State.placing State.dropWidths State.setPosition
  dsimp only
  split <;> rfl

/-- The state `s` with entry `e` for font `n` at `p` in place of the entry there, and with no entry REFUSED for the font
elsewhere. -/
def State.replacing (s : State) (p : Fin 8) (n : Nat) (e : Position) : State :=
  ((s.placing p e).leaveOldState p s.font.table[p].state).clearRefused p n

/-- What the replacement of an entry leads to. -/
structure Replaced (s t : State) (p : Fin 8) (n : Nat) (e : Position) : Prop where
  frame : t = { s with
    font := { s.font with
      table := t.font.table
      widths := t.font.widths
      fetchList := if s.font.table[p].state = .loading then s.font.fetchList.filter (· ≠ p) else s.font.fetchList
      fetch := if s.font.table[p].state = .loading then s.font.fetchWithout p else s.font.fetch }
    port.requests := if s.font.table[p].state = .loading then s.requestsWithout p else s.port.requests
    panel := { s.panel with
      outbound := t.panel.outbound
      sending := t.panel.sending
      calls := if s.font.table[p].state = .requested then s.panel.calls.filter (· ≠ p) else s.panel.calls
      alarm := t.panel.alarm }
    composer.fontWait := t.composer.fontWait
    status.marks := t.status.marks }
  panel : s.font.table[p].state ≠ .requested → t.panel = s.panel
  wait : s.composer.fontWait = none → t.composer.fontWait = none
  entry : t.font.table[p] = e
  widths : t.font.widths[p] = none
  others (q : Fin 8) (hq : q ≠ p) :
    (s.font.table[q].state = .refused ∧ s.font.table[q].font = n →
      t.font.table[q] = { Position.vacant with inUse := s.font.table[q].inUse } ∧ t.font.widths[q] = none)
    ∧ (¬ (s.font.table[q].state = .refused ∧ s.font.table[q].font = n) →
      t.font.table[q] = s.font.table[q] ∧ t.font.widths[q] = s.font.widths[q])

theorem State.placing_fontWait_none {s : State} (h : s.composer.fontWait = none) (p : Fin 8) (e : Position) :
    (s.placing p e).composer.fontWait = none := State.setPosition_fontWait_none h p e

theorem State.withoutState_panel_frame (s : State) (p : Fin 8) (x : PosState) : (s.withoutState p x).panel = { s.panel with
    outbound := (s.withoutState p x).panel.outbound
    sending := (s.withoutState p x).panel.sending
    calls := if x = .requested then s.panel.calls.filter (· ≠ p) else s.panel.calls
    alarm := (s.withoutState p x).panel.alarm } := by
  by_cases h : x = .requested
  · have hpanel : (s.withoutState p x).panel = (s.endCall p).panel := if_pos h
    have hcalls := s.endCall_calls p
    have hframe := s.endCall_frame p
    rw [hpanel, if_pos h, ← hcalls]
    generalize s.endCall p = t at hframe
    rw [hframe]
  · have hpanel : (s.withoutState p x).panel = s.panel := if_neg h
    rw [hpanel, if_neg h]

theorem State.replacing_replaced {s : State} {p : Fin 8} (n : Nat) (e : Position)
    (hlib : s.font.table[p].state = .loading → s.port.disabled.library = false) :
    Replaced s (s.replacing p n e) p n e := by
  have hplaced := s.placing_frame p e
  have hwait := fun h => State.placing_fontWait_none (s := s) h p e
  have hlib' : s.font.table[p].state = .loading → (s.placing p e).port.disabled.library = false := by
    rw [hplaced]
    exact hlib
  unfold State.replacing
  rw [State.leaveOldState_eq hlib']
  generalize s.placing p e = u at hplaced hwait
  have hpanel := u.withoutState_panel_frame p s.font.table[p].state
  have hwithout : u.withoutState p s.font.table[p].state = { u with
      font.fetchList := if s.font.table[p].state = .loading then s.font.fetchList.filter (· ≠ p) else s.font.fetchList
      font.fetch := if s.font.table[p].state = .loading then s.font.fetchWithout p else s.font.fetch
      port.requests := if s.font.table[p].state = .loading then s.requestsWithout p else s.port.requests
      panel := (u.withoutState p s.font.table[p].state).panel } := by
    rw [hplaced]
    rfl
  have hother : s.font.table[p].state ≠ .requested → (u.withoutState p s.font.table[p].state).panel = s.panel := fun h => by
    rw [hplaced]
    exact if_neg h
  generalize u.withoutState p s.font.table[p].state = v at hpanel hwithout hother
  obtain ⟨hframe, hwait', hentries⟩ := v.clearRefused_clears p n
  generalize v.clearRefused p n = t at hframe hwait' hentries
  have hv (q : Fin 8) : v.font.table[q] = (s.font.table.set p e)[q] ∧ v.font.widths[q] = (s.font.widths.set p none)[q] := by
    rw [hwithout, hplaced]
    exact ⟨rfl, rfl⟩
  refine ⟨?_, fun h => ?_, fun h => hwait' ?_, ?_, ?_, fun q hq => ?_⟩
  · rw [hframe, hwithout, hpanel, hplaced]
  · rw [hframe]
    exact hother h
  · rw [hwithout]
    exact hwait h
  · obtain ⟨htable, -⟩ := (hentries p).2 (fun h => h.2.1 rfl)
    rw [htable, (hv p).1, getElem_set_fin_same]
  · obtain ⟨-, hwidths⟩ := (hentries p).2 (fun h => h.2.1 rfl)
    rw [hwidths, (hv p).2, getElem_set_fin_same]
  · obtain ⟨hgone, hstood⟩ := hentries q
    have htable : v.font.table[q] = s.font.table[q] := (hv q).1.trans (getElem_set_fin_other (h := hq) _ _)
    have hwidths : v.font.widths[q] = s.font.widths[q] := (hv q).2.trans (getElem_set_fin_other (h := hq) _ _)
    rw [htable] at hgone hstood
    rw [hwidths] at hstood
    exact ⟨fun h => hgone ⟨trivial, hq, h⟩, fun h => hstood fun h' => h h'.2.2⟩

/-! ### A font requested (R52, R57, R63) -/

/-- The entry a request makes (R52, R57, R63). -/
def Position.requestedFor (e : Position) (n : Nat) (fix wait : Bool) (o : Origin) : Position :=
  { font := n, state := .requested, reason := none, age := 0, inUse := e.inUse, callStep := 0, wait := wait, fix := fix,
    origin := some o, remove := e.toRemove, timer := some 5 }

theorem Position.removal_eq (e : Position) : e.removal = e.toRemove := by
  obtain ⟨font, state, reason, age, inUse, callStep, wait, fix, origin, remove, timer⟩ := e
  cases state with
  | refused => 
    cases reason with
    | none => rfl
    | some r => cases r <;> rfl
  | _ => rfl

theorem State.requestFont_eq (s : State) (p : Fin 8) (n : Nat) (fix wait : Bool) (o : Origin) :
    s.requestFont p n fix wait o = (s.replacing p n (s.font.table[p].requestedFor n fix wait o)).makeCall p := by
  unfold State.requestFont Position.requestedFor
  rw [← Position.removal_eq]
  rfl

/-- A call made (R57, R135, R147). -/
theorem State.makeCall_calling {s : State} {p : Fin 8} {n : Nat} {remove : Option Nat} (hn : s.font.table[p].font = n)
    (hr : s.font.table[p].remove = remove) : (s.makeCall p).panel.alarm = .sounding
      ∧ (s.makeCall p).flagSet .mountCall = true ∧ .mountCall p n remove ∈ (s.makeCall p).panel.unsent
      ∧ .alarm .sound ∈ (s.makeCall p).panel.unsent := by
  have hcall : s.makeCall p = State.raise (State.toPanel (State.toPanel
      { s with panel.calls := s.panel.calls.filter (· ≠ p) ++ [p], panel.alarm := .sounding }
      (.mountCall p n remove)) (.alarm .sound)) .mountCall := by
    subst hn hr
    rfl
  rw [hcall]
  generalize hu : State.toPanel { s with panel.calls := s.panel.calls.filter (· ≠ p) ++ [p], panel.alarm := .sounding }
    (.mountCall p n remove) = u
  have hmade : .mountCall p n remove ∈ u.panel.unsent := hu ▸ mem_unsent_toPanel _ _
  have halarm : u.panel.alarm = .sounding := hu ▸ rfl
  have hkept : .mountCall p n remove ∈ (u.toPanel (.alarm .sound)).panel.unsent :=
    mem_unsent_toPanel_of_mem hmade fun l hl => List.mem_filter.2 ⟨hl, rfl⟩
  have hsound := mem_unsent_toPanel u (.alarm .sound)
  refine ⟨?_, State.flagSet_raise_same _ _, ?_, ?_⟩
  all_goals rw [State.raise_frame]
  · exact halarm
  · exact hkept
  · exact hsound

end Sys2Proof.Machine
end

section
/-! PROOFS. The operator's reports on the disc (R60 to R62, R66, R71, R140). -/

namespace Sys2Proof.Machine

/-! ### A font loaded (R60, R66, R71) -/

/-- The entry a MOUNTED report makes (R60). -/
def Position.loadedFor (e : Position) (n : Nat) (fix : Bool) (o : Option Origin) : Position :=
  { e with font := n, state := .loading, reason := none, age := 0, fix := fix, origin := o, remove := none, timer := none }

theorem State.loadFont_eq (s : State) (p : Fin 8) (n : Nat) (fix : Bool) (o : Option Origin) :
    s.loadFont p n fix o = (s.replacing p n (s.font.table[p].loadedFor n fix o)).joinFetchList p := rfl

theorem State.joinFetchList_enabled {s : State} (hlib : s.port.disabled.library = false) (p : Fin 8) :
    s.joinFetchList p = { s with
      font.fetchList := s.font.fetchList.filter (· ≠ p) ++ [p]
      font.fetch := if s.font.fetch = none then some (.search 0) else s.font.fetch } := by
  unfold State.joinFetchList
  by_cases h : s.font.fetch = none
  · rw [State.startFetches_of_idle (by exact h) (by exact hlib), if_pos h, if_neg (by simp)]
  · obtain ⟨f, hf⟩ := Option.ne_none_iff_exists'.1 h
    rw [State.startFetches_of_fetch (f := f) (by exact hf), if_neg h]

theorem State.beginFetches_of_nil {s : State} (h : s.font.fetchList = []) (n : Nat) : s.beginFetches n = s := by
  cases n with
  | zero => rfl
  | succ n =>
    unfold State.beginFetches
    rw [h]

/-- With LIBRARY disabled a fetch that comes to the head ends at once in REFUSED, MEMORY ERROR (R71). -/
theorem State.joinFetchList_disabled {s : State} {p : Fin 8} (hlib : s.port.disabled.library = true)
    (hlist : s.font.fetchList.filter (· ≠ p) = []) (hfetch : s.font.fetch = none) :
    s.joinFetchList p = State.refusePosition { s with font.fetchList := [] } p .memoryError := by
  have hrefused := State.refusePosition_fetchList { s with font.fetchList := [] } p .memoryError
  unfold State.joinFetchList State.startFetches State.beginFetches
  rw [hlist, hfetch]
  dsimp only [List.nil_append]
  rw [if_pos hlib]
  exact State.beginFetches_of_nil hrefused _

/-! ### The values of the reports (R140) -/

theorem asPosition_high {p : Nat} (h : 8 ≤ p) : asPosition p = none := dif_neg (by omega)

theorem isFontNumber_iff (n : Nat) : isFontNumber n = true ↔ 1 ≤ n ∧ n ≤ 999 := by simp [isFontNumber]

theorem Position.claims_iff (e : Position) (n : Nat) : e.claims n = true ↔
    e.font = n ∧ (e.state = .requested ∨ e.state = .loading ∨ e.state = .mounted ∨ e.state = .fixed) := by
  simp [Position.claims, Position.ready, or_assoc]

theorem State.heldElsewhere_iff (s : State) (p : Fin 8) (n : Nat) : s.heldElsewhere p n = true ↔
    ∃ q, q ≠ p ∧ s.font.table[q].font = n ∧ (s.font.table[q].state = .requested ∨ s.font.table[q].state = .loading
      ∨ s.font.table[q].state = .mounted ∨ s.font.table[q].state = .fixed) := by
  simp [State.heldElsewhere, Position.claims_iff]

section
variable {s : State} {p : Fin 8} {n : Nat}

theorem State.mountedReport_requested (h : s.font.table[p].state = .requested) : s.mountedReport p n =
    if s.font.table[p].font = n then s.loadFont p n s.font.table[p].fix s.font.table[p].origin
    else s.refuse (.wrongFont s.font.table[p].font) := by
  unfold State.mountedReport
  exact if_pos h

theorem State.mountedReport_loading (h : s.font.table[p].state = .loading) : s.mountedReport p n = s.refuse .loading := by
  unfold State.mountedReport
  dsimp only
  rw [if_neg (by rw [h]; decide), if_pos h]

theorem State.mountedReport_other (hr : s.font.table[p].state ≠ .requested) (hl : s.font.table[p].state ≠ .loading) :
    s.mountedReport p n = if 0 < s.font.table[p].inUse then s.refuse .inUse
      else if s.heldElsewhere p n then s.refuse .duplicate else s.loadFont p n false (some .panel) := by
  unfold State.mountedReport
  dsimp only
  rw [if_neg hr, if_neg hl]

end

theorem exec_mounted (s : State) (p : Fin 8) {n : Nat} (hlow : 1 ≤ n) (hhigh : n ≤ 999) :
    exec (.mounted p n) s = (s.mountedReport p n).done := by
  show execMounted p n s = _
  unfold execMounted
  rw [asPosition_val]
  dsimp only
  rw [if_pos ((isFontNumber_iff n).2 ⟨hlow, hhigh⟩)]

theorem exec_mounted_badValue (s : State) {p n : Nat} (h : 8 ≤ p ∨ n = 0 ∨ 999 < n) :
    exec (.mounted p n) s = (s.refuse .badValue).done := by
  show execMounted p n s = _
  unfold execMounted
  by_cases hp : 8 ≤ p
  · rw [asPosition_high hp]
  · have hn : ¬ isFontNumber n = true := by
      rw [isFontNumber_iff]
      omega
    have hval := asPosition_val ⟨p, by omega⟩
    rw [show asPosition p = _ from hval]
    dsimp only
    rw [if_neg hn]

theorem exec_emptied (s : State) (p : Fin 8) : exec (.emptied p) s =
    (if 0 < s.font.table[p].inUse then s.refuse .inUse else s.emptyPosition p).done := by
  show execEmptied p s = _
  unfold execEmptied
  rw [asPosition_val]

theorem exec_decline (s : State) (p : Fin 8) : exec (.decline p) s =
    (if s.font.table[p].state = .requested then (s.refusePosition p .declined).endCall p else s.refuse .notCalled).done := by
  show execDecline p s = _
  unfold execDecline
  rw [asPosition_val]

/-! ### A position emptied (R61, R64) -/

theorem State.emptyPosition_vacant {s : State} {p : Fin 8} (h : s.font.table[p].state = .vacant) : s.emptyPosition p = s :=
  if_pos h

/-- A position that is not in use is emptied, with its call or its fetch gone (R61). -/
theorem State.emptyPosition_frame {s : State} {p : Fin 8} (huse : s.font.table[p].inUse = 0)
    (hv : s.font.table[p].state ≠ .vacant) (hlib : s.font.table[p].state = .loading → s.port.disabled.library = false) :
    s.emptyPosition p = { s with
      font := { s.font with
        table := s.font.table.set p Position.vacant
        widths := s.font.widths.set p none
        fetchList := if s.font.table[p].state = .loading then s.font.fetchList.filter (· ≠ p) else s.font.fetchList
        fetch := if s.font.table[p].state = .loading then s.font.fetchWithout p else s.font.fetch }
      port.requests := if s.font.table[p].state = .loading then s.requestsWithout p else s.port.requests
      panel := (State.withoutState (s.vacating p none) p s.font.table[p].state).panel
      composer.fontWait := (s.emptyPosition p).composer.fontWait
      status.marks := (s.emptyPosition p).status.marks } := by
  have hvacated : s.font.table[p].vacated none = Position.vacant := by
    unfold Position.vacated
    rw [huse]
    rfl
  have hframe := s.vacating_frame p none
  rw [hvacated] at hframe
  have hempty : s.emptyPosition p = (s.vacating p none).leaveOldState p s.font.table[p].state := by
    unfold State.emptyPosition
    rw [if_neg hv, State.vacate_eq]
  rw [hempty, State.leaveOldState_eq (by rw [hframe]; exact hlib)]
  generalize s.vacating p none = u at hframe
  rw [hframe]
  rfl

/-- Settles O54: MOUNTED, EMPTIED and DECLINE by the state of the entry. -/
theorem operatorReportsOnTheDisc : Obligations.OperatorReportsOnTheDisc := by
  intro s hq hroom
  have hrefused (r : ReasonWord) := State.refused_endsIn hq hroom r
  refine ⟨fun p n hbad => ?_, fun p hp => ⟨?_, ?_⟩, fun p => ⟨fun n hlow hhigh => ⟨fun e hcase hdisabled => ?loads, ?_, ?_, ?_⟩,
    ?_, ?_, fun huse hv hlib => ?empties, ?_, fun hcalled => ?declines⟩⟩
  · rw [exec_mounted_badValue s hbad]
    exact hrefused _
  · show EndsIn (execEmptied p s) _
    unfold execEmptied
    rw [asPosition_high hp]
    exact hrefused _
  · show EndsIn (execDecline p s) _
    unfold execDecline
    rw [asPosition_high hp]
    exact hrefused _
  case loads =>
    have hl : s.font.table[p].state ≠ .loading := by
      rcases hcase with ⟨hcalled, -⟩ | ⟨-, hl, -⟩
      · rw [hcalled]
        decide
      · exact hl
    have hreport : s.mountedReport p n = (s.replacing p n e).joinFetchList p := by
      rcases hcase with ⟨hcalled, rfl, rfl⟩ | ⟨hr, hl, huse, hnone, rfl⟩
      · rw [State.mountedReport_requested hcalled, if_pos rfl, State.loadFont_eq]
        rfl
      · have hheld : ¬ s.heldElsewhere p n = true := fun h => by
          obtain ⟨q, hne, hheld⟩ := (s.heldElsewhere_iff p n).1 h
          exact hnone q hne hheld
        rw [State.mountedReport_other hr hl, if_neg (by omega), if_neg hheld, State.loadFont_eq]
        rfl
    have hv := State.replacing_replaced (s := s) n e (fun h => absurd h hl)
    rw [exec_mounted s p hlow hhigh, hreport]
    generalize s.replacing p n e = v at hv
    have hframe := hv.frame
    rw [if_neg hl, if_neg hl, if_neg hl] at hframe
    by_cases hlib : s.port.disabled.library = false
    · have hjoined := State.joinFetchList_enabled (s := v) (by rw [hframe]; exact hlib) p
      generalize v.joinFetchList p = t at hjoined
      refine ⟨t, State.done_endsIn _ ?_, ?_, fun q hne => ?_, fun _ => ⟨?_, ?_, ?_⟩,
        fun h => (by rw [hlib] at h; cases h), ?_, ?_, fun hr => ?_, ?_, ?_, ?_, ?_, ?_⟩
      all_goals rw [hjoined]
      · rw [hframe]
        exact hq
      · exact hv.widths
      · exact hv.others q hne
      · exact hv.entry
      · rw [hframe]
      · rw [hframe]
      · rw [hframe]
      · rw [hframe]
      · exact hv.panel hr
      all_goals rw [hframe]
    · rw [Bool.not_eq_false] at hlib
      obtain ⟨hlist, hfetch⟩ := hdisabled hlib
      have hjoined := State.joinFetchList_disabled (s := v) (p := p) (by rw [hframe]; exact hlib) (by rw [hframe]; exact hlist)
        (by rw [hframe]; exact hfetch)
      have hrefusal := State.refusePosition_frame { v with font.fetchList := [] } p .memoryError
      have htable := State.refusePosition_table { v with font.fetchList := [] } p .memoryError
      have hflag := State.flagSet_refusePosition { v with font.fetchList := [] } p .memoryError
      rw [← hjoined] at hrefusal htable hflag
      generalize v.joinFetchList p = t at hrefusal htable hflag
      refine ⟨t, State.done_endsIn _ ?_, ?_, fun q hne => ?_, fun h => (by rw [hlib] at h; cases h), fun _ => ⟨?_, ?_, ?_, hflag⟩,
        ?_, ?_, fun hr => ?_, ?_, ?_, ?_, ?_, ?_⟩
      · rw [hrefusal, hframe]
        exact hq
      · rw [hrefusal]
        exact hv.widths
      · have hsame : t.font.table[q] = v.font.table[q] ∧ t.font.widths[q] = v.font.widths[q] := by
          rw [htable, hrefusal]
          exact ⟨getElem_set_fin_other (h := hne) _ _, rfl⟩
        rw [hsame.1, hsame.2]
        exact hv.others q hne
      · rw [htable, getElem_set_fin_same]
        exact congrArg (Position.refusedFor · .memoryError) hv.entry
      · rw [hrefusal]
      · rw [hrefusal, hframe]
        exact hfetch
      · rw [hrefusal, hframe]
      · rw [hrefusal, hframe]
      · rw [hrefusal]
        exact hv.panel hr
      all_goals rw [hrefusal, hframe]
  · intro hcalled hother
    rw [exec_mounted s p hlow hhigh, State.mountedReport_requested hcalled, if_neg hother]
    exact hrefused _
  · intro hloading
    rw [exec_mounted s p hlow hhigh, State.mountedReport_loading hloading]
    exact hrefused _
  · intro hr hl
    rw [exec_mounted s p hlow hhigh, State.mountedReport_other hr hl]
    refine ⟨fun huse => ?_, fun q hne hheld huse => ?_⟩
    · rw [if_pos huse]
      exact hrefused _
    · rw [if_neg (by omega), if_pos ((s.heldElsewhere_iff p n).2 ⟨q, hne, hheld⟩)]
      exact hrefused _
  · intro huse
    rw [exec_emptied, if_pos huse]
    exact hrefused _
  · intro huse hv
    rw [exec_emptied, if_neg (by omega), State.emptyPosition_vacant hv]
    exact State.done_endsIn _ hq
  case empties =>
    rw [exec_emptied, if_neg (by omega)]
    have hframe := State.emptyPosition_frame huse hv hlib
    have hvacating : (s.vacating p none).panel = s.panel := by rw [State.vacating_frame]
    have hpanel := (s.vacating p none).withoutState_panel_frame p s.font.table[p].state
    have hother : s.font.table[p].state ≠ .requested →
        ((s.vacating p none).withoutState p s.font.table[p].state).panel = s.panel := fun h => (if_neg h).trans hvacating
    rw [hvacating] at hpanel
    generalize ((s.vacating p none).withoutState p s.font.table[p].state).panel = x at hframe hpanel hother
    generalize s.emptyPosition p = t at hframe
    refine ⟨t, State.done_endsIn _ ?_, ?_⟩
    all_goals rw [hframe]
    · exact hq
    · refine ⟨rfl, rfl, rfl, ?_, hother, fun hl => ⟨if_neg hl, if_neg hl⟩, fun hl => ⟨if_pos hl, ?_⟩, rfl, rfl, rfl, rfl, rfl⟩
      · rw [hpanel]
      · exact if_pos hl
  · intro hr
    rw [exec_decline, if_neg hr]
    exact hrefused _
  case declines =>
    rw [exec_decline, if_pos hcalled]
    have hframe := s.refusePosition_frame p .declined
    have hfont := s.refusePosition_font p .declined
    have hflag := s.flagSet_refusePosition p .declined
    generalize s.refusePosition p .declined = u at hframe hfont hflag
    have hended := u.endCall_frame p
    have hcalls := u.endCall_calls p
    generalize u.endCall p = t at hended hcalls
    refine ⟨t, State.done_endsIn _ ?_, ?_, ?_, ?_, ?_, ?_, ?_⟩
    · rw [hended, hframe]
      exact hq
    · rw [hended, hfont]
    · rw [hcalls, hframe]
    · rw [hended]
      exact hflag
    all_goals rw [hended, hframe]

end Sys2Proof.Machine
end

section
/-! PROOFS. LENSES, MOUNT and RELEASE (R57, R61, R63, R64, R72, R73, R96). -/

namespace Sys2Proof.Machine

section
variable (s : State) (w : Word)

theorem State.consume_requests : (s.consume w).port.requests = s.port.requests := by rw [State.consume_frame]
theorem State.consume_disabled : (s.consume w).port.disabled = s.port.disabled := by rw [State.consume_frame]
theorem State.consume_status_flags : (s.consume w).status.flags = s.status.flags := by rw [State.consume_frame]
theorem State.decoded_requests : (s.decoded w).port.requests = s.port.requests := State.consume_requests s w
theorem State.decoded_disabled : (s.decoded w).port.disabled = s.port.disabled := State.consume_disabled s w
theorem State.decoded_status_flags : (s.decoded w).status.flags = s.status.flags := State.consume_status_flags s w
end

/-! ### A font requested (R52, R57, R63) -/

/-- What a request for font `n` at position `p` leads to. -/
structure Requested (s t : State) (p : Fin 8) (n : Nat) (e : Position) : Prop where
  frame : t = { s with
    font := { s.font with
      table := t.font.table
      widths := t.font.widths
      fetchList := if s.font.table[p].state = .loading then s.font.fetchList.filter (· ≠ p) else s.font.fetchList
      fetch := if s.font.table[p].state = .loading then s.font.fetchWithout p else s.font.fetch }
    port.requests := if s.font.table[p].state = .loading then s.requestsWithout p else s.port.requests
    panel := { s.panel with
      outbound := t.panel.outbound
      sending := t.panel.sending
      calls := s.panel.calls.filter (· ≠ p) ++ [p]
      alarm := .sounding }
    composer.fontWait := t.composer.fontWait
    status.flags := t.status.flags
    status.marks := t.status.marks }
  wait : s.composer.fontWait = none → t.composer.fontWait = none
  entry : t.font.table[p] = e
  widths : t.font.widths[p] = none
  others (q : Fin 8) (hq : q ≠ p) :
    (s.font.table[q].state = .refused ∧ s.font.table[q].font = n →
      t.font.table[q] = { Position.vacant with inUse := s.font.table[q].inUse } ∧ t.font.widths[q] = none)
    ∧ (¬ (s.font.table[q].state = .refused ∧ s.font.table[q].font = n) →
      t.font.table[q] = s.font.table[q] ∧ t.font.widths[q] = s.font.widths[q])
  flag : t.flagSet .mountCall = true
  shown : .mountCall p n e.remove ∈ t.panel.unsent
  sound : .alarm .sound ∈ t.panel.unsent

theorem State.requestFont_requested {s : State} {p : Fin 8} (n : Nat) (fix wait : Bool) (o : Origin)
    (hlib : s.font.table[p].state = .loading → s.port.disabled.library = false) :
    Requested s (s.requestFont p n fix wait o) p n (s.font.table[p].requestedFor n fix wait o) := by
  rw [State.requestFont_eq]
  have hreplaced := State.replacing_replaced n (s.font.table[p].requestedFor n fix wait o) hlib
  generalize s.replacing p n (s.font.table[p].requestedFor n fix wait o) = u at hreplaced
  obtain ⟨halarm, hflag, hshown, hsound⟩ := State.makeCall_calling (s := u) (p := p) (n := n)
    (remove := s.font.table[p].toRemove) (by rw [hreplaced.entry]; rfl) (by rw [hreplaced.entry]; rfl)
  have hcalls := u.makeCall_calls p
  have hframe := u.makeCall_frame p
  rw [halarm, hcalls] at hframe
  generalize u.makeCall p = t at hflag hshown hsound hframe
  have hfilter : (if s.font.table[p].state = .requested then s.panel.calls.filter (· ≠ p) else s.panel.calls).filter (· ≠ p)
      = s.panel.calls.filter (· ≠ p) := by
    split
    · rw [List.filter_filter]
      simp
    · rfl
  have hold := hreplaced.frame
  refine ⟨?_, fun h => ?_, ?_, ?_, fun q hq => ?_, hflag, hshown, hsound⟩
  · rw [hframe, hold, hfilter]
  all_goals rw [hframe]
  · exact hreplaced.wait h
  · exact hreplaced.entry
  · exact hreplaced.widths
  · exact hreplaced.others q hq

end Sys2Proof.Machine
end

section
/-! PROOFS. LENSES, MOUNT and RELEASE (R61, R63, R64, R72, R73, R96). -/

namespace Sys2Proof.Machine

/-! ### LENSES (R72, R73) -/

section
variable {t : State} {d : Command}

theorem State.lensesEffect_busy (h : t.queue ≠ [] ∨ t.composer.line.items ≠ []) :
    t.lensesEffect d = t.copyError .lensesBusy d.offset := by
  unfold State.lensesEffect
  exact if_pos (by simpa using h)

theorem State.lensesEffect_bad (hqueue : t.queue = []) (hline : t.composer.line.items = [])
    (h : ∃ x ∈ valuesOf d.operands 8, x < 10 ∨ 144 < x) : t.lensesEffect d = t.copyError .badOperand d.offset := by
  obtain ⟨x, hx, hbad⟩ := h
  unfold State.lensesEffect
  dsimp only
  rw [if_neg (by simp [hqueue, hline]), if_neg]
  · rfl
  · intro hall
    have := List.all_eq_true.1 hall x hx
    simp only [Bool.and_eq_true, decide_eq_true_eq] at this
    omega

/-- The lens list after LENSES. -/
def Command.lenses (d : Command) : Vector Nat 8 := Vector.ofFn (fun i : Fin 8 => (valuesOf d.operands 8).getD i.val 0)

theorem State.lensesEffect_taken {lenses : Vector Nat 8} {asked : Nat} (hasked : t.composer.sizeAsked = asked) (hqueue : t.queue = []) (hline : t.composer.line.items = [])
    (h : ∀ x ∈ valuesOf d.operands 8, 10 ≤ x ∧ x ≤ 144) (hl : d.lenses = lenses) : ∃ marks, t.lensesEffect d = { t with
      font.lenses := lenses
      composer.lens := (chooseLens lenses asked).1
      composer.lensSize := lenses[(chooseLens lenses asked).1]
      composer.sizeSub := (chooseLens lenses asked).2
      status.marks := marks } := by
  subst hl hasked
  unfold State.lensesEffect
  dsimp only
  rw [if_neg (by simp [hqueue, hline]), if_pos]
  · exact ⟨_, rfl⟩
  · exact List.all_eq_true.2 fun x hx => by simpa using h x hx

end

/-! ### MOUNT (R63, R96) -/

section
variable {t : State} {d : Command} {p : Fin 8} {n : Nat}

theorem State.mountEffect_bad (hn : n = d.operand.toNat % 1024) (h : 8 ≤ d.inline ∨ n = 0 ∨ 999 < n) :
    t.mountEffect d = t.copyError .badOperand d.offset := by
  have hfield : wordField d.operand 0 10 = n := by simp [wordField, hn]
  unfold State.mountEffect
  dsimp only
  rw [hfield]
  by_cases hp : 8 ≤ d.inline
  · rw [asPosition_high hp]
    rfl
  · have hval := asPosition_val ⟨d.inline, by omega⟩
    rw [show asPosition d.inline = _ from hval]
    dsimp only
    rw [if_neg (by rw [isFontNumber_iff]; omega)]
    rfl

theorem State.mountEffect_at (hn : n = d.operand.toNat % 1024) (hp : p.val = d.inline) (hlow : 1 ≤ n) (hhigh : n ≤ 999) :
    t.mountEffect d = if 0 < t.font.table[p].inUse || t.heldElsewhere p n then t.copyError .refusedMount d.offset
      else t.mountAt p n (d.operand.getLsbD 15) (d.operand.getLsbD 14) := by
  have hfield : wordField d.operand 0 10 = n := by simp [wordField, hn]
  unfold State.mountEffect
  dsimp only
  rw [hfield, ← hp, asPosition_val]
  dsimp only
  rw [if_pos ((isFontNumber_iff n).2 ⟨hlow, hhigh⟩)]
  rfl

theorem Position.ready_iff (e : Position) : e.ready = true ↔ e.state = .mounted ∨ e.state = .fixed := by
  simp [Position.ready]

variable {e : Position} (fix wait : Bool)

theorem State.mountAt_ready (he : t.font.table[p] = e) (hfont : e.font = n) (h : e.state = .mounted ∨ e.state = .fixed) :
    t.mountAt p n fix wait = t.setPosition p { e with state := if fix then .fixed else .mounted } := by
  subst he
  unfold State.mountAt
  exact if_pos ⟨hfont, (Position.ready_iff _).2 h⟩

theorem State.mountAt_requested {table : Vector Position 8} (ht : t.font.table = table) (he : table[p] = e)
    (hfont : e.font = n) (h : e.state = .requested) : t.mountAt p n fix wait = { t with
      font.table := table.set p { e with fix := fix, wait := wait, origin := some .mount } } := by
  subst ht
  have hset := State.setPosition_unseen (e := { e with fix := fix, wait := wait, origin := some .mount }) he rfl rfl rfl rfl rfl
  subst he
  unfold State.mountAt
  dsimp only
  rw [if_neg (by rw [Position.ready_iff, h]; simp), if_pos ⟨hfont, h⟩]
  exact hset

theorem State.mountAt_loading {table : Vector Position 8} (ht : t.font.table = table) (he : table[p] = e)
    (hfont : e.font = n) (h : e.state = .loading) :
    t.mountAt p n fix wait = { t with font.table := table.set p { e with fix := fix, origin := some .mount } } := by
  subst ht
  have hset := State.setPosition_unseen (e := { e with fix := fix, origin := some .mount }) he rfl rfl rfl rfl rfl
  subst he
  unfold State.mountAt
  dsimp only
  rw [if_neg (by rw [Position.ready_iff, h]; simp), if_neg (by rw [h]; simp), if_pos ⟨hfont, h⟩]
  exact hset

theorem State.mountAt_other (he : t.font.table[p] = e)
    (h : ¬ (e.font = n ∧ (e.state = .requested ∨ e.state = .loading ∨ e.state = .mounted ∨ e.state = .fixed))) :
    t.mountAt p n fix wait = t.requestFont p n fix wait .mount := by
  subst he
  unfold State.mountAt
  dsimp only
  rw [if_neg, if_neg, if_neg]
  · exact fun h' => h ⟨h'.1, .inr (.inl h'.2)⟩
  · exact fun h' => h ⟨h'.1, .inl h'.2⟩
  · exact fun h' => h ⟨h'.1, .inr (.inr ((Position.ready_iff _).1 h'.2))⟩

end

/-! ### RELEASE (R64, R96) -/

theorem State.releaseEffect_bad {t : State} {d : Command} (h : 8 ≤ d.inline) :
    t.releaseEffect d = t.copyError .badOperand d.offset := by
  unfold State.releaseEffect
  rw [asPosition_high h]
  rfl

theorem State.releaseEffect_at {t : State} {d : Command} {p : Fin 8} (hp : p.val = d.inline) : t.releaseEffect d =
    if 0 < t.font.table[p].inUse then t.copyError .refusedRelease d.offset else t.emptyPosition p := by
  unfold State.releaseEffect
  rw [← hp, asPosition_val]

/-! ### The fetch and its read, once an entry has left LOADING (R61, R176) -/

theorem FontControl.fetchLeft_eq (f : FontControl) (p : Fin 8) (x : Prop) [Decidable x] :
    (if x then f.fetchWithout p else f.fetch) = if x ∧ f.fetchList.head? = some p then
      if f.fetchList.filter (· ≠ p) = [] then none else some (.search 0) else f.fetch := by
  unfold FontControl.fetchWithout
  rw [ite_and]

theorem State.requestsLeft_eq (s : State) (p : Fin 8) (x : Prop) [Decidable x] :
    (if x then s.requestsWithout p else s.port.requests) = if x ∧ s.font.fetchList.head? = some p then
      { s.port.requests with library := s.port.requests.library.map (fun q => { q with stale := true }) }
      else s.port.requests := by
  unfold State.requestsWithout
  rw [ite_and]

theorem State.requestsWithout_congr {s u : State} (hfont : u.font = s.font) (hrequests : u.port.requests = s.port.requests)
    (p : Fin 8) : u.requestsWithout p = s.requestsWithout p := by
  unfold State.requestsWithout
  rw [hfont, hrequests]

/-- What line 1 reads depends on these parts of the state alone (R144). -/
theorem ReadsOnLine1.congr {s t : State} {r : Option ManualResult} {l : Line1} (h : ReadsOnLine1 s r l)
    (hseq : t.seq = s.seq) (hpanel : t.panel = s.panel) (htable : t.font.table = s.font.table)
    (hexposure : t.exposure = s.exposure) (hqueue : t.queue = s.queue) : ReadsOnLine1 t r l := by
  unfold ReadsOnLine1 State.heldSubject State.inExposure at *
  rw [hseq, hpanel, htable, hexposure, hqueue]
  exact h

theorem Position.vacated_unused {e : Position} (h : e.inUse = 0) : e.vacated none = Position.vacant := by
  unfold Position.vacated
  rw [h]
  rfl

/-! ### A call that ends (R59, R142, R147) -/

theorem mem_outbound_toPanel {s : State} {m x : PanelMessage} (h : x ∈ (s.toPanel m).panel.outbound) :
    x ∈ s.panel.outbound ∨ x = m := by
  have hkept : x ∈ keptBy m s.panel.outbound ++ [m] := by
    rw [State.toPanel_eq] at h
    by_cases hsending : s.panel.sending = none
    · rw [State.linked_free (by exact hsending)] at h
      exact List.mem_of_mem_tail h
    · rw [State.linked_busy (by exact hsending)] at h
      exact h
  rcases List.mem_append.1 hkept with h | h
  · exact .inl ((keptBy_sublist m _).subset h)
  · exact .inr (List.mem_singleton.1 h)

theorem State.endCall_of_not_mem {s : State} {p : Fin 8} (h : p ∉ s.panel.calls) : s.endCall p = s :=
  if_neg (by rw [List.contains_iff_mem]; exact h)

/-- The call for a position that is called ends: its waiting MOUNT CALL goes, a SHOW is made, and the alarm is silenced
when no other call is out. -/
theorem State.endCall_called {s : State} {p : Fin 8} (h : p ∈ s.panel.calls) :
    (s.endCall p).panel.alarm = (if (s.endCall p).panel.calls = [] then .silent else s.panel.alarm)
      ∧ (∀ n remove, .mountCall p n remove ∉ (s.endCall p).panel.outbound)
      ∧ ∃ line1, ReadsOnLine1 (s.endCall p) none line1 ∧ .display line1 s.panel.hostLine ∈ (s.endCall p).panel.unsent := by
  have hended : s.endCall p = (fun u : State => if u.panel.calls.isEmpty then
      State.toPanel { u with panel.alarm := .silent } (.alarm .silence) else u)
      (State.display { s with
        panel.calls := s.panel.calls.filter (· ≠ p)
        panel.outbound := s.panel.outbound.filter (fun x => !x.isCallFor p) }) :=
    if_pos (List.contains_iff_mem.2 h)
  generalize s.endCall p = t at hended
  have hreads := readsOnLine1 { s with
    panel.calls := s.panel.calls.filter (· ≠ p)
    panel.outbound := s.panel.outbound.filter (fun x => !x.isCallFor p) } none
  generalize hv : ({ s with
    panel.calls := s.panel.calls.filter (· ≠ p)
    panel.outbound := s.panel.outbound.filter (fun x => !x.isCallFor p) } : State) = v at hreads hended
  have hnone (n : Nat) (remove : Option Nat) : .mountCall p n remove ∉ v.display.panel.outbound := fun hm => by
    rcases mem_outbound_toPanel hm with hm | hm
    · rw [← hv] at hm
      have := (List.mem_filter.1 hm).2
      simp [PanelMessage.isCallFor] at this
    · cases hm
  have hmade : .display (v.line1 false none) v.panel.hostLine ∈ v.display.panel.unsent := mem_unsent_toPanel _ _
  have hhost : v.panel.hostLine = s.panel.hostLine := by rw [← hv]
  have halarm : v.panel.alarm = s.panel.alarm := by rw [← hv]
  rw [hhost] at hmade
  have hread' : ReadsOnLine1 v.display none (v.line1 false none) := hreads
  have hkept : v.display.panel.alarm = s.panel.alarm := halarm
  generalize v.display = u at hnone hmade hread' hkept hended
  by_cases hempty : u.panel.calls.isEmpty = true
  · obtain rfl : t = _ := hended.trans (if_pos hempty)
    refine ⟨(if_pos (List.isEmpty_iff.1 hempty)).symm, fun n remove hm => ?_, _, hread', ?_⟩
    · rcases mem_outbound_toPanel hm with hm | hm
      · exact hnone n remove hm
      · cases hm
    · exact mem_unsent_toPanel_of_mem hmade fun l hl => List.mem_filter.2 ⟨hl, rfl⟩
  · obtain rfl : t = u := hended.trans (if_neg hempty)
    exact ⟨by rw [hkept, if_neg (fun h => hempty (List.isEmpty_iff.2 h))], hnone, _, hread', hmade⟩

/-- Settles O43: each command by its checks, and MOUNT and RELEASE by the state of the entry. -/
theorem lensesMountAndRelease : Obligations.LensesMountAndRelease := by
  refine ⟨fun s w hnext hstate => ?lenses, fun s w v n hnext hstate hv hn => ?mount, fun s w hnext hstate => ?release⟩
  case lenses =>
    have hends {u : State} (hu : (s.decoded w).lensesEffect (s.completedBy w) = u) : EndsIn (exec .lenses s) u :=
      State.standing_endsIn (f := fun d t => t.lensesEffect d) hnext hstate (fun _ _ => by simp) hu
    refine ⟨fun h => hends (State.lensesEffect_busy ?_), fun hqueue hline =>
      ⟨fun h => hends (State.lensesEffect_bad ?_ ?_ h), fun h => ?_⟩⟩
    · rwa [State.decoded_queue, State.decoded_composer]
    · rwa [State.decoded_queue]
    · rwa [State.decoded_composer]
    obtain ⟨marks, ht⟩ := State.lensesEffect_taken (t := s.decoded w) (d := s.completedBy w) (asked := s.composer.sizeAsked)
      (by rw [State.decoded_composer]) (by rwa [State.decoded_queue]) (by rwa [State.decoded_composer]) h rfl
    refine ⟨_, hends ht, fun i => ?_, ?_, rfl, chooseLens_serves _ _, ?_⟩
    · exact Vector.getElem_ofFn _
    · exact (congrArg Composer.sizeAsked (s.decoded_composer w) :)
    · exact ⟨(congrArg FontControl.table (s.decoded_font w) :), (congrArg FontControl.widths (s.decoded_font w) :),
        s.decoded_mem w, s.decoded_seq w, s.decoded_panel w, s.decoded_proof w, s.decoded_hyph w, rfl⟩
  case mount =>
    subst hv
    have hends {u : State} (hu : (s.decoded w).mountEffect (s.completedBy w) = u) : EndsIn (exec .mount s) u :=
      State.standing_endsIn (f := fun d t => t.mountEffect d) hnext hstate (fun _ _ => by simp) hu
    refine ⟨fun hbad => hends (State.mountEffect_bad hn hbad), fun p hp hlow hhigh => ?_⟩
    have htable (q : Fin 8) : (s.decoded w).font.table[q] = s.font.table[q] := by rw [State.decoded_font]
    have hat := State.mountEffect_at (t := s.decoded w) hn hp hlow hhigh
    have hheld : (s.decoded w).heldElsewhere p n = true ↔ _ := State.heldElsewhere_iff _ p n
    simp only [htable] at hat hheld
    refine ⟨fun hor => hends (hat.trans (if_pos ?_)), fun huse hnone => ?_⟩
    · rw [Bool.or_eq_true, decide_eq_true_eq, hheld]
      exact hor
    have hmounted := hat.trans (if_neg (by
      rw [Bool.or_eq_true, decide_eq_true_eq, hheld]
      rintro (h | ⟨q, hq, h⟩)
      · omega
      · exact hnone q hq h))
    refine ⟨fun hfont hready => ?_, fun hfont hreq => ?_, fun hfont hload => ?_, fun hother hlib => ?_⟩
    · have hmount := hmounted.trans (State.mountAt_ready _ _ (htable p) hfont hready)
      have hframe := (s.decoded w).setPosition_frame p { s.font.table[p] with
        state := if (s.completedBy w).operand.getLsbD 15 then .fixed else .mounted }
      have hset := (s.decoded w).setPosition_table p { s.font.table[p] with
        state := if (s.completedBy w).operand.getLsbD 15 then .fixed else .mounted }
      rw [State.decoded_font] at hset
      rw [hset] at hframe
      refine ⟨_, hends hmount, hframe, fun hwait => State.setPosition_fontWait_none ?_ _ _⟩
      rw [State.decoded_composer]
      exact hwait
    · exact hends (hmounted.trans (State.mountAt_requested _ _ (congrArg FontControl.table (s.decoded_font w)) rfl hfont hreq))
    · exact hends (hmounted.trans (State.mountAt_loading _ _ (congrArg FontControl.table (s.decoded_font w)) rfl hfont hload))
    · have hmount := hmounted.trans (State.mountAt_other _ _ (htable p) hother)
      have h := State.requestFont_requested (s := s.decoded w) n ((s.completedBy w).operand.getLsbD 15)
        ((s.completedBy w).operand.getLsbD 14) .mount (p := p) (by rw [htable, State.decoded_disabled]; exact hlib)
      refine ⟨_, hends hmount, ?_⟩
      generalize (s.decoded w).requestFont p n _ _ .mount = t at h
      have hfont := s.decoded_font w
      have hpanel := s.decoded_panel w
      have hrequests := s.decoded_requests w
      have hmem := s.decoded_mem w
      have hseq := s.decoded_seq w
      have hqueue := s.decoded_queue w
      have hhyph := s.decoded_hyph w
      have hproof := s.decoded_proof w
      have hexposure := s.decoded_exposure w
      generalize s.decoded w = u at h hfont hpanel hrequests hmem hseq hqueue hhyph hproof hexposure ⊢
      have hframe := h.frame
      have hentry := h.entry
      have hothers := h.others
      have hshown := h.shown
      rw [hfont, hrequests, State.requestsWithout_congr hfont hrequests, FontControl.fetchLeft_eq, State.requestsLeft_eq,
        hpanel] at hframe
      rw [hfont] at hentry hothers hshown
      have hremove : (s.font.table[p].requestedFor n ((s.completedBy w).operand.getLsbD 15)
        ((s.completedBy w).operand.getLsbD 14) .mount).remove = s.font.table[p].toRemove := rfl
      rw [hremove] at hshown
      refine ⟨?_, h.widths, hothers, ?_, ?_, ?_, ?_, ?_, ?_, h.flag, hshown, h.sound, ?_⟩
      · rw [hentry]
        unfold Position.requestedFor
        rw [huse]
      all_goals rw [hframe]
      exact ⟨rfl, hqueue, hmem, hseq, rfl, hhyph, hproof, hexposure⟩
  case release =>
    have hends {u : State} (hu : (s.decoded w).releaseEffect (s.completedBy w) = u) : EndsIn (exec .release s) u :=
      State.standing_endsIn (f := fun d t => t.releaseEffect d) hnext hstate (fun _ _ => by simp) hu
    refine ⟨fun hbad => hends (State.releaseEffect_bad hbad), fun p hp => ?_⟩
    have hentry : (s.decoded w).font.table[p] = s.font.table[p] := by rw [State.decoded_font]
    have hat := State.releaseEffect_at (t := s.decoded w) hp
    rw [hentry] at hat
    refine ⟨fun huse => hends (hat.trans (if_pos huse)), fun huse hvacant => ?_, fun huse hv hlib => ?_⟩
    · exact hends ((hat.trans (if_neg (by omega))).trans (State.emptyPosition_vacant (hentry ▸ hvacant)))
    · have hempty := hat.trans (if_neg (by omega))
      have hframe := State.emptyPosition_frame (s := s.decoded w) (p := p) (by rw [hentry]; exact huse)
        (by rw [hentry]; exact hv) (by rw [hentry, State.decoded_disabled]; exact hlib)
      refine ⟨_, hends hempty, ?_⟩
      generalize (s.decoded w).emptyPosition p = t at hframe
      have hfont := s.decoded_font w
      have hpanel := s.decoded_panel w
      have hrequests := s.decoded_requests w
      have hmem := s.decoded_mem w
      have hseq := s.decoded_seq w
      have hqueue := s.decoded_queue w
      have hhyph := s.decoded_hyph w
      have hproof := s.decoded_proof w
      have hexposure := s.decoded_exposure w
      have hflags := s.decoded_status_flags w
      generalize s.decoded w = u at hframe hfont hpanel hrequests hmem hseq hqueue hhyph hproof hexposure hflags ⊢
      have hvacating := u.vacating_frame p none
      generalize u.vacating p none = v at hframe hvacating
      rw [hfont, hrequests, State.requestsWithout_congr hfont hrequests, FontControl.fetchLeft_eq,
        State.requestsLeft_eq] at hframe
      have hstate : s.font.table[p].state = .requested →
          (v.withoutState p s.font.table[p].state).panel = (v.endCall p).panel := fun hr => if_pos hr
      have hother : s.font.table[p].state ≠ .requested → (v.withoutState p s.font.table[p].state).panel = s.panel :=
        fun hr => (if_neg hr).trans (by rw [hvacating]; exact hpanel)
      generalize (v.withoutState p s.font.table[p].state).panel = x at hframe hstate hother
      have hvpanel : v.panel = s.panel := by rw [hvacating]; exact hpanel
      have hcalls := v.endCall_calls p
      have hcalled := State.endCall_called (s := v) (p := p)
      have hkept := State.endCall_of_not_mem (s := v) (p := p)
      have hstands := v.endCall_frame p
      rw [hvpanel] at hcalls hcalled hkept
      generalize v.endCall p = y at hstate hcalls hcalled hkept hstands
      rw [hframe]
      refine ⟨rfl, rfl, rfl, rfl, rfl, rfl, fun hcalled' => ?_, fun hcalled' => ?_, hflags, hqueue, hmem, hseq, rfl, hhyph, hproof,
        hexposure⟩
      · obtain ⟨hr, hmem⟩ := hcalled'
        obtain rfl : x = y.panel := hstate hr
        obtain ⟨halarm, hnone, line1, hreads, hshown⟩ := hcalled hmem
        refine ⟨hcalls, halarm, hnone, line1, hreads.congr ?_ rfl ?_ ?_ ?_, hshown⟩
        all_goals rw [hstands, hvacating]
        rw [hfont]
        show s.font.table.set p _ = s.font.table.set p _
        rw [Position.vacated_unused huse]
      · by_cases hr : s.font.table[p].state = .requested
        · obtain rfl : x = y.panel := hstate hr
          rw [hkept fun hmem => hcalled' ⟨hr, hmem⟩]
          exact hvpanel
        · exact hother hr

end Sys2Proof.Machine
end

section
/-! PROOFS. The resolution of a font, and the FONT command (R51 to R57, R92). -/

namespace Sys2Proof.Machine

/-! ### The home position first (R47, R52) -/

theorem homePosition_val (n : Nat) : (homePosition n).val = n % 8 := rfl

theorem findFromHome_none {n : Nat} {f : Fin 8 → Bool} (h : ∀ q, f q = false) : findFromHome n f = none := by
  unfold findFromHome
  rw [if_neg (by rw [h]; decide)]
  exact findPosition_eq_none.2 h

theorem findFromHome_some {n : Nat} {f : Fin 8 → Bool} {g : Fin 8 → Prop} {p : Fin 8} (hfg : ∀ q, f q = true ↔ g q)
    (h : HomeFirst n g p) : findFromHome n f = some p := by
  obtain ⟨hp, hplace⟩ := h
  unfold findFromHome
  rcases hplace with hhome | ⟨hnot, hlow⟩
  · obtain rfl : p = homePosition n := Fin.ext hhome
    exact if_pos ((hfg _).2 hp)
  · rw [if_neg fun hf => hnot _ (homePosition_val n) ((hfg _).1 hf), findPosition_eq_some]
    exact ⟨(hfg p).2 hp, fun q hq => Bool.eq_false_iff.2 fun hf => hlow q hq ((hfg q).1 hf)⟩

section
variable {s : State} {n : Nat} {p : Fin 8}

theorem State.findFont_none (h : s.FontHeldNowhere n) : s.findFont n = none := by
  refine findFromHome_none fun q => ?_
  rw [Bool.eq_false_iff]
  intro hq
  simp only [Bool.and_eq_true, bne_iff_ne, beq_iff_eq] at hq
  exact hq.1 (h q hq.2)

theorem State.findFont_some (h : s.FontHeldAt n p) : s.findFont n = some p := by
  obtain ⟨hfont, hstate, hother⟩ := h
  have honly (q : Fin 8) (hq : s.font.table[q].state ≠ .vacant ∧ s.font.table[q].font = n) : q = p := by
    by_contra hne
    exact hq.1 (hother q hne hq.2)
  refine findFromHome_some (g := fun q => s.font.table[q].state ≠ .vacant ∧ s.font.table[q].font = n) (fun q => by simp)
    ⟨⟨hstate, hfont⟩, ?_⟩
  by_cases hhome : p.val = n % 8
  · exact .inl hhome
  · refine .inr ⟨fun q hq hheld => hhome ?_, fun q hq hheld => absurd (honly q hheld) hq.ne⟩
    rw [← honly q hheld]
    exact hq

/-! ### The position R52 chooses -/

theorem State.choosePosition_open (h : HomeFirst n (fun q => s.font.table[q].isOpen) p) : s.choosePosition n = some p := by
  unfold State.choosePosition
  rw [findFromHome_some (fun q => by simp [Position.isOpen]) h]

/-- The highest age of the entries that can be given up (R52). -/
def State.oldestFree (s : State) : Nat :=
  (((List.finRange 8).filter (fun p => s.font.table[p].state == .mounted && s.font.table[p].inUse == 0)).map
    (fun p => s.font.table[p].age)).foldl max 0

theorem State.isFree_iff (q : Fin 8) :
    (s.font.table[q].state == .mounted && s.font.table[q].inUse == 0) = true ↔ s.font.table[q].isFree := by
  simp [Position.isFree]

theorem State.oldestFree_iff {q : Fin 8} (hq : s.font.table[q].isFree) : s.font.table[q].age = s.oldestFree ↔
    ∀ r : Fin 8, s.font.table[r].isFree → s.font.table[r].age ≤ s.font.table[q].age := by
  obtain ⟨hall, hmem, -⟩ := foldl_max_spec (((List.finRange 8).filter
    (fun p => s.font.table[p].state == .mounted && s.font.table[p].inUse == 0)).map (fun p => s.font.table[p].age)) 0
  change (∀ x ∈ _, x ≤ s.oldestFree) at hall
  change s.oldestFree = 0 ∨ s.oldestFree ∈ _ at hmem
  have hage (r : Fin 8) (hr : s.font.table[r].isFree) : s.font.table[r].age ≤ s.oldestFree :=
    hall _ (List.mem_map.2 ⟨r, List.mem_filter.2 ⟨List.mem_finRange r, State.isFree_iff r |>.2 hr⟩, rfl⟩)
  refine ⟨fun h r hr => h ▸ hage r hr, fun h => le_antisymm (hage q hq) ?_⟩
  rcases hmem with hzero | hmem
  · rw [hzero]
    exact Nat.zero_le _
  · obtain ⟨r, hr, hage'⟩ := List.mem_map.1 hmem
    rw [← hage']
    exact h r ((State.isFree_iff r).1 (List.mem_filter.1 hr).2)

theorem State.choosePosition_closed (h : ∀ q : Fin 8, ¬ s.font.table[q].isOpen) : s.choosePosition n =
    findFromHome n (fun q => (s.font.table[q].state == .mounted && s.font.table[q].inUse == 0)
      && s.font.table[q].age == s.oldestFree) := by
  unfold State.choosePosition
  rw [findFromHome_none fun q => by simpa [Position.isOpen] using h q]
  rfl

theorem State.choosePosition_oldest (hopen : ∀ q : Fin 8, ¬ s.font.table[q].isOpen)
    (h : HomeFirst n (fun q => s.font.table[q].isFree
      ∧ ∀ r : Fin 8, s.font.table[r].isFree → s.font.table[r].age ≤ s.font.table[q].age) p) :
    s.choosePosition n = some p := by
  rw [State.choosePosition_closed hopen]
  refine findFromHome_some (fun q => ?_) h
  rw [Bool.and_eq_true, State.isFree_iff, beq_iff_eq]
  exact and_congr_right fun hq => State.oldestFree_iff hq

theorem State.choosePosition_none (h : ∀ q : Fin 8, ¬ s.font.table[q].isOpen ∧ ¬ s.font.table[q].isFree) :
    s.choosePosition n = none := by
  rw [State.choosePosition_closed fun q => (h q).1]
  refine findFromHome_none fun q => ?_
  rw [Bool.eq_false_iff, Ne, Bool.and_eq_true, State.isFree_iff]
  exact fun hq => (h q).2 hq.1

theorem State.canDrainFree_iff (hheld : s.composer.held = none) (htodo : s.composer.todo = []) :
    s.canDrainFree = true ↔ s.QueueCanFree := by
  have hholds (q : Fin 8) : s.composer.holds q = false ↔ ∀ i ∈ s.composer.line.items, i.pos? ≠ some q := by
    simp [Composer.holds, hheld, htodo, itemsHold]
  unfold State.canDrainFree State.QueueCanFree
  simp [hholds]

end

end Sys2Proof.Machine
end

section
/-! PROOFS. A font resolved, a call made by a resolution, and the FONT command (R51 to R57, R92). -/

namespace Sys2Proof.Machine

section
variable {s : State} {n : Nat} {p : Fin 8}

theorem State.resolve_select (h : s.FontHeldAt n p) (hready : s.font.table[p].ready = true) : s.resolve n = .select p := by
  unfold State.resolve
  rw [State.findFont_some h]
  dsimp only
  rcases (Position.ready_iff _).1 hready with hs | hs <;> rw [hs]

theorem State.resolve_waitOn (h : s.FontHeldAt n p)
    (hstate : s.font.table[p].state = .requested ∨ s.font.table[p].state = .loading) : s.resolve n = .waitOn p := by
  unfold State.resolve
  rw [State.findFont_some h]
  dsimp only
  rcases hstate with hs | hs <;> rw [hs]

theorem State.resolve_refused (h : s.FontHeldAt n p) (hstate : s.font.table[p].state = .refused) :
    s.resolve n = .substitute := by
  unfold State.resolve
  rw [State.findFont_some h]
  dsimp only
  rw [hstate]

theorem State.choosePosition_some (h : s.FontPlace n p) : s.choosePosition n = some p := by
  obtain ⟨-, hplace⟩ := h
  rcases hplace with hopen | ⟨hclosed, hold⟩
  · exact State.choosePosition_open hopen
  · exact State.choosePosition_oldest hclosed hold

theorem State.resolve_call (h : s.FontPlace n p) : s.resolve n = .call p := by
  unfold State.resolve
  rw [State.findFont_none h.1]
  dsimp only
  rw [State.choosePosition_some h]

theorem State.resolve_noPlace (h : s.FontNoPlace n) (hheld : s.composer.held = none) (htodo : s.composer.todo = []) :
    (s.QueueCanFree → s.resolve n = .waitPosition) ∧ (¬ s.QueueCanFree → s.resolve n = .substitute) := by
  have hresolve : s.resolve n = if s.canDrainFree then .waitPosition else .substitute := by
    unfold State.resolve
    rw [State.findFont_none h.1]
    dsimp only
    rw [State.choosePosition_none h.2]
  rw [hresolve]
  exact ⟨fun hfree => if_pos ((State.canDrainFree_iff hheld htodo).2 hfree),
    fun hfree => if_neg (mt (State.canDrainFree_iff hheld htodo).1 hfree)⟩

theorem State.resolve_substitute (h : s.FontSubstituted n) (hheld : s.composer.held = none) (htodo : s.composer.todo = []) :
    s.resolve n = .substitute := by
  rcases h with ⟨p, hp, hstate⟩ | ⟨hnone, hfree⟩
  · exact State.resolve_refused hp hstate
  · exact (State.resolve_noPlace hnone hheld htodo).2 hfree

/-- A place that R52 chooses is not LOADING, and holds no call that a resolution would end. -/
theorem State.FontPlace.not_loading (h : s.FontPlace n p) : s.font.table[p].state ≠ .loading := by
  obtain ⟨-, hplace⟩ := h
  intro hloading
  rcases hplace with ⟨hopen, -⟩ | ⟨-, ⟨hfree, -⟩, -⟩
  · rcases hopen with hs | hs <;> rw [hs] at hloading <;> cases hloading
  · rw [hfree.1] at hloading
    cases hloading

end

/-- A resolution depends on Font Control and the Composer alone. -/
theorem State.resolve_congr {s t : State} (hfont : t.font = s.font) (hcomposer : t.composer = s.composer) (n : Nat) :
    t.resolve n = s.resolve n := by
  unfold State.resolve State.findFont State.choosePosition State.canDrainFree
  rw [hfont, hcomposer]

theorem vector_ext_fin {α : Type} {v w : Vector α 8} (h : ∀ q : Fin 8, v[q] = w[q]) : v = w :=
  Vector.ext fun i hi => h ⟨i, hi⟩

/-! ### A call made by a resolution (R52, R57) -/

/-- What two states have in common for a call made in the one to be one made in the other. -/
structure SameForCall (s u : State) : Prop where
  font : u.font = s.font
  panel : u.panel = s.panel
  queue : u.queue = s.queue
  mem : u.mem = s.mem
  seq : u.seq = s.seq
  hyph : u.hyph = s.hyph
  proof : u.proof = s.proof
  exposure : u.exposure = s.exposure
  tag : u.currentTag = s.currentTag

theorem SameForCall.refl (s : State) : SameForCall s s := ⟨rfl, rfl, rfl, rfl, rfl, rfl, rfl, rfl, rfl⟩

theorem State.callFont_called {s u : State} {n : Nat} {p : Fin 8} (hu : SameForCall s u) (hplace : s.FontPlace n p) :
    FontCalled s (u.callFont n p) n p ∧ (∀ q : Fin 8, (u.callFont n p).font.table[q].inUse = s.font.table[q].inUse)
      ∧ u.callFont n p = { u with
        font := (u.callFont n p).font
        panel := (u.callFont n p).panel
        composer.fontWait := (u.callFont n p).composer.fontWait
        status.flags := (u.callFont n p).status.flags
        status.marks := (u.callFont n p).status.marks } := by
  have hloading : ¬ u.font.table[p].state = .loading := by
    rw [hu.font]
    exact State.FontPlace.not_loading hplace
  have h := State.requestFont_requested (s := u) n false false (.font u.currentTag) (fun hl => absurd hl hloading)
  unfold State.callFont
  generalize u.requestFont p n false false (.font u.currentTag) = t at h
  have hframe := h.frame
  have hentry := h.entry
  have hothers := h.others
  have hshown := h.shown
  rw [if_neg hloading, if_neg hloading, if_neg hloading, hu.panel] at hframe
  rw [hu.font] at hentry hothers hshown
  rw [hu.tag] at hentry hshown
  have hstands (q : Fin 8) (hq : q ≠ p) : t.font.table[q] = s.font.table[q] ∧ t.font.widths[q] = s.font.widths[q] :=
    (hothers q hq).2 fun hcleared => by
      have := hplace.1 q hcleared.2
      rw [hcleared.1] at this
      cases this
  have hremove : (s.font.table[p].requestedFor n false false (.font s.currentTag)).remove = s.font.table[p].toRemove := rfl
  rw [hremove] at hshown
  have huse (q : Fin 8) : t.font.table[q].inUse = s.font.table[q].inUse := by
    by_cases hq : q = p
    · subst hq
      rw [hentry]
      rfl
    · rw [(hstands q hq).1]
  have hwidths : t.font.widths = s.font.widths.set p none := vector_ext_fin fun q => by
    by_cases hq : q = p
    · rw [hq, getElem_set_fin_same]
      exact h.widths
    · rw [getElem_set_fin_other (h := hq), (hstands q hq).2]
  have hfont : t.font = { s.font with table := t.font.table, widths := t.font.widths } := by rw [hframe, hu.font]
  refine ⟨⟨?_, fun q hq => ?_, hwidths, hfont, ?_, ?_, h.flag, hshown, h.sound, ?_, ?_, ?_, ?_, ?_, ?_, ?_⟩, huse, ?_⟩
  · rw [huse, hentry]
    rfl
  · rw [huse, (hstands q hq).1]
  · rw [hframe]
  · rw [hframe]
  · rw [hframe]
  · rw [hframe]
    exact hu.queue
  · rw [hframe]
    exact hu.mem
  · rw [hframe]
    exact hu.seq
  · rw [hframe]
    exact hu.hyph
  · rw [hframe]
    exact hu.proof
  · rw [hframe]
    exact hu.exposure
  · rw [hframe]

/-! ### FONT WAIT (R54) -/

theorem State.enterFontWait_eq {s : State} {x : ComposerState} (hx : s.composer.state = x)
    (h : x = .setting ∨ x = .lookahead) (n : Nat) (target : WaitTarget) (char : Option (Nat × Nat)) :
    s.enterFontWait n target char =
      State.mark { s with
        composer.state := .fontWait
        composer.fontWait := some { font := n, target := target, char := char, inLookahead := decide (x = .lookahead) } } [5] := by
  subst hx
  have hlook : (s.composer.state == .lookahead) = decide (s.composer.state = .lookahead) := by
    rcases h with h | h <;> rw [h] <;> rfl
  have hchanged : (s.composer.state != .fontWait) = true := by rcases h with h | h <;> rw [h] <;> rfl
  unfold State.enterFontWait State.setComposer
  dsimp only
  rw [hlook, hchanged]
  rfl

/-! ### The FONT command (R51 to R53, R92) -/

section
variable {t : State} {d : Command} {n : Nat}

theorem State.fontEffect_bad (hn : n = d.operand.toNat) (h : n = 0 ∨ 999 < n) : t.fontEffect d = t.badOperand d := by
  unfold State.fontEffect
  dsimp only
  rw [← hn, if_neg (by rw [isFontNumber_iff]; omega)]

theorem State.fontEffect_select (hn : n = d.operand.toNat) (hlow : 1 ≤ n) (hhigh : n ≤ 999) {p : Fin 8}
    (h : t.resolve n = .select p) :
    t.fontEffect d = { t with composer.current := some { font := n, pos := p }, composer.fontSub := false } := by
  unfold State.fontEffect
  dsimp only
  rw [← hn, if_pos ((isFontNumber_iff n).2 ⟨hlow, hhigh⟩), h]

theorem State.fontEffect_waitOn (hn : n = d.operand.toNat) (hlow : 1 ≤ n) (hhigh : n ≤ 999) {p : Fin 8}
    (h : t.resolve n = .waitOn p) : t.fontEffect d = t.enterFontWait n (.entry p none) none := by
  unfold State.fontEffect
  dsimp only
  rw [← hn, if_pos ((isFontNumber_iff n).2 ⟨hlow, hhigh⟩), h]

theorem State.fontEffect_call (hn : n = d.operand.toNat) (hlow : 1 ≤ n) (hhigh : n ≤ 999) {p : Fin 8}
    (h : t.resolve n = .call p) : t.fontEffect d = (t.callFont n p).enterFontWait n (.entry p none) none := by
  unfold State.fontEffect
  dsimp only
  rw [← hn, if_pos ((isFontNumber_iff n).2 ⟨hlow, hhigh⟩), h]

theorem State.fontEffect_waitPosition (hn : n = d.operand.toNat) (hlow : 1 ≤ n) (hhigh : n ≤ 999)
    (h : t.resolve n = .waitPosition) : t.fontEffect d = t.enterFontWait n (.position false) none := by
  unfold State.fontEffect
  dsimp only
  rw [← hn, if_pos ((isFontNumber_iff n).2 ⟨hlow, hhigh⟩), h]

theorem State.fontEffect_substitute (hn : n = d.operand.toNat) (hlow : 1 ≤ n) (hhigh : n ≤ 999)
    (h : t.resolve n = .substitute) : t.fontEffect d = { t with composer.fontSub := true } := by
  unfold State.fontEffect
  dsimp only
  rw [← hn, if_pos ((isFontNumber_iff n).2 ⟨hlow, hhigh⟩), h]

end

theorem State.decoded_currentTag (s : State) (w : Word) : (s.decoded w).currentTag = s.currentTag := by
  obtain ⟨_, _, _, _, h⟩ := State.consume_intake s w
  have hjob : (s.decoded w).intake.job = (s.consume w).intake.job := State.undecoded_job _
  unfold State.currentTag
  rw [hjob, h]

theorem State.decoded_sameForCall (s : State) (w : Word) : SameForCall s (s.decoded w) :=
  ⟨s.decoded_font w, s.decoded_panel w, s.decoded_queue w, s.decoded_mem w, s.decoded_seq w, s.decoded_hyph w,
    s.decoded_proof w, s.decoded_exposure w, s.decoded_currentTag w⟩

/-- Settles O41: the font resolves by the entry that holds it, and else by the position R52 chooses. -/
theorem fontResolves : Obligations.FontResolves := by
  intro s w n hnext hstate hn waiting
  have hends {u : State} (hu : (s.decoded w).fontEffect (s.completedBy w) = u) : EndsIn (exec .font s) u :=
    State.jobInside_endsIn (f := fun d t => t.fontEffect d) hnext hstate (fun _ _ => by simp) hu
  have hresolve := State.resolve_congr (s.decoded_font w) (s.decoded_composer w) n
  have hwaiting (target : WaitTarget) : (s.decoded w).enterFontWait n target none = waiting target :=
    State.enterFontWait_eq (congrArg Composer.state (s.decoded_composer w)) hstate n target none
  refine ⟨fun hbad => hends (State.fontEffect_bad hn hbad), fun hlow hhigh => ⟨fun p hp => ⟨fun hready => ?_, fun hwait => ?_⟩,
    fun p hp => ?_, fun hheld htodo => ⟨fun hnone hfree => ?_, fun hsub => ?_⟩⟩⟩
  · exact hends (State.fontEffect_select hn hlow hhigh (hresolve.trans (State.resolve_select hp hready)))
  · refine hends ((State.fontEffect_waitOn hn hlow hhigh (hresolve.trans (State.resolve_waitOn hp hwait))).trans ?_)
    exact hwaiting _
  · obtain ⟨hcalled, huse, hframe⟩ := State.callFont_called (s.decoded_sameForCall w) hp
    refine ⟨_, hends (State.fontEffect_call hn hlow hhigh (hresolve.trans (State.resolve_call hp))), ?_⟩
    generalize (s.decoded w).callFont n p = v at hcalled huse hframe
    have hv : v.composer.state = s.composer.state := by rw [hframe, State.decoded_composer]
    rw [State.enterFontWait_eq hv hstate]
    refine ⟨hcalled, huse, ?_, ?_⟩
    · rw [hframe]
      rfl
    · rw [hframe]
      rfl
  · refine hends ((State.fontEffect_waitPosition hn hlow hhigh
      (hresolve.trans ((State.resolve_noPlace hnone hheld htodo).1 hfree))).trans ?_)
    exact hwaiting _
  · exact hends (State.fontEffect_substitute hn hlow hhigh (hresolve.trans (State.resolve_substitute hsub hheld htodo)))

end Sys2Proof.Machine
end

section
/-! PROOFS. Printed numbers, margins and texts, and the print records of an entry (R154 to R157). -/

namespace Sys2Proof.Machine

/-! ### Decimal numbers -/

/-- The number that a list of digit codes stands for. -/
def digitsValue (l : List Nat) : Nat := l.foldl (fun v c => 10 * v + (c - 0x30)) 0

theorem digitsValue_append (l : List Nat) (d : Nat) : digitsValue (l ++ [48 + d]) = 10 * digitsValue l + d := by
  simp [digitsValue]

theorem decimalFuel_small {fuel n : Nat} (h : n < 10) : decimalFuel (fuel + 1) n = [48 + n] := if_pos h

theorem decimalFuel_large {fuel n : Nat} (h : 10 ≤ n) :
    decimalFuel (fuel + 1) n = decimalFuel fuel (n / 10) ++ [48 + n % 10] := if_neg (by omega)

theorem decimalFuel_spec {fuel n : Nat} (h : n < fuel) : digitsValue (decimalFuel fuel n) = n
    ∧ (∀ c ∈ decimalFuel fuel n, 0x30 ≤ c ∧ c ≤ 0x39) ∧ decimalFuel fuel n ≠ []
    ∧ (n ≠ 0 → (decimalFuel fuel n).head? ≠ some 0x30) := by
  induction fuel generalizing n with
  | zero => omega
  | succ fuel ih =>
    by_cases hn : n < 10
    · rw [decimalFuel_small hn]
      refine ⟨by simp [digitsValue], fun c hc => ?_, List.cons_ne_nil _ _, fun hzero h => ?_⟩
      · rw [List.mem_singleton.1 hc]
        omega
      · have := Option.some.inj h
        omega
    · obtain ⟨hvalue, hdigits, hne, hhead⟩ := ih (n := n / 10) (by omega)
      rw [decimalFuel_large (by omega)]
      refine ⟨?_, fun c hc => ?_, by simp, fun _ => ?_⟩
      · rw [digitsValue_append, hvalue]
        omega
      · rcases List.mem_append.1 hc with hc | hc
        · exact hdigits c hc
        · rw [List.mem_singleton.1 hc]
          omega
      · rw [List.head?_append_of_ne_nil _ hne]
        exact hhead (by omega)

theorem length_decimalFuel {fuel n k : Nat} (h : n < 10 ^ (k + 1)) : (decimalFuel fuel n).length ≤ k + 1 := by
  induction k generalizing fuel n with
  | zero =>
    cases fuel with
    | zero => exact Nat.zero_le _
    | succ fuel => rw [decimalFuel_small (by simpa using h)]; rfl
  | succ k ih =>
    cases fuel with
    | zero => exact Nat.zero_le _
    | succ fuel =>
      by_cases hn : n < 10
      · rw [decimalFuel_small hn]
        exact Nat.le_add_left _ _
      · rw [decimalFuel_large (by omega), List.length_append]
        have hten : n / 10 < 10 ^ (k + 1) := by
          rw [Nat.div_lt_iff_lt_mul (by decide), ← pow_succ]
          exact h
        have := ih (fuel := fuel) hten
        simpa using this

/-! ### The margin (R155) -/

theorem codesOf_filterMap_cons (c : Char) (b : Bool) (l : List (Char × Bool)) :
    codesOf (((c, b) :: l).filterMap (fun x => if x.2 then some x.1 else none)) =
      (if b then [c.toNat] else []) ++ codesOf (l.filterMap (fun x => if x.2 then some x.1 else none)) := by
  cases b <;> rfl

theorem LineFlags.letters_eq (f : LineFlags) : f.letters = codesOf ([('H', f.hyphenated), ('L', f.loose), ('T', f.tight),
    ('O', f.overset), ('S', f.fontSub || f.sizeSub), ('M', f.missing)].filterMap
      (fun x => if x.2 then some x.1 else none)) := by
  simp only [codesOf_filterMap_cons]
  unfold LineFlags.letters
  simp [codesOf]

theorem LineEntry.printedMargin_eq (l : LineEntry) : l.printedMargin = marginOf l := by
  unfold LineEntry.printedMargin marginOf
  rw [← LineFlags.letters_eq]
  unfold padLeft padRight
  cases l.align <;> simp [Align.letter, codesOf]

theorem LineFlags.length_letters (f : LineFlags) : f.letters.length ≤ 6 := by
  rw [LineFlags.letters_eq, codesOf, List.length_map]
  exact List.length_filterMap_le _ _

theorem length_marginOf {l : LineEntry} (h : l.number ≤ 65535) : (marginOf l).length = 13 := by
  have hnumber : (decimal l.number).length ≤ 5 := length_decimalFuel (k := 4) (by omega)
  have hletters := l.flags.length_letters
  unfold marginOf padLeft padRight
  simp only [List.length_append, List.length_replicate, List.length_singleton]
  omega

/-! ### The text of a LINE (R156) -/

/-- The font numbers of the positions. -/
def State.fontNumbers (s : State) : List Nat := s.font.table.toList.map (·.font)

theorem State.fontNumbers_getD (s : State) (p : Fin 8) : s.fontNumbers.getD p.val 0 = s.font.table[p].font := by
  simp [State.fontNumbers, List.getD_eq_getElem?_getD]

theorem State.printedFont_eq (s : State) (i : Item) : i.pos?.map (fun p => s.fontNumbers.getD p.val 0) = s.printedFont i := by
  cases i with
  | char | missing => exact congrArg some (s.fontNumbers_getD _)
  | _ => rfl

/-- The marker of the font of an item, after one whose font was `font`. -/
def fontChange (font : Option Nat) : Option Nat → List Nat
  | some n => if font = some n then [] else fontMarker n
  | none => []

/-- What an item of a LINE appends after one whose font was `font` and whose size was `size`. -/
def State.printedFor (s : State) (font : Option Nat) (size : Nat) (i : Item) : List Nat :=
  fontChange font (s.printedFont i)
    ++ (if i.size = size then [] else sizeMarker i.size) ++ i.text

theorem itemsText_cons (s : State) (font : Option Nat) (size : Nat) (i : Item) (l : List Item) :
    itemsText s.fontNumbers font size (i :: l) = s.printedFor font size i
      ++ itemsText s.fontNumbers ((s.printedFont i).orElse fun _ => font) i.size l := by
  rw [itemsText, State.printedFor, State.printedFont_eq]
  cases s.printedFont i <;> rfl

/-- The font in effect after the items `before` of a LINE. -/
def State.fontAfter (s : State) (l : LineEntry) (before : List Item) : Option Nat :=
  ((before.filterMap s.printedFont).getLast?).orElse (fun _ => l.gov.map (·.font))

/-- The size in effect after the items `before` of a LINE. -/
def LineEntry.sizeAfter (l : LineEntry) (before : List Item) : Nat := (before.getLast?.map Item.size).getD l.govSize

theorem State.fontAfter_append (s : State) (l : LineEntry) (before : List Item) (i : Item) :
    s.fontAfter l (before ++ [i]) = (s.printedFont i).orElse fun _ => s.fontAfter l before := by
  unfold State.fontAfter
  cases h : s.printedFont i <;> simp [List.filterMap_append, h]

theorem LineEntry.sizeAfter_append (l : LineEntry) (before : List Item) (i : Item) : l.sizeAfter (before ++ [i]) = i.size := by
  simp [LineEntry.sizeAfter]

theorem State.printedAt_eq {s : State} {l : LineEntry} {before rest : List Item} {i : Item}
    (h : l.items.map (·.item) = before ++ i :: rest) :
    s.printedAt l before.length = s.printedFor (s.fontAfter l before) (l.sizeAfter before) i := by
  have hitem : (l.items[before.length]?).map (·.item) = some i := by
    rw [← List.getElem?_map, h]
    simp
  have hbefore : (l.items.take before.length).map (·.item) = before := by
    rw [List.map_take, h, List.take_left]
  have hsize : (codesOf ['[', 'S', ' '] ++ decimal (i.size / 2) ++ (if i.size % 2 = 1 then codesOf ['.', '5'] else [])
      ++ codesOf [']']) = sizeMarker i.size := by
    unfold sizeMarker pointsText
    simp only [List.append_assoc]
  unfold State.printedAt
  rw [hitem]
  dsimp only
  rw [hbefore, hsize]
  cases i <;> rfl

theorem State.printedText_eq (s : State) (l : LineEntry) : s.printedText l = lineText s.fontNumbers l := by
  have hfrom (rest before : List Item) (h : l.items.map (·.item) = before ++ rest) :
      (List.range' before.length rest.length).flatMap (s.printedAt l) =
        itemsText s.fontNumbers (s.fontAfter l before) (l.sizeAfter before) rest := by
    induction rest generalizing before with
    | nil => rfl
    | cons i rest ih =>
      have htail := ih (before ++ [i]) (by rw [h]; simp)
      rw [List.length_append, List.length_singleton, State.fontAfter_append, LineEntry.sizeAfter_append] at htail
      rw [List.length_cons, List.range'_succ, List.flatMap_cons, htail, State.printedAt_eq h, itemsText_cons]
  have hall := hfrom (l.items.map (·.item)) [] rfl
  rw [List.length_map] at hall
  unfold State.printedText
  rw [List.range_eq_range']
  exact hall

end Sys2Proof.Machine
end

section
/-! PROOFS. The Proof Unit's beginning of an entry, and the printer port (R153, R154, R157, R160, R165, R166). -/

namespace Sys2Proof.Machine

/-! ### The records of an entry (R154, R157) -/

/-- A text as it is printed: one over 357 characters is cut at 354 (R157). -/
def printedPart (t : List Nat) : List Nat := if t.length ≤ 357 then t else t.take 354 ++ codesOf ['.', '.', '.']

theorem textParts_eq (t : List Nat) : textParts t =
    (List.range (max 1 (((printedPart t).length + 118) / 119))).map (fun k => ((printedPart t).drop (119 * k)).take 119) := by
  unfold textParts printedPart
  by_cases h1 : t.length ≤ 119
  · have hcount : max 1 ((t.length + 118) / 119) = 1 := by omega
    rw [if_pos h1, if_pos (by omega), hcount]
    simp [List.range_succ, List.take_of_length_le h1]
  by_cases h2 : t.length ≤ 238
  · have hcount : max 1 ((t.length + 118) / 119) = 2 := by omega
    have hrest : (t.drop 119).length ≤ 119 := by rw [List.length_drop]; omega
    rw [if_neg h1, if_pos h2, if_pos (by omega), hcount]
    simp [List.range_succ, List.take_of_length_le hrest]
  by_cases h3 : t.length ≤ 357
  · have hcount : max 1 ((t.length + 118) / 119) = 3 := by omega
    have hrest : (t.drop 238).length ≤ 119 := by rw [List.length_drop]; omega
    rw [if_neg h1, if_neg h2, if_pos h3, if_pos h3, hcount]
    simp [List.range_succ, List.take_of_length_le hrest]
  · have hlength : (t.take 354).length = 354 := by rw [List.length_take]; omega
    have hcount : max 1 (((t.take 354 ++ codesOf ['.', '.', '.']).length + 118) / 119) = 3 := by
      rw [List.length_append, hlength]
      rfl
    have hthird : ((t.take 354 ++ codesOf ['.', '.', '.']).drop 238).take 119 =
        (t.drop 238).take 116 ++ codesOf ['.', '.', '.'] := by
      rw [List.drop_append_of_le_length (by omega), List.drop_take, List.take_of_length_le]
      rw [List.length_append, List.length_take, List.length_drop]
      have hdots : (codesOf ['.', '.', '.']).length = 3 := rfl
      omega
    have hfirst : (t.take 354 ++ codesOf ['.', '.', '.']).take 119 = t.take 119 := by
      rw [List.take_append_of_le_length (by omega), List.take_take]
      rfl
    have hsecond : ((t.take 354 ++ codesOf ['.', '.', '.']).drop 119).take 119 = (t.drop 119).take 119 := by
      rw [List.drop_append_of_le_length (by omega), List.drop_take,
        List.take_append_of_le_length (by rw [List.length_take, List.length_drop]; omega), List.take_take]
      rfl
    rw [if_neg h1, if_neg h2, if_neg h3, if_neg h3, hcount]
    simp [List.range_succ, hfirst, hsecond, hthird]

theorem lineRecords_eq (s : State) (l : LineEntry) : lineRecords s.fontNumbers l =
    (List.range (max 1 (((printedPart (s.printedText l)).length + 118) / 119))).map (fun k =>
      (if k = 0 then l.printedMargin else List.replicate 13 0x20)
        ++ ((printedPart (s.printedText l)).drop (119 * k)).take 119) := by
  have hparts := textParts_eq (s.printedText l)
  unfold lineRecords
  rw [LineEntry.printedMargin_eq, ← State.printedText_eq, hparts]
  obtain ⟨n, hn⟩ : ∃ n, max 1 (((printedPart (s.printedText l)).length + 118) / 119) = n + 1 :=
    ⟨max 1 (((printedPart (s.printedText l)).length + 118) / 119) - 1, by omega⟩
  rw [hn, List.range_succ_eq_map]
  simp [blankMargin]

/-- The gap record, when the gap count is above 0 (R154). -/
def State.gapRecords (s : State) : List PrintRecord :=
  if s.proof.gap = 0 then [] else [{ role := .gap, chars := gapText s.proof.gap }]

theorem State.formRecords_line (s : State) (l : LineEntry) : s.formRecords (.line l) = s.gapRecords
    ++ (if s.proof.job = some l.job then [] else [{ role := .header l.job, chars := headerText l.job }])
    ++ (lineRecords s.fontNumbers l).map (fun c => { role := .own, chars := c }) := by
  unfold State.formRecords State.gapRecords
  by_cases h : s.proof.gap = 0
  · rw [if_pos h, if_neg (by omega)]
    rfl
  · rw [if_neg h, if_pos (by omega)]
    rfl

theorem State.formRecords_one (s : State) {k : EntryKind} {text : List Nat} (hk : ∀ l, k ≠ .line l)
    (htext : entryRecords s.fontNumbers k = [blankMargin ++ text]) :
    s.formRecords k = s.gapRecords ++ [{ role := .own, chars := blankMargin ++ text }] := by
  unfold State.formRecords State.gapRecords
  have hown : entryRecords (s.font.table.toList.map (·.font)) k = [blankMargin ++ text] := htext
  cases k with
  | line l => exact absurd rfl (hk l)
  | _ =>
    dsimp only
    rw [hown]
    by_cases h : s.proof.gap = 0
    · rw [if_pos h, if_neg (by omega)]
      rfl
    · rw [if_neg h, if_pos (by omega)]
      rfl

theorem State.formRecords_ne_nil (s : State) (k : EntryKind) : s.formRecords k ≠ [] := by
  cases k with
  | line l =>
    rw [State.formRecords_line, lineRecords_eq]
    simp
  | move d => rw [State.formRecords_one s (text := moveText d) (fun l h => by cases h) rfl]; simp
  | cut => rw [State.formRecords_one s (text := codesOf ['C', 'U', 'T']) (fun l h => by cases h) rfl]; simp
  | jobEnd j => rw [State.formRecords_one s (text := jobEndText j) (fun l h => by cases h) rfl]; simp

/-- A list of records takes at least one word. -/
theorem one_le_words {l : List PrintRecord} (h : l ≠ []) : 1 ≤ (l.map PrintRecord.words).sum := by
  obtain ⟨r, rest, rfl⟩ := List.exists_cons_of_ne_nil h
  rw [List.map_cons, List.sum_cons]
  have : 1 ≤ r.words := Nat.le_add_right _ _
  omega

/-! ### The Proof Unit begins an entry (R153, R160) -/

theorem State.canPlace_iff (s : State) {l : List PrintRecord} (h : l ≠ []) : s.canPlace l = true ↔
    s.port.disabled.spool = false
      ∧ ((s.proof.half s.proof.writePoint.half ≠ .full
          ∧ s.proof.writePoint.offset + (l.map PrintRecord.words).sum ≤ 4096)
        ∨ s.proof.half s.proof.writePoint.half.other = .empty) := by
  have hwords := one_le_words h
  have hfits : (l.map PrintRecord.words).sum ≤ halfWords - s.proof.writePoint.offset ↔
      s.proof.writePoint.offset + (l.map PrintRecord.words).sum ≤ 4096 := by
    have : halfWords = 4096 := rfl
    omega
  simp only [State.canPlace, ProofUnit.fits, ProofUnit.writeWaits, Bool.and_eq_true, Bool.or_eq_true, Bool.not_eq_true',
    decide_eq_true_eq, hfits, beq_iff_eq, beq_eq_false_iff_ne, ne_eq]
  rw [and_comm (a := s.proof.writePoint.offset + _ ≤ 4096)]

section
variable {s : State} {before after : List Entry} {e : Entry}

theorem State.nextToProof_eq (hqueue : s.queue = before ++ e :: after) (hbefore : ∀ x ∈ before, x.proof = .proofed)
    (he : e.proof = .waiting) (hafter : ∀ x ∈ after, x.proof ≠ .inProof) : s.nextToProof = some e := by
  have hnone : s.inProof = none := by
    unfold State.inProof
    rw [List.find?_eq_none, hqueue]
    intro x hx
    rcases List.mem_append.1 hx with hx | hx
    · simp [hbefore x hx]
    · rcases List.mem_cons.1 hx with rfl | hx
      · simp [he]
      · simp [hafter x hx]
  unfold State.nextToProof
  rw [hnone, if_neg (by decide), hqueue]
  exact find?_append_cons (fun x hx => by simp [hbefore x hx]) (by simp [he])

theorem State.markInProof_eq (hqueue : s.queue = before ++ e :: after) (hbefore : ∀ x ∈ before, x.proof = .proofed)
    (he : e.proof = .waiting) : s.markInProof = { s with queue := before ++ { e with proof := .inProof } :: after } := by
  unfold State.markInProof
  rw [hqueue, modifyFirst_append (fun x hx => by simp [hbefore x hx]) (by simp [he])]

/-- An entry in proof counted as a gap, no entry being EXPOSED (R160). -/
theorem State.countGap_eq (hqueue : s.queue = before ++ e :: after) (hbefore : ∀ x ∈ before, x.proof ≠ .inProof)
    (he : e.proof = .inProof) (hnone : ∀ x ∈ s.queue, x.photo ≠ .exposed) : s.countGap = State.markIf { s with
      queue := before ++ { e with proof := .proofed } :: after
      proof.records := []
      proof.written := 0
      proof.gap := min 65535 (s.proof.gap + 1) } (s.proof.gap != min 65535 (s.proof.gap + 1)) [228] := by
  have hgap : s.countGap = State.proofDone (s.setGap (stepUpTo 65535 s.proof.gap)) := rfl
  have hleft (t : State) (ht : t.queue = before ++ { e with proof := .proofed } :: after) : t.releaseDone = t :=
    State.releaseDone_of_none fun x hx => by
      have hphoto : x.photo ≠ .exposed := by
        rw [ht] at hx
        rw [hqueue] at hnone
        rcases List.mem_append.1 hx with hx | hx
        · exact hnone x (List.mem_append_left _ hx)
        · rcases List.mem_cons.1 hx with rfl | hx
          · exact hnone e (List.mem_append_right _ List.mem_cons_self)
          · exact hnone x (List.mem_append_right _ (List.mem_cons_of_mem _ hx))
      simp [Entry.done, hphoto]
  rw [hgap, State.proofDone_eq (by rw [State.setGap_queue]; exact hqueue) hbefore he, hleft _ rfl, stepUpTo_eq_min]
  unfold State.setGap State.markIf
  dsimp only
  split <;> rfl

end

/-! ### The printer port (R165, R166) -/

section
variable {s : State} {b : List Nat}

theorem State.charSent_next (hb : s.proof.buffer = some b) (h : s.proof.portIndex + 1 < b.length + 2) : s.charSent = { s with
    proof.portIndex := s.proof.portIndex + 1
    proof.stalled := false
    proof.port := if s.proof.busy || s.proof.paperOut then .held else .awaiting } := by
  unfold State.charSent
  rw [hb]
  dsimp only
  rw [if_pos (by simpa [portChars] using h)]
  rfl

theorem State.charSent_last (hb : s.proof.buffer = some b) (h : s.proof.portIndex + 1 = b.length + 2) : s.charSent = { s with
    proof.portIndex := 0, proof.stalled := false, proof.port := .idle, proof.buffer := none } := by
  unfold State.charSent
  rw [hb]
  dsimp only
  rw [if_neg (by simp [portChars, h])]

end

/-- Settles O57: the records by the kind of the entry, then the Proof Unit and the port. -/
theorem proofBeginsAndPrinterPort : Obligations.ProofBeginsAndPrinterPort := by
  refine ⟨fun s => ?records, fun n => ?number, fun l hl => ?margin, fun s before after e hq hqueue hbefore he hafter => ?begins,
    fun s hq => ⟨fun b hport hb => ?acknowledge, fun busy paperOut => ?lines, fun hport hstalled => ?stalls, fun hstalled => ?stalled⟩⟩
  case records =>
    refine ⟨fun l => ?_, fun d => ?_, ?_, fun j => ⟨fun h => ?_, fun h => ?_⟩⟩
    · rw [State.formRecords_line, lineRecords_eq, List.map_map]
      rfl
    · refine State.formRecords_one s (text := _) (fun l h => by cases h) ?_
      unfold entryRecords moveText
      by_cases hd : d < 0
      · simp [hd, codesOf]
      · simp [hd, codesOf]
    · exact State.formRecords_one s (fun l h => by cases h) rfl
    · refine State.formRecords_one s (text := _) (fun l h => by cases h) ?_
      unfold entryRecords jobEndText
      dsimp only
      rw [h]
    · refine State.formRecords_one s (text := _) (fun l h => by cases h) ?_
      unfold entryRecords jobEndText
      dsimp only
      rw [h]
      cases j.flags.sumMismatch <;> rfl
  case number =>
    obtain ⟨hvalue, hdigits, hne, hhead⟩ := decimalFuel_spec (Nat.lt_succ_self n)
    exact ⟨hvalue, hdigits, hne, hhead, rfl⟩
  case margin =>
    rw [LineEntry.printedMargin_eq]
    exact length_marginOf hl
  case begins =>
    intro half words placed
    have hexec : exec .proofBeginEntry s = (s.beginProof e).done := by
      show s.answer (s.nextToProof.map s.beginProof) = _
      rw [State.nextToProof_eq hqueue hbefore he hafter]
      rfl
    have hplaced : s.markInProof.canPlace (s.formRecords e.kind) = true ↔ placed :=
      s.markInProof.canPlace_iff (s.formRecords_ne_nil e.kind)
    have hmarked := State.markInProof_eq hqueue hbefore he
    refine ⟨fun h => ?_, fun hdetached hnot hnone => ?_⟩
    · have hbegun : s.beginProof e = { s.markInProof with proof.records := s.formRecords e.kind, proof.written := 0 } := by
        unfold State.beginProof
        refine if_neg fun hno => ?_
        exact hno.2 (hplaced.2 (h.resolve_left (not_not.2 hno.1)))
      rw [hexec, hbegun, hmarked]
      exact State.done_endsIn _ hq
    · have hbegun : s.beginProof e = s.markInProof.countGap := by
        unfold State.beginProof
        exact if_pos ⟨hdetached, mt hplaced.1 hnot⟩
      have hgap := State.countGap_eq (s := { s with queue := before ++ { e with proof := .inProof } :: after }) rfl
        (fun x hx => by rw [hbefore x hx]; decide) rfl (fun x hx => by
          rw [hqueue] at hnone
          rcases List.mem_append.1 hx with hx | hx
          · exact hnone x (List.mem_append_left _ hx)
          · rcases List.mem_cons.1 hx with rfl | hx
            · exact hnone e (List.mem_append_right _ List.mem_cons_self)
            · exact hnone x (List.mem_append_right _ (List.mem_cons_of_mem _ hx)))
      rw [hexec, hbegun, hmarked, hgap]
      exact State.done_endsIn _ (by rw [Quiet, State.markIf_port]; exact hq)
  case acknowledge =>
    have hexec : exec .printerAcknowledge s = s.charSent.done := by
      show s.answer (if s.proof.port = .awaiting then some s.charSent else none) = _
      rw [if_pos hport]
      rfl
    rw [hexec]
    refine ⟨fun h => ?_, fun h => ?_⟩
    · rw [State.charSent_next hb h]
      exact State.done_endsIn _ hq
    · rw [State.charSent_last hb h]
      exact State.done_endsIn _ hq
  case lines =>
    have hexec : exec (.printerStatusChange busy paperOut) s =
        (if s.proof.port = .held then State.portReady { s with proof.busy := busy, proof.paperOut := paperOut }
          else { s with proof.busy := busy, proof.paperOut := paperOut }).done := rfl
    rw [hexec]
    by_cases hheld : s.proof.port = .held
    · rw [if_pos hheld]
      have hport : (if s.proof.port = .held ∧ busy = false ∧ paperOut = false then PortState.awaiting else s.proof.port) =
          if busy || paperOut then .held else .awaiting := by
        rw [hheld]
        cases busy <;> cases paperOut <;> rfl
      rw [hport]
      exact State.done_endsIn _ hq
    · rw [if_neg hheld, if_neg (fun h => hheld h.1)]
      exact State.done_endsIn _ hq
  case stalls =>
    have hexec : exec .printerStalled s = (State.raise { s with proof.stalled := true } .printerStalled).done := by
      show s.answer (if s.proof.port ≠ .idle ∧ s.proof.stalled = false then _ else none) = _
      rw [if_pos ⟨hport, hstalled⟩]
      rfl
    rw [hexec]
    exact State.done_endsIn _ (quiet_of_inner (by simp) hq)
  case stalled =>
    show s.answer (if s.proof.port ≠ .idle ∧ s.proof.stalled = false then _ else none) = _
    rw [if_neg (by rw [hstalled]; simp)]
    rfl

end Sys2Proof.Machine
end

section
/-! PROOFS. A step of the copy, by what it leaves alone: the frames of the Composer's operations, its work piece after
piece, and the ends of its waits (R20, R36, R49, R50, R53 to R56, R99, R105). -/

namespace Sys2Proof.Machine

/-! ### Ages (R50) -/

theorem Position.foldl_age (p : Fin 8) (lines : List LineEntry) (e : Position) :
    lines.foldl (fun e l => { e with age := e.ageAfter p l }) e = { e with age := e.ageAfterAll p lines } := by
  induction lines generalizing e with
  | nil => rfl
  | cons l lines ih =>
    unfold Position.ageAfterAll
    rw [List.foldl_cons, ih]

theorem Position.ageAfterAll_append (p : Fin 8) (a b : List LineEntry) (e : Position) :
    e.ageAfterAll p (a ++ b) = ({ e with age := e.ageAfterAll p a } : Position).ageAfterAll p b := by
  unfold Position.ageAfterAll
  rw [List.foldl_append, Position.foldl_age p a e]

/-- The ages do not depend on the in-use count. -/
theorem Position.ageAfterAll_inUse (p : Fin 8) (lines : List LineEntry) (e : Position) (n : Nat) :
    ({ e with inUse := n } : Position).ageAfterAll p lines = e.ageAfterAll p lines := by
  induction lines generalizing e with
  | nil => rfl
  | cons l lines ih => exact ih { e with age := e.ageAfter p l }

/-! ### What a step of the copy leaves alone -/

namespace LineFrame

variable {s t u : State} {lines more : List LineEntry}

/-- A frame equation gives the frame, once the position table is known. -/
theorem of_frame
    (h : t = { s with
      composer := t.composer
      intake := t.intake
      queue := t.queue
      font.table := t.font.table
      status := t.status
      port.holdTimer := t.port.holdTimer
      port.requests := t.port.requests })
    (hoffset : t.intake.intakeOffset = s.intake.intakeOffset) (hcount : t.intake.refetchCount = s.intake.refetchCount)
    (htable : ∀ p : Fin 8, t.font.table[p] =
      { s.font.table[p] with inUse := t.font.table[p].inUse, age := s.font.table[p].ageAfterAll p lines }) :
    LineFrame lines s t := by
  refine ⟨?_, ?_, ?_, ?_, ?_, ?_, ?_, ?_, ?_, ?_, ?_, hoffset, hcount, htable⟩ <;> rw [h]

theorem trans (h : LineFrame lines s t) (h' : LineFrame more t u) : LineFrame (lines ++ more) s u := by
  obtain ⟨hmem, hfree, hpending, hhyph, hseq, hexposure, hreport, hport, hfont, hpanel, hproof, hoffset, hcount, htable⟩ := h
  obtain ⟨hmem', hfree', hpending', hhyph', hseq', hexposure', hreport', hport', hfont', hpanel', hproof', hoffset',
    hcount', htable'⟩ := h'
  refine ⟨hmem'.trans hmem, hfree'.trans hfree, hpending'.trans hpending, hhyph'.trans hhyph, hseq'.trans hseq,
    hexposure'.trans hexposure, hreport'.trans hreport, ?_, ?_, hpanel'.trans hpanel, hproof'.trans hproof,
    hoffset'.trans hoffset, hcount'.trans hcount, fun p => ?_⟩
  · rw [hport', hport]
  · rw [hfont', hfont]
  · have hage := Position.ageAfterAll_inUse p more { s.font.table[p] with age := s.font.table[p].ageAfterAll p lines }
      t.font.table[p].inUse
    rw [htable' p, htable p, Position.ageAfterAll_append, ← hage]

end LineFrame

theorem StatusStands.refl (s : State) : StatusStands s s := rfl

theorem StatusStands.trans {s t u : State} (h : StatusStands s t) (h' : StatusStands t u) : StatusStands s u := by
  unfold StatusStands at *
  rw [h', h]

namespace CopyFrame

variable {s t u : State}

theorem of_frame
    (h : t = { s with
      composer := t.composer
      intake := t.intake
      queue := t.queue
      font.table := t.font.table
      status.marks := t.status.marks
      port.holdTimer := t.port.holdTimer
      port.requests := t.port.requests })
    (hoffset : t.intake.intakeOffset = s.intake.intakeOffset) (hcount : t.intake.refetchCount = s.intake.refetchCount)
    (htable : ∀ p : Fin 8, t.font.table[p] = { s.font.table[p] with inUse := t.font.table[p].inUse }) :
    CopyFrame s t := by
  have hstatus : t.status = { s.status with marks := t.status.marks } := by rw [h]
  refine ⟨LineFrame.of_frame ?_ hoffset hcount htable, hstatus⟩
  rw [hstatus]
  exact h

theorem trans (h : CopyFrame s t) (h' : CopyFrame t u) : CopyFrame s u :=
  ⟨LineFrame.trans h.1 h'.1, StatusStands.trans h.2 h'.2⟩

theorem lineFrame {lines : List LineEntry} (h : CopyFrame s t) (h' : LineFrame lines t u) : LineFrame lines s u :=
  LineFrame.trans h.1 h'

theorem refl (s : State) : CopyFrame s s := of_frame rfl rfl rfl fun _ => rfl

/-- The Composer, the job and the queue change. -/
theorem composer (s : State) (c : Composer) (j : JobState) (q : List Entry) :
    CopyFrame s { s with composer := c, intake.job := j, queue := q } := of_frame rfl rfl rfl fun _ => rfl

theorem mark (s : State) (l : List Nat) : CopyFrame s (s.mark l) := of_frame rfl rfl rfl fun _ => rfl

theorem markIf (s : State) (b : Bool) (l : List Nat) : CopyFrame s (s.markIf b l) := by
  unfold State.markIf
  split
  · exact mark s l
  · exact refl s

end CopyFrame

theorem LineFrame.copyFrame {s t u : State} {lines : List LineEntry} (h : LineFrame lines s t) (h' : CopyFrame t u) :
    LineFrame lines s u := by
  simpa using LineFrame.trans h h'.1

theorem State.setComposer_copyFrame (s : State) (x : ComposerState) : CopyFrame s (s.setComposer x) :=
  (CopyFrame.composer s _ _ _).trans (CopyFrame.markIf _ _ _)

theorem State.setComposer_composer (s : State) (x : ComposerState) :
    (s.setComposer x).composer = { s.composer with state := x } := by
  unfold State.setComposer State.markIf
  split <;> rfl

theorem State.refreshInUse_copyFrame (s : State) : CopyFrame s s.refreshInUse := by
  have hframe := s.refreshInUse_frame
  have htable := s.refreshInUse_table
  generalize s.refreshInUse = t at hframe htable
  refine CopyFrame.of_frame ?_ ?_ ?_ fun p => by rw [htable]
  all_goals rw [hframe]

@[simp] theorem State.refreshInUse_composer (s : State) : s.refreshInUse.composer = s.composer :=
  (congrArg State.composer s.refreshInUse_frame :)

@[simp] theorem State.refreshInUse_intake (s : State) : s.refreshInUse.intake = s.intake :=
  (congrArg State.intake s.refreshInUse_frame :)

theorem State.consume_copyFrame (s : State) (w : Word) : CopyFrame s (s.consume w) := by
  have hframe := s.consume_frame w
  obtain ⟨_, _, _, _, hintake⟩ := State.consume_intake s w
  generalize s.consume w = t at hframe hintake
  refine CopyFrame.of_frame ?_ ?_ ?_ fun p => ?_
  · rw [hframe]
  · rw [hintake]
  · rw [hintake]
  · rw [hframe]

theorem State.undecoded_copyFrame (t : State) :
    CopyFrame t ({ t with intake.decoder := none, intake.textRun := false } : State) :=
  CopyFrame.of_frame rfl rfl rfl fun _ => rfl

theorem State.decoded_copyFrame (s : State) (w : Word) : CopyFrame s (s.decoded w) :=
  (s.consume_copyFrame w).trans (s.decoded_eq w ▸ State.undecoded_copyFrame (s.consume w))

/-! ### Work done piece after piece -/

/-- The Composer's first `n` pieces of work take the state `s` to `t`. -/
def State.Works (n : Nat) (s t : State) : Prop := ∀ k, s.runTasksFuel (n + k) = t.runTasksFuel k

namespace State.Works

variable {s t u : State} {m n : Nat}

theorem refl (s : State) : State.Works 0 s s := fun k => by rw [Nat.zero_add]

theorem trans (h : State.Works m s t) (h' : State.Works n t u) : State.Works (m + n) s u := fun k => by
  rw [Nat.add_assoc, h, h']

/-- One piece of work, by the Composer in a state that does not wait. -/
theorem step {x : Task} {rest : List Task} (hwaits : s.composerWaits = false) (htodo : s.composer.todo = x :: rest)
    (h : ({ s with composer.todo := rest } : State).doTask x = t) : State.Works 1 s t := fun k => by
  rw [Nat.add_comm, runTasksFuel_cons k s x rest hwaits htodo, h]

/-- No work is left. -/
theorem runTasks_of_nil (h : State.Works n s t) (hn : n ≤ 64) (htodo : t.composer.todo = []) :
    s.runTasks = t.refreshInUse := by
  obtain ⟨k, hk⟩ := Nat.exists_eq_add_of_le hn
  unfold State.runTasks
  rw [hk, h, runTasksFuel_nil k t htodo]

/-- A wait begins. -/
theorem runTasks_of_waits (h : State.Works n s t) (hn : n ≤ 64) (hwaits : t.composerWaits = true) :
    s.runTasks = t.refreshInUse := by
  obtain ⟨k, hk⟩ := Nat.exists_eq_add_of_le hn
  unfold State.runTasks
  rw [hk, h, runTasksFuel_waits k t hwaits]

end State.Works

/-- In these states the Composer works. -/
theorem State.composerWaits_false {s : State}
    (h : s.composer.state = .setting ∨ s.composer.state = .lookahead ∨ s.composer.state = .outsideJob
      ∨ s.composer.state = .discarding) : s.composerWaits = false := by
  unfold State.composerWaits
  rcases h with h | h | h | h <;> rw [h] <;> rfl

theorem State.composerWaits_queueWait {s : State} (h : s.composer.state = .queueWait) : s.composerWaits = true := by
  unfold State.composerWaits
  rw [h]
  rfl

theorem State.composerWaits_fontWait {s : State} (h : s.composer.state = .fontWait) : s.composerWaits = true := by
  unfold State.composerWaits
  rw [h]
  rfl

/-! ### The end of a FONT WAIT (R54 to R56) -/

/-- A step of the copy ends with `c` as the Composer, the copy's record, `i`, and the queue, `q`, with the in-use counts brought up to date. -/
structure CopyEnds (s t : State) (c : Composer) (i : Intake) (q : List Entry) : Prop where
  frame : CopyFrame s t
  composer : t.composer = c
  intake : t.intake = i
  queue : t.queue = q
  inUse : InUseUpToDate t

/-- A FONT WAIT of a FONT command ends: no work is in hand. -/
theorem State.endFontWait_ends {s : State} {w : FontWait} (hchar : w.char = none) (htodo : s.composer.todo = []) :
    CopyEnds s (s.endFontWait w)
      { s.composer with fontWait := none, state := if w.inLookahead then .lookahead else .setting } s.intake s.queue := by
  unfold State.endFontWait
  rw [hchar]
  generalize (if w.inLookahead then ComposerState.lookahead else .setting) = x
  have hframe : CopyFrame s ({ s with composer.fontWait := none } : State) := CopyFrame.composer s _ _ _
  have hset := State.setComposer_copyFrame { s with composer.fontWait := none } x
  have hcomposer := State.setComposer_composer { s with composer.fontWait := none } x
  have hintake := State.setComposer_intake { s with composer.fontWait := none } x
  have hqueue := State.setComposer_queue { s with composer.fontWait := none } x
  dsimp only
  generalize State.setComposer { s with composer.fontWait := none } x = t at hset hcomposer hintake hqueue
  rw [(State.Works.refl t).runTasks_of_nil (Nat.zero_le _) (by rw [hcomposer]; exact htodo)]
  exact ⟨(hframe.trans hset).trans t.refreshInUse_copyFrame, t.refreshInUse_composer.trans hcomposer,
    t.refreshInUse_intake.trans hintake, t.refreshInUse_queue.trans hqueue, t.refreshInUse_upToDate⟩

/-- A FONT WAIT of a FONT command ends in selection or in substitution (R51, R55, R56). -/
theorem State.waitEnds {s : State} {w : FontWait} (hchar : w.char = none) (htodo : s.composer.todo = []) (p : Fin 8)
    (selected : Bool) :
    CopyEnds s (if selected then s.waitSelects w p else s.waitSubstitutes w)
      { s.composer with
        fontWait := none
        current := if selected then some { font := w.font, pos := p } else s.composer.current
        fontSub := !selected
        state := if w.inLookahead then .lookahead else .setting } s.intake s.queue := by
  have hfrom (c : Composer) (htodo : c.todo = []) := State.endFontWait_ends (s := { s with composer := c }) hchar htodo
  have hframe (c : Composer) : CopyFrame s ({ s with composer := c } : State) := CopyFrame.composer s _ _ _
  cases selected with
  | true =>
    have h := hfrom { s.composer with current := some { font := w.font, pos := p }, fontSub := false } htodo
    have heq : s.waitSelects w p = State.endFontWait
        { s with composer.current := some { font := w.font, pos := p }, composer.fontSub := false } w := by
      unfold State.waitSelects
      rw [hchar, Option.isSome_none, Bool.and_false]
    rw [if_pos rfl, heq]
    exact { h with frame := (hframe _).trans h.frame }
  | false =>
    have h := hfrom { s.composer with fontSub := true } htodo
    have heq : s.waitSubstitutes w = State.endFontWait { s with composer.fontSub := true } w := by
      unfold State.waitSubstitutes
      rw [hchar]
      rfl
    rw [if_neg (by simp), heq]
    exact { h with frame := (hframe _).trans h.frame }

/-- Settles O47: a wait on an entry ends as was fixed, and one for a position when the font is found again. -/
theorem fontWaitEnds : Obligations.FontWaitEnds := by
  intro s w p selected c hq hwait hchar htodo hcase
  have h := State.waitEnds hchar htodo p selected
  refine ⟨if selected then s.waitSelects w p else s.waitSubstitutes w, ?_, h.frame, h.queue, h.intake, h.inUse, h.composer⟩
  rcases hcase with ⟨rfl, htarget⟩ | ⟨rfl, htarget, rfl, hfont, hready, hothers⟩
  · have hexec : exec .fontWaitEnd s = s.answer s.onFontWaitEnd := rfl
    rw [hexec]
    refine State.answer_endsIn ?_ (quiet_of_inner ?_ hq)
    · unfold State.onFontWaitEnd
      rw [hwait]
      dsimp only
      rw [htarget]
    · cases selected <;> simp
  · have hexec : exec .fontPositionRerun s = s.answer s.onPositionRerun := rfl
    have hstate : s.font.table[p].state ≠ .vacant := by
      rcases (Position.ready_iff _).1 hready with hs | hs <;> rw [hs] <;> decide
    rw [hexec]
    refine State.answer_endsIn ?_ (quiet_of_inner (by simp) hq)
    unfold State.onPositionRerun
    rw [hwait]
    dsimp only
    rw [htarget]
    dsimp only
    unfold State.rerunResolution
    rw [State.resolve_select ⟨hfont, hstate, hothers⟩ hready]
    rfl

end Sys2Proof.Machine
end

section
/-! PROOFS. An entry offered to the queue: accepted, with what a LINE brings, or held in QUEUE WAIT; and what QUEUE WAIT
holds goes on (R36, R49, R50, R99, R105, R106). -/

namespace Sys2Proof.Machine

/-! ### Where a step of the copy gets to -/

/-- A step of the copy that queues the LINE entries `lines` gets from `s` to `t`, with `c` as the Composer, `i` as the
copy's record and `q` as the queue. -/
structure Reaches (lines : List LineEntry) (s t : State) (c : Composer) (i : Intake) (q : List Entry) : Prop where
  frame : LineFrame lines s t
  composer : t.composer = c
  intake : t.intake = i
  queue : t.queue = q

namespace Reaches

variable {lines more : List LineEntry} {s t u : State} {c d : Composer} {i j : Intake} {q r : List Entry}

theorem trans (h : Reaches lines s t c i q) (h' : Reaches more t u d j r) : Reaches (lines ++ more) s u d j r :=
  ⟨h.frame.trans h'.frame, h'.composer, h'.intake, h'.queue⟩

theorem refl (s : State) : Reaches [] s s s.composer s.intake s.queue := ⟨(CopyFrame.refl s).1, rfl, rfl, rfl⟩

theorem refreshInUse (h : Reaches lines s t c i q) : Reaches lines s t.refreshInUse c i q :=
  ⟨h.frame.copyFrame t.refreshInUse_copyFrame, t.refreshInUse_composer.trans h.composer,
    t.refreshInUse_intake.trans h.intake, t.refreshInUse_queue.trans h.queue⟩

theorem setComposer (h : Reaches lines s t c i q) (x : ComposerState) :
    Reaches lines s (t.setComposer x) { c with state := x } i q := by
  refine ⟨h.frame.copyFrame (t.setComposer_copyFrame x), ?_, ?_, ?_⟩
  · rw [State.setComposer_composer, h.composer]
  · rw [State.setComposer_intake, h.intake]
  · rw [State.setComposer_queue, h.queue]

end Reaches

/-! ### The acceptance of an entry (R36, R50, R105) -/

theorem LineEntry.holds_iff (l : LineEntry) (p : Fin 8) : l.holds p = true ↔ ∃ x ∈ l.items, x.item.pos? = some p := by
  simp [LineEntry.holds]

theorem stepUpTo_eq (top n : Nat) : stepUpTo top n = min top (n + 1) := by
  unfold stepUpTo
  split <;> omega

/-- A change of an entry that no FONT WAIT hears of (R47). -/
theorem State.setPosition_unheard {s : State} {p : Fin 8} {e : Position} (hstate : s.font.table[p].state = e.state)
    (hfont : s.font.table[p].font = e.font) : s.setPosition p e = { s with
      font.table := s.font.table.set p e
      status.marks := (s.setPosition p e).status.marks } := by
  unfold State.setPosition
  dsimp only
  rw [if_pos ⟨hstate, hfont⟩]
  rfl

/-- The age of one position follows the LINE entry `l` (R50). -/
def State.ageAt (l : LineEntry) (s : State) (p : Fin 8) : State :=
  let e := s.font.table[p]
  if e.ready then s.setPosition p { e with age := if l.holds p then 0 else stepUpTo 255 e.age } else s

theorem State.ageAt_frame (l : LineEntry) (s : State) (p : Fin 8) : State.ageAt l s p = { s with
    font.table := s.font.table.set p { s.font.table[p] with age := s.font.table[p].ageAfter p l }
    status.marks := (State.ageAt l s p).status.marks } := by
  unfold State.ageAt Position.ageAfter
  simp only [← LineEntry.holds_iff, stepUpTo_eq]
  cases s.font.table[p].ready with
  | true => exact State.setPosition_unheard rfl rfl
  | false =>
    have hsame : s.font.table.set p s.font.table[p] = s.font.table := Vector.set_getElem_self _
    exact (congrArg (fun v => ({ s with font.table := v } : State)) hsame).symm

/-- The ages of the positions in `ps` follow; the marks follow, and nothing else changes. -/
theorem State.foldl_ageAt (l : LineEntry) : ∀ (ps : List (Fin 8)) (s : State), ps.Nodup →
    ps.foldl (State.ageAt l) s = { s with
      font.table := (ps.foldl (State.ageAt l) s).font.table
      status.marks := (ps.foldl (State.ageAt l) s).status.marks }
    ∧ ∀ q : Fin 8, (ps.foldl (State.ageAt l) s).font.table[q]
      = if q ∈ ps then { s.font.table[q] with age := s.font.table[q].ageAfter q l } else s.font.table[q]
  | [], _, _ => ⟨rfl, fun _ => rfl⟩
  | p :: ps, s, hnodup => by
    obtain ⟨hp, hps⟩ := List.nodup_cons.1 hnodup
    have hstep := State.ageAt_frame l s p
    obtain ⟨hframe, htable⟩ := State.foldl_ageAt l ps (State.ageAt l s p) hps
    have hentry (q : Fin 8) : (State.ageAt l s p).font.table[q]
        = if q = p then { s.font.table[q] with age := s.font.table[q].ageAfter q l } else s.font.table[q] := by
      rw [hstep]
      dsimp only
      rw [getElem_set_fin]
      split
      next h => rw [h]
      next => rfl
    refine ⟨?_, fun q => ?_⟩
    · rw [List.foldl_cons, hframe, hstep]
    · rw [List.foldl_cons, htable, hentry]
      by_cases hqp : q = p
      · subst hqp
        rw [if_neg hp, if_pos rfl, if_pos (List.mem_cons_self ..)]
      · simp [hqp]

theorem State.agePositions_eq (s : State) (l : LineEntry) :
    s.agePositions l = (List.finRange 8).foldl (State.ageAt l) s := rfl

/-- The ages of the MOUNTED and FIXED entries follow a LINE entry (R50). -/
theorem State.agePositions_reaches (s : State) (l : LineEntry) :
    Reaches [l] s (s.agePositions l) s.composer s.intake s.queue ∧ StatusStands s (s.agePositions l) := by
  obtain ⟨hframe, htable⟩ := State.foldl_ageAt l (List.finRange 8) s (List.nodup_finRange 8)
  rw [← State.agePositions_eq] at hframe htable
  generalize s.agePositions l = t at hframe htable
  have hage (p : Fin 8) : t.font.table[p] = { s.font.table[p] with age := s.font.table[p].ageAfter p l } :=
    (htable p).trans (if_pos (List.mem_finRange p))
  refine ⟨⟨LineFrame.of_frame ?_ ?_ ?_ fun p => ?_, ?_, ?_, ?_⟩, ?_⟩
  case refine_4 =>
    rw [hage p]
    rfl
  case refine_8 =>
    unfold StatusStands
    rw [hframe]
  all_goals rw [hframe]

/-- The LINE entries that an entry of a kind brings. -/
def EntryKind.lines : EntryKind → List LineEntry
  | .line l => [l]
  | _ => []

/-- What the acceptance of an entry of kind `k` leaves of the Composer (R36, R105). -/
def Composer.accepted (c : Composer) (k : EntryKind) : Composer :=
  { c with pendingMarks := [], ladder := ladderAfter c.ladder k.lines }

/-- What it leaves of the copy's record: a LINE counts in the job (R105). -/
def Intake.accepted (i : Intake) (k : EntryKind) : Intake :=
  { i with job.linesSet := k.lines.foldl (fun n _ => nextCount n) i.job.linesSet }

theorem State.lineAccepted_reaches (s : State) (l : LineEntry) :
    Reaches [l] s (s.lineAccepted l) { s.composer with ladder := ladderAfter s.composer.ladder [l] }
      (s.intake.accepted (.line l)) s.queue ∧ StatusStands s (s.lineAccepted l) := by
  have hrefresh := (Reaches.refl s).refreshInUse
  have hstands := s.refreshInUse_copyFrame.2
  obtain ⟨hage, hage'⟩ := s.refreshInUse.agePositions_reaches l
  rw [hrefresh.composer, hrefresh.intake, hrefresh.queue] at hage
  have hall := hrefresh.trans hage
  have hall' := hstands.trans hage'
  unfold State.lineAccepted
  dsimp only
  generalize s.refreshInUse.agePositions l = t at hall hall'
  have hlast : CopyFrame t (State.mark
      { t with
        intake.job.linesSet := nextCount t.intake.job.linesSet
        composer.ladder := if l.byHyphen then nextLadder t.composer.ladder else 0 } [7]) :=
    CopyFrame.of_frame rfl rfl rfl fun _ => rfl
  refine ⟨⟨hall.frame.copyFrame hlast, ?_, ?_, hall.queue⟩, hall'.trans hlast.2⟩
  · rw [← hall.composer]
    rfl
  · rw [← hall.intake]
    rfl

/-- An entry is accepted. -/
theorem State.acceptEntry_reaches (s : State) (k : EntryKind) :
    Reaches k.lines s (s.acceptEntry k) (s.composer.accepted k) (s.intake.accepted k) (s.queue ++ [s.entryFor k])
      ∧ StatusStands s (s.acceptEntry k) := by
  have hqueue := s.acceptEntry_queue k
  have hframe (q : List Entry) := CopyFrame.composer s { s.composer with pendingMarks := [] } s.intake.job q
  cases k with
  | line l =>
    obtain ⟨hline, hstands⟩ := State.lineAccepted_reaches
      { s with queue := s.queue ++ [s.entryFor (.line l)], composer.pendingMarks := [] } l
    exact ⟨⟨(hframe _).lineFrame hline.frame, hline.composer, hline.intake, hqueue⟩, (hframe _).2.trans hstands⟩
  | move | cut | jobEnd => exact ⟨⟨(hframe _).1, rfl, rfl, hqueue⟩, (hframe _).2⟩

/-! ### An entry offered (R105) -/

theorem State.offer_room {s : State} (h : s.queue.length < 6) (k : EntryKind) : s.offer k = s.acceptEntry k :=
  if_pos (decide_eq_true h)

theorem State.offer_full {s : State} (h : 6 ≤ s.queue.length) (k : EntryKind) : s.offer k =
    State.setComposer { s with composer.held := some (.entry k) } .queueWait :=
  if_neg (by rw [State.queueRoom, decide_eq_true_iff, queueLimit]; omega)

/-- With no room the entry is held in QUEUE WAIT. -/
theorem State.offer_full_reaches {s : State} (h : 6 ≤ s.queue.length) (k : EntryKind) :
    Reaches [] s (s.offer k) { s.composer with held := some (.entry k), state := .queueWait } s.intake s.queue
      ∧ StatusStands s (s.offer k) := by
  have hframe := CopyFrame.composer s { s.composer with held := some (.entry k) } s.intake.job s.queue
  have hset := (Reaches.refl { s with composer.held := some (.entry k) }).setComposer .queueWait
  rw [State.offer_full h]
  exact ⟨⟨hframe.lineFrame hset.frame, hset.composer, hset.intake, hset.queue⟩,
    hframe.2.trans (State.setComposer_copyFrame _ _).2⟩

/-! ### What QUEUE WAIT holds goes on (R99, R105, R106) -/

/-- The held entry is accepted, and no work is in hand. -/
theorem State.acceptHeld_reaches {s : State} (htodo : s.composer.todo = []) (k : EntryKind) :
    Reaches k.lines s (s.acceptHeld k) { s.composer.accepted k with held := none, state := s.baseState }
      (s.intake.accepted k) (s.queue ++ [s.entryFor k])
      ∧ StatusStands s (s.acceptHeld k) ∧ InUseUpToDate (s.acceptHeld k) := by
  have hframe := CopyFrame.composer s { s.composer with held := none } s.intake.job s.queue
  obtain ⟨haccept, hstands⟩ := State.acceptEntry_reaches { s with composer.held := none } k
  have hset := haccept.setComposer s.baseState
  have hstands' := hframe.2.trans (hstands.trans (State.setComposer_copyFrame _ s.baseState).2)
  unfold State.acceptHeld
  generalize State.setComposer (State.acceptEntry { s with composer.held := none } k) s.baseState = t at hset hstands'
  rw [(State.Works.refl t).runTasks_of_nil (Nat.zero_le _) (by rw [hset.composer]; exact htodo)]
  have hrefresh := hset.refreshInUse
  exact ⟨⟨hframe.lineFrame hrefresh.frame, hrefresh.composer, hrefresh.intake, hrefresh.queue⟩,
    hstands'.trans t.refreshInUse_copyFrame.2, t.refreshInUse_upToDate⟩

theorem State.onHeldEntry_eq {s : State} {k : EntryKind} (hheld : s.composer.held = some (.entry k))
    (hroom : s.queue.length < 6) : s.onHeldEntry = some (s.acceptHeld k) := by
  unfold State.onHeldEntry
  rw [hheld]
  exact if_pos (decide_eq_true hroom)

/-- A MARK held outside a job is posted. -/
theorem State.onHeldMark_eq {s : State} {v : Word} (hheld : s.composer.held = some (.mark v))
    (hlast : ∀ e, s.queue.getLast? = some e → e.photo = .exposed) :
    s.onHeldMark = some (((({ s with composer.held := none } : State).postMark v).setComposer s.baseState)) := by
  have hexposed : s.lastExposed = true := by
    unfold State.lastExposed
    cases h : s.queue.getLast? with
    | none => rfl
    | some e => simp [hlast e h]
  unfold State.onHeldMark
  rw [hheld]
  exact if_pos hexposed

theorem State.setComposer_changed {s : State} {x : ComposerState} (h : s.composer.state ≠ x) :
    s.setComposer x = State.mark { s with composer.state := x } [5] :=
  if_pos (by simpa using h)

/-- Settles O46: the acceptance of a held entry, and the posting of a held mark. -/
theorem heldWorkGoesOn : Obligations.HeldWorkGoesOn := by
  refine ⟨fun s k hq hheld hroom htodo lines hlines => ?_, fun s v hq hheld hstate hjob hlast => ?_⟩
  · obtain ⟨hreach, hstands, huse⟩ := s.acceptHeld_reaches htodo k
    have hexec : exec .heldEntryAccepted s = s.answer s.onHeldEntry := rfl
    obtain rfl : k.lines = lines := by
      rcases hlines with ⟨l, rfl, rfl⟩ | ⟨hother, rfl⟩
      · rfl
      · cases k with
        | line l => exact absurd rfl (hother l)
        | _ => rfl
    refine ⟨s.acceptHeld k, ?_, hreach.frame, hstands, huse, hreach.queue, hreach.composer, hreach.intake.trans ?_⟩
    · rw [hexec, State.onHeldEntry_eq hheld hroom]
      exact State.answer_endsIn rfl (quiet_of_inner (by simp) hq)
    · cases k <;> rfl
  · have hexec : exec .markWaitEnd s = s.answer s.onHeldMark := rfl
    have hbase : s.baseState = .outsideJob := if_neg (by simp [hjob])
    rw [hexec, State.onHeldMark_eq hheld hlast, hbase]
    refine State.answer_endsIn (congrArg some (State.setComposer_changed ?_)) (quiet_of_inner (by simp) hq)
    obtain ⟨marks, flags, hpost⟩ := State.postMark_eq { s with composer.held := none } v
    rw [hpost]
    dsimp only
    rw [hstate]
    decide

end Sys2Proof.Machine
end

section
/-! PROOFS. The Composer's work, each piece by where it gets to; and the film commands, which end a line without items
and queue an entry (R11, R97, R105). -/

namespace Sys2Proof.Machine

/-! ### Where pieces of work get to -/

/-- `n` pieces of the Composer's work get from `s` to `t`, and the status record stands but for the marks. -/
structure Does (n : Nat) (lines : List LineEntry) (s t : State) (c : Composer) (i : Intake) (q : List Entry) : Prop
    extends Reaches lines s t c i q where
  works : State.Works n s t
  stands : StatusStands s t

namespace Does

variable {m n : Nat} {lines more : List LineEntry} {s t u : State} {c d : Composer} {i j : Intake} {q r : List Entry}

theorem trans (h : Does m lines s t c i q) (h' : Does n more t u d j r) : Does (m + n) (lines ++ more) s u d j r :=
  ⟨h.toReaches.trans h'.toReaches, h.works.trans h'.works, h.stands.trans h'.stands⟩

theorem refl (s : State) : Does 0 [] s s s.composer s.intake s.queue := ⟨.refl s, .refl s, .refl s⟩

/-- One piece of work. -/
theorem step {x : Task} {rest : List Task} (hwaits : s.composerWaits = false) (htodo : s.composer.todo = x :: rest)
    (h : ({ s with composer.todo := rest } : State).doTask x = t)
    (hreach : Reaches lines ({ s with composer.todo := rest } : State) t c i q)
    (hstands : StatusStands ({ s with composer.todo := rest } : State) t) : Does 1 lines s t c i q := by
  have hframe : CopyFrame s ({ s with composer.todo := rest } : State) := CopyFrame.composer s _ _ _
  exact ⟨⟨hframe.lineFrame hreach.frame, hreach.composer, hreach.intake, hreach.queue⟩, .step hwaits htodo h,
    hframe.2.trans hstands⟩

end Does

/-- The Composer's work ends: nothing is left of it, or the Composer waits in QUEUE WAIT. -/
theorem Reaches.runTasks {n : Nat} {lines : List LineEntry} {s t : State} {c : Composer} {i : Intake} {q : List Entry}
    (h : Reaches lines s t c i q) (hworks : State.Works n s t) (hn : n ≤ 64)
    (hend : c.todo = [] ∨ c.state = .queueWait) :
    Reaches lines s s.runTasks c i q ∧ InUseUpToDate s.runTasks ∧ StatusStands t s.runTasks := by
  have hrun : s.runTasks = t.refreshInUse := by
    rcases hend with hnil | hwait
    · exact hworks.runTasks_of_nil hn (by rw [h.composer]; exact hnil)
    · exact hworks.runTasks_of_waits hn (State.composerWaits_queueWait (by rw [h.composer]; exact hwait))
  rw [hrun]
  exact ⟨h.refreshInUse, t.refreshInUse_upToDate, t.refreshInUse_copyFrame.2⟩

/-- A step of the copy goes from `s` to `t`: it gets there, the status record stands but for the marks, and every in-use
count is brought up to date. -/
structure Goes (lines : List LineEntry) (s t : State) (c : Composer) (i : Intake) (q : List Entry) : Prop
    extends Reaches lines s t c i q where
  stands : StatusStands s t
  inUse : InUseUpToDate t

theorem Goes.after {lines : List LineEntry} {s t u : State} {c : Composer} {i : Intake} {q : List Entry}
    (hframe : CopyFrame s t) (h : Goes lines t u c i q) : Goes lines s u c i q :=
  { h with frame := hframe.lineFrame h.frame, stands := hframe.2.trans h.stands }

theorem Does.runTasks {n : Nat} {lines : List LineEntry} {s t : State} {c : Composer} {i : Intake} {q : List Entry}
    (h : Does n lines s t c i q) (hn : n ≤ 64) (hend : c.todo = [] ∨ c.state = .queueWait) :
    Goes lines s s.runTasks c i q := by
  obtain ⟨hreach, huse, hstands⟩ := h.toReaches.runTasks h.works hn hend
  exact { hreach with stands := h.stands.trans hstands, inUse := huse }

/-- The Composer, with nothing in hand, is given the tasks `l`. -/
abbrev State.given (s : State) (l : List Task) : State := { s with composer.todo := l }

theorem State.given_copyFrame (s : State) (l : List Task) : CopyFrame s (s.given l) := CopyFrame.composer s _ _ _

theorem State.work_eq {s : State} (htodo : s.composer.todo = []) (l : List Task) : s.work l = (s.given l).runTasks := by
  unfold State.work State.push
  rw [htodo, List.append_nil]

/-- Work given to a Composer with nothing in hand is done to its end. -/
theorem Does.work {n : Nat} {lines : List LineEntry} {s t : State} {l : List Task} {c : Composer} {i : Intake}
    {q : List Entry} (h : Does n lines (s.given l) t c i q) (htodo : s.composer.todo = []) (hn : n ≤ 64)
    (hend : c.todo = [] ∨ c.state = .queueWait) : Goes lines s (s.work l) c i q := by
  rw [State.work_eq htodo]
  exact (h.runTasks hn hend).after (s.given_copyFrame l)

/-! ### The pieces -/

section
variable {s : State} {rest : List Task}

/-- An entry is offered to a queue with room. -/
theorem State.does_offer {k : EntryKind} (hwaits : s.composerWaits = false) (htodo : s.composer.todo = .offer k :: rest)
    (hroom : s.queue.length < 6) :
    ∃ t, Does 1 k.lines s t { s.composer.accepted k with todo := rest } (s.intake.accepted k)
      (s.queue ++ [s.entryFor k]) := by
  obtain ⟨hreach, hstands⟩ := State.acceptEntry_reaches { s with composer.todo := rest } k
  have hoffer := State.offer_room (s := { s with composer.todo := rest }) hroom k
  generalize State.acceptEntry { s with composer.todo := rest } k = t at hreach hstands hoffer
  exact ⟨t, Does.step hwaits htodo hoffer ⟨hreach.frame, hreach.composer, hreach.intake, hreach.queue⟩ hstands⟩

/-- An entry is offered to a full queue. -/
theorem State.does_offer_full {k : EntryKind} (hwaits : s.composerWaits = false)
    (htodo : s.composer.todo = .offer k :: rest) (hfull : 6 ≤ s.queue.length) :
    ∃ t, Does 1 [] s t { s.composer with todo := rest, held := some (.entry k), state := .queueWait } s.intake s.queue := by
  obtain ⟨hreach, hstands⟩ := State.offer_full_reaches (s := { s with composer.todo := rest }) hfull k
  exact ⟨_, Does.step hwaits htodo rfl hreach hstands⟩

/-- The Composer after a line is ended (R11). -/
def Composer.ended (c : Composer) (todo : List Task) : Composer :=
  { c with line := Line.empty, noFont := false, word := WordRun.none, todo := todo }

/-- A line without items, but for interword spaces, ends without an entry (R11). -/
theorem State.does_endLine_nil {a : Align} (hwaits : s.composerWaits = false)
    (htodo : s.composer.todo = .endLine a false :: rest) (hitems : stripSpaces s.composer.line.items = []) :
    ∃ t, Does 1 [] s t (s.composer.ended rest) s.intake s.queue := by
  have hframe := CopyFrame.composer { s with composer.todo := rest } (s.composer.ended rest) s.intake.job s.queue
  refine ⟨_, Does.step hwaits htodo ?_ ⟨hframe.1, rfl, rfl, rfl⟩ hframe.2⟩
  show State.endLine _ _ _ = _
  unfold State.endLine
  dsimp only
  rw [hitems]
  rfl

/-- A line with items ends with an entry; so does any line when `always` says so (R11, R20). -/
theorem State.does_endLine {a : Align} {always : Bool} (hwaits : s.composerWaits = false)
    (htodo : s.composer.todo = .endLine a always :: rest)
    (h : always = true ∨ stripSpaces s.composer.line.items ≠ []) :
    ∃ t, Does 1 [] s t
      (s.composer.ended (.offer (.line (s.endedLine s.composer.line (nextCount s.intake.job.linesSet) a)) :: rest))
      s.intake s.queue := by
  have hframe := CopyFrame.composer { s with composer.todo := rest } (s.composer.ended
    (.offer (.line (s.endedLine s.composer.line (nextCount s.intake.job.linesSet) a)) :: rest)) s.intake.job s.queue
  refine ⟨_, Does.step hwaits htodo ?_ ⟨hframe.1, rfl, rfl, rfl⟩ hframe.2⟩
  show State.endLine _ _ _ = _
  unfold State.endLine State.endedLine
  dsimp only
  by_cases hitems : stripSpaces s.composer.line.items = []
  · rw [if_pos (List.isEmpty_iff.2 hitems), if_pos hitems, if_pos (h.resolve_right (not_not.2 hitems))]
    rfl
  · rw [if_neg (mt List.isEmpty_iff.1 hitems), if_neg hitems]
    rfl

end

/-! ### ADVANCE, REVERSE and CUT (R97) -/

theorem stripSpaces_nil : stripSpaces [] = [] := rfl

/-- An entry made further on takes the marks pending there; the job and the proof mode are as they were. -/
theorem Reaches.entryFor {lines : List LineEntry} {s t : State} {c : Composer} {i : Intake} {q : List Entry}
    (h : Reaches lines s t c i q) (hprogress : i.job.inProgress = s.intake.job.inProgress)
    (hnumber : i.job.number = s.intake.job.number) (hserial : i.job.serial = s.intake.job.serial) (k : EntryKind) :
    t.entryFor k = { s.entryFor k with marks := c.pendingMarks } := by
  have hproof : t.proof = s.proof := by
    obtain ⟨-, -, -, -, -, -, -, -, -, -, hproof, -⟩ := h.frame
    exact hproof
  unfold State.entryFor
  rw [h.intake, h.composer, hproof, hprogress, hnumber, hserial]

theorem State.composerWaits_congr {s t : State} (h : t.composer.state = s.composer.state) :
    t.composerWaits = s.composerWaits := by
  unfold State.composerWaits
  rw [h]

/-- A line without items is ended, and an entry that is no LINE is queued. -/
theorem State.filmWork_goes {s : State} {k : EntryKind} (hwaits : s.composerWaits = false) (htodo : s.composer.todo = [])
    (hitems : s.composer.line.items = []) (hroom : s.queue.length < 6) (hk : k.lines = []) :
    Goes [] s (s.work [.endLine .left false, .offer k]) ((s.composer.ended []).accepted k) (s.intake.accepted k)
      (s.queue ++ [s.entryFor k]) := by
  obtain ⟨t, hend⟩ := State.does_endLine_nil (s := s.given [.endLine .left false, .offer k]) (a := .left)
    (rest := [.offer k]) hwaits rfl (by rw [hitems]; rfl)
  have hentry := hend.toReaches.entryFor rfl rfl rfl k
  obtain ⟨u, hoffer⟩ := State.does_offer (s := t) (k := k) (rest := [])
    ((State.composerWaits_congr (by rw [hend.composer]; rfl)).trans hwaits) (by rw [hend.composer]; rfl)
    (by rw [hend.queue]; exact hroom)
  rw [hend.composer, hend.intake, hend.queue, hentry, hk] at hoffer
  exact (hend.trans hoffer).work htodo (by omega) (.inl rfl)

theorem State.endingWord_working {s : State} (h : s.composer.state ≠ .lookahead) (l : List Task) : s.endingWord l = l :=
  if_neg h

/-- ADVANCE and REVERSE (R97). -/
theorem State.moveEffect_zero {t : State} {d : Command} (h : d.operand.toNat = 0) (sign : Int) :
    t.moveEffect d sign = t.badOperand d := if_pos h

theorem State.clamping_eq (t : State) (v : Nat) : (if moveLimit < v then t.flagClamped else t) =
    { t with intake.job.flags.clamped := t.intake.job.flags.clamped || (t.intake.job.inProgress && decide (14400 < v)) } := by
  rw [moveLimit]
  by_cases h : 14400 < v
  · rw [if_pos h, State.flagClamped_eq, decide_eq_true h, Bool.and_true, Bool.or_comm]
  · rw [if_neg h, decide_eq_false h, Bool.and_false, Bool.or_false]

/-- The work of the three commands, with the clamp `b` of the operand. -/
def State.filmTasks (t : State) (b : Bool) (k : EntryKind) : State :=
  State.work { t with intake.job.flags.clamped := t.intake.job.flags.clamped || (t.intake.job.inProgress && b) }
    [.endLine .left false, .offer k]

theorem State.moveEffect_eq {t : State} {d : Command} {v : Nat} (hv : v = d.operand.toNat) (sign : Int)
    (hstate : t.composer.state ≠ .lookahead) :
    t.moveEffect d sign = if v = 0 then t.copyError .badOperand d.offset
      else t.filmTasks (decide (14400 < v)) (.move (sign * (min 14400 v : Nat))) := by
  subst hv
  by_cases h : d.operand.toNat = 0
  · rw [if_pos h]
    exact State.moveEffect_zero h sign
  · rw [if_neg h]
    unfold State.moveEffect
    dsimp only
    rw [if_neg h, State.clamping_eq]
    unfold State.endingWord State.filmTasks
    dsimp only
    rw [if_neg hstate]
    rfl

theorem State.cutEffect_eq {t : State} (hstate : t.composer.state ≠ .lookahead) (b : Bool) (hb : b = false) :
    t.cutEffect = t.filmTasks b .cut := by
  unfold State.cutEffect State.filmTasks
  rw [State.endingWord_working hstate, hb, Bool.and_false, Bool.or_false]

theorem State.decoded_job (s : State) (w : Word) : ∃ sum, (s.decoded w).intake.job = { s.intake.job with sum := sum } := by
  obtain ⟨_, _, _, sum, h⟩ := State.consume_intake s w
  exact ⟨sum, by rw [State.decoded_eq, State.undecoded_job, h]⟩

/-- The word that completes a command is consumed: the Composer and the queue stand. -/
theorem State.decoded_reaches (s : State) (w : Word) :
    Reaches [] s (s.decoded w) s.composer (s.decoded w).intake s.queue :=
  ⟨(s.decoded_copyFrame w).1, s.decoded_composer w, rfl, s.decoded_queue w⟩

theorem State.decoded_entryFor (s : State) (w : Word) (k : EntryKind) : (s.decoded w).entryFor k = s.entryFor k := by
  obtain ⟨sum, hjob⟩ := s.decoded_job w
  refine (s.decoded_reaches w).entryFor ?_ ?_ ?_ k <;> rw [hjob]

theorem Intake.accepted_of_no_lines {k : EntryKind} (h : k.lines = []) (i : Intake) : i.accepted k = i := by
  unfold Intake.accepted
  rw [h]
  rfl

theorem State.filmTasks_goes {t : State} {k : EntryKind} (hwaits : t.composerWaits = false) (htodo : t.composer.todo = [])
    (hitems : t.composer.line.items = []) (hroom : t.queue.length < 6) (hk : k.lines = []) (b : Bool) :
    Goes [] t (t.filmTasks b k) ((t.composer.ended []).accepted k)
      { t.intake with job.flags.clamped := t.intake.job.flags.clamped || (t.intake.job.inProgress && b) }
      (t.queue ++ [t.entryFor k]) := by
  have hclamp := CopyFrame.composer t t.composer { t.intake.job with
    flags.clamped := t.intake.job.flags.clamped || (t.intake.job.inProgress && b) } t.queue
  have hgoes := State.filmWork_goes (s := { t with
    intake.job.flags.clamped := t.intake.job.flags.clamped || (t.intake.job.inProgress && b) }) hwaits htodo hitems hroom hk
  rw [Intake.accepted_of_no_lines hk] at hgoes
  exact hgoes.after hclamp

/-- What the consumption of the word that completes a command leaves as it was. -/
structure SameCopy (s t : State) : Prop where
  frame : CopyFrame s t
  composer : t.composer = s.composer
  queue : t.queue = s.queue
  entryFor : ∀ k, t.entryFor k = s.entryFor k
  flags : t.intake.job.flags = s.intake.job.flags
  inProgress : t.intake.job.inProgress = s.intake.job.inProgress
  number : t.intake.job.number = s.intake.job.number
  serial : t.intake.job.serial = s.intake.job.serial
  linesSet : t.intake.job.linesSet = s.intake.job.linesSet

theorem State.decoded_sameCopy (s : State) (w : Word) : SameCopy s (s.decoded w) := by
  obtain ⟨sum, hjob⟩ := s.decoded_job w
  exact ⟨s.decoded_copyFrame w, s.decoded_composer w, s.decoded_queue w, s.decoded_entryFor w, s.decoded_flags w,
    s.decoded_inProgress w, (congrArg JobState.number hjob :), (congrArg JobState.serial hjob :),
    (congrArg JobState.linesSet hjob :)⟩

theorem SameCopy.filmTasks_goes {s t : State} (h : SameCopy s t) {k : EntryKind} (hwaits : s.composerWaits = false)
    (htodo : s.composer.todo = []) (hitems : s.composer.line.items = []) (hroom : s.queue.length < 6) (hk : k.lines = [])
    (b : Bool) :
    Goes [] s (t.filmTasks b k) ((s.composer.ended []).accepted k)
      { t.intake with job.flags.clamped := s.intake.job.flags.clamped || (s.intake.job.inProgress && b) }
      (s.queue ++ [s.entryFor k]) := by
  have hcomposer := h.composer
  have hgoes := State.filmTasks_goes (t := t) ((State.composerWaits_congr (congrArg Composer.state hcomposer)).trans hwaits)
    (by rw [hcomposer]; exact htodo) (by rw [hcomposer]; exact hitems) (by rw [h.queue]; exact hroom) hk b
  rw [hcomposer, h.queue, h.entryFor, h.flags, h.inProgress] at hgoes
  exact hgoes.after h.frame

/-- Each of the three commands ends in that work, or refuses an operand of 0. -/
theorem State.filmCommand_endsIn {s : State} {w : Word} {v : Nat} {k : EntryKind} {c : Instr}
    (hstate : s.composer.state = .outsideJob ∨ s.composer.state = .setting)
    (hcase : (CommandNext s .advance w ∧ c = .advance ∧ v = (s.completedBy w).operand.toNat ∧ k = .move (min 14400 v : Nat))
      ∨ (CommandNext s .reverse w ∧ c = .reverse ∧ v = (s.completedBy w).operand.toNat
        ∧ k = .move (-(min 14400 v : Nat)))
      ∨ (CommandNext s .cut w ∧ c = .cut ∧ v = 1 ∧ k = .cut)) :
    k.lines = [] ∧ EndsIn (exec c s) (if v = 0 then (s.decoded w).copyError .badOperand (s.completedBy w).offset
      else (s.decoded w).filmTasks (decide (14400 < v)) k) := by
  have hdiscarding : s.composer.state ≠ .discarding := by rcases hstate with h | h <;> rw [h] <;> decide
  have hlookahead : (s.decoded w).composer.state ≠ .lookahead := by
    rw [s.decoded_composer]
    rcases hstate with h | h <;> rw [h] <;> decide
  rcases hcase with ⟨hnext, rfl, hv, rfl⟩ | ⟨hnext, rfl, hv, rfl⟩ | ⟨hnext, rfl, rfl, rfl⟩
  · refine ⟨rfl, State.standing_endsIn (f := fun d t => t.moveEffect d 1) hnext hdiscarding (fun _ _ => by simp) ?_⟩
    exact (State.moveEffect_eq hv 1 hlookahead).trans (by rw [Int.one_mul])
  · refine ⟨rfl, State.standing_endsIn (f := fun d t => t.moveEffect d (-1)) hnext hdiscarding (fun _ _ => by simp) ?_⟩
    exact (State.moveEffect_eq hv (-1) hlookahead).trans (by rw [Int.neg_mul, Int.one_mul])
  · refine ⟨rfl, State.standing_endsIn (f := fun _ t => t.cutEffect) hnext hdiscarding (fun _ _ => by simp) ?_⟩
    exact (State.cutEffect_eq hlookahead _ (by simp)).trans (if_neg (by omega)).symm

/-- Settles O44: the three commands give the Composer the same two pieces of work. -/
theorem filmCommandsQueueEntries : Obligations.FilmCommandsQueueEntries := by
  intro s w v k c hstate htodo hcase
  obtain ⟨hk, hends⟩ := State.filmCommand_endsIn hstate hcase
  refine ⟨fun hzero => ?_, fun hsome hitems hroom => ?_⟩
  · rwa [if_pos hzero] at hends
  · rw [if_neg hsome] at hends
    have hwaits : s.composerWaits = false := State.composerWaits_false (by rcases hstate with h | h <;> simp [h])
    have hgoes := (s.decoded_sameCopy w).filmTasks_goes hwaits htodo hitems hroom hk (decide (14400 < v))
    refine ⟨_, hends, ⟨hgoes.frame, hgoes.stands⟩, hgoes.queue, ?_, ?_, ?_, hgoes.intake⟩
    · rw [hgoes.composer]
      rfl
    · rw [hgoes.composer]
      rfl
    · rw [hgoes.composer]
      rfl

end Sys2Proof.Machine
end

section
/-! PROOFS. The break choice: the break space, the hyphen point, and the cut of an OVERSET line (R28 to R32, R35). -/

namespace Sys2Proof.Machine

/-! ### The word at the end of the line and the break-space candidate (R22, R28) -/

section
variable {l before word head rest : List Item} {x : Item} {again : Bool}

theorem EndWord.letterRun_eq (h : EndWord l before word) : letterRun l = word.length := by
  obtain ⟨-, rfl⟩ := h.unique (endWord_letterRun l)
  have hle : letterRun l ≤ l.length := by
    unfold letterRun
    exact (List.takeWhile_sublist _).length_le.trans_eq List.length_reverse
  rw [List.length_drop]
  omega

/-- The number of items among which the break space is looked for. -/
def breakLimit (again : Bool) (before word : List Item) : Nat :=
  before.length - (if again = true ∧ word = [] then 1 else 0)

theorem EndWord.breakLimit_eq (h : EndWord l before word) (again : Bool) :
    (if 0 < letterRun l then l.length - letterRun l else if again then l.length - 1 else l.length) =
      breakLimit again before word := by
  have hlength : l.length = before.length + word.length := by rw [h.1, List.length_append]
  rw [h.letterRun_eq, breakLimit]
  cases word with
  | nil => cases again <;> simp [hlength]
  | cons y word => simp [hlength]

theorem candidateAt_iff {l : List Item} {i : Nat} (h : l[i]? = some x) :
    candidateAt l i = true ↔ x.isSpace = true ∨ (x.isHyphen = true ∧ i ≠ 0) := by
  simp [candidateAt, h]

/-- An item that is no candidate is no space and no hyphen, but for a hyphen at the head of the line. -/
theorem candidateAt_eq_false {l : List Item} {i : Nat} (h : l[i]? = some x) (hi : i ≠ 0) :
    candidateAt l i = false ↔ x.isSpace = false ∧ x.isHyphen = false := by
  simp [candidateAt, h, hi]

/-- A break space is the last candidate within the limit. -/
theorem BreakSpace.lastCandidate (h : EndWord l before word) (hspace : BreakSpace again before word head x rest) :
    lastCandidate (breakLimit again before word) l = some head.length ∧ l[head.length]? = some x
      ∧ head = l.take head.length ∧ rest = l.drop (head.length + 1) := by
  obtain ⟨tail, last, hbefore, hrest, hlast, hx, htail⟩ := hspace
  have hl : l = head ++ x :: rest := by
    rw [h.1, hbefore, hrest]
    simp
  have hget : l[head.length]? = some x := by
    rw [hl]
    simp
  have hlimit : breakLimit again before word = head.length + 1 + tail.length := by
    rw [breakLimit, hbefore, ← hlast]
    simp only [List.length_append, List.length_cons]
    omega
  refine ⟨(lastCandidate_eq_some _ _ _).2 ⟨by omega, (candidateAt_iff hget).2 (hx.imp_right fun ⟨hhyphen, hhead⟩ =>
    ⟨hhyphen, fun hnil => hhead (List.eq_nil_of_length_eq_zero hnil)⟩), fun j hj hj' => ?_⟩, hget, ?_, ?_⟩
  · have hy : l[j]? = tail[j - (head.length + 1)]? := by
      rw [hl, hrest, List.getElem?_append_right (by omega),
        show j - head.length = (j - (head.length + 1)) + 1 by omega, List.getElem?_cons_succ, List.append_assoc,
        List.getElem?_append_left (by omega)]
    have hlt : j - (head.length + 1) < tail.length := by omega
    rw [List.getElem?_eq_getElem hlt] at hy
    exact (candidateAt_eq_false hy (by omega)).2 (htail _ (List.getElem_mem hlt))
  · rw [hl]
    simp
  · rw [hl]
    simp

/-- The last candidate within the limit is a break space. -/
theorem breakSpace_of_lastCandidate (h : EndWord l before word) {i : Nat}
    (hi : lastCandidate (breakLimit again before word) l = some i) :
    ∃ head x rest, BreakSpace again before word head x rest := by
  obtain ⟨hlt, hcandidate, hafter⟩ := (lastCandidate_eq_some _ _ _).1 hi
  have hlimit : breakLimit again before word ≤ before.length := Nat.sub_le _ _
  obtain ⟨short, last, hbefore, hshort⟩ :
      ∃ short last, before = short ++ last ∧ short.length = breakLimit again before word :=
    ⟨before.take (breakLimit again before word), before.drop (breakLimit again before word), (List.take_append_drop _ _).symm, by rw [List.length_take]; omega⟩
  obtain ⟨head, x, tail, hsplit, hhead⟩ : ∃ head x tail, short = head ++ x :: tail ∧ head.length = i :=
    ⟨short.take i, short[i], short.drop (i + 1), by simp, by rw [List.length_take]; omega⟩
  have hl : l = head ++ x :: (tail ++ last ++ word) := by
    rw [h.1, hbefore, hsplit]
    simp
  have hget : l[i]? = some x := by
    rw [hl, ← hhead]
    simp
  refine ⟨head, x, tail ++ last ++ word, tail, last, by rw [hbefore, hsplit], rfl, ?_, ?_, fun y hy => ?_⟩
  · have hlength := congrArg List.length hbefore
    rw [List.length_append, hshort] at hlength
    unfold breakLimit at hlength hlt
    omega
  · refine ((candidateAt_iff hget).1 hcandidate).imp_right fun ⟨hhyphen, hzero⟩ => ⟨hhyphen, fun hnil => hzero ?_⟩
    rw [← hhead, hnil]
    rfl
  · obtain ⟨j, hj, rfl⟩ := List.getElem_of_mem hy
    have hjget : l[i + 1 + j]? = some tail[j] := by
      rw [hl, List.getElem?_append_right (by omega), show i + 1 + j - head.length = j + 1 by omega,
        List.getElem?_cons_succ, List.append_assoc, List.getElem?_append_left hj, List.getElem?_eq_getElem hj]
    have hbound := congrArg List.length hsplit
    rw [List.length_append, List.length_cons] at hbound
    exact (candidateAt_eq_false hjget (by omega)).1 (hafter _ (by omega) (by omega))

/-- The break at S ends the line before a space or after a hyphen. -/
theorem BreakSpace.divideAt (h : EndWord l before word) (hspace : BreakSpace again before word head x rest) :
    Machine.divideAt l head.length = { ended := endedAt head x, carried := rest } := by
  obtain ⟨-, hget, hhead, hrest⟩ := hspace.lastCandidate h
  unfold Machine.divideAt endedAt
  rw [hget, Option.any_some, ← hrest, ← hhead, List.take_add_one, ← hhead, hget]
  split <;> rfl

theorem fitsSpaces_iff (measure : Nat) (items : List Item) : fitsSpaces measure items = true ↔ ExtraFits measure items := by
  unfold fitsSpaces ExtraFits extraOf measureFine Sums.stretch Sums.shrink Sums.natural
  simp only [Bool.and_eq_true, decide_eq_true_eq]
  omega

end

/-! ### The hyphen point (R30, R37) -/

/-- The hyphen glyph after an item (R30). -/
theorem State.hyphenAfter_eq_some {s : State} {i g : Item} : s.hyphenAfter i = some g ↔
    ∃ a, i.attr? = some a ∧ s.unitsOf a.pos 0x2D ≠ 0
      ∧ g = .char 0x2D
        { a with fontSub := a.fontSub || s.composer.fontSub, sizeSub := a.sizeSub || s.composer.sizeSub }
        (s.unitsOf a.pos 0x2D * a.size * 5) := by
  unfold State.hyphenAfter
  cases i.attr? with
  | none => simp
  | some a =>
    dsimp only
    by_cases hu : s.unitsOf a.pos 0x2D = 0
    · simp [hu]
    · simp [hu, State.glyphAttr, fine, eq_comm (a := g)]

/-- The glyph that point `p` of the word after `before` brings, when the line broken there can be set. -/
def State.GlyphAt (s : State) (l : Line) (start p : Nat) (g : Item) : Prop :=
  (∃ i, (l.items.take (start + p)).getLast? = some i ∧ s.hyphenAfter i = some g)
    ∧ start + p + 1 ≤ 160 ∧ (sumsOf (l.items.take (start + p) ++ [g])).minWidth ≤ l.measure * 32

theorem State.hyphenAt_iff {s : State} {l : Line} {start p : Nat} {d : Division} : s.hyphenAt l start p = some d ↔
    ∃ g, s.GlyphAt l start p g
      ∧ d = { ended := l.items.take (start + p) ++ [g], carried := l.items.drop (start + p) } := by
  unfold State.hyphenAt State.GlyphAt
  dsimp only
  cases hlast : (l.items.take (start + p)).getLast? with
  | none => simp
  | some i =>
    rw [Option.bind_some]
    cases hglyph : s.hyphenAfter i with
    | none => simp [hglyph]
    | some g =>
      simp only [Option.ite_none_right_eq_some, Option.some.injEq, Bool.and_eq_true, exists_eq_left']
      constructor
      · rintro ⟨hfits, rfl⟩
        exact ⟨g, ⟨hglyph, hfits.imp of_decide_eq_true of_decide_eq_true⟩, rfl⟩
      · rintro ⟨g', ⟨hg, hfits⟩, rfl⟩
        obtain rfl : g = g' := Option.some.inj (hglyph.symm.trans hg)
        exact ⟨hfits.imp decide_eq_true decide_eq_true, rfl⟩

theorem State.hyphenAt_eq_none {s : State} {l : Line} {start p : Nat} : s.hyphenAt l start p = none ↔
    ∀ g, ¬ s.GlyphAt l start p g := by
  refine Option.eq_none_iff_forall_ne_some.trans ?_
  exact ⟨fun h g hg => h _ (State.hyphenAt_iff.2 ⟨g, hg, rfl⟩), fun h d hd =>
    (State.hyphenAt_iff.1 hd).elim fun g hg => h g hg.1⟩

theorem State.ladderBars_eq_false (s : State) :
    s.ladderBars = false ↔ s.hyph.ladderLimit = 0 ∨ s.composer.ladder < s.hyph.ladderLimit := by
  simp [State.ladderBars]
  omega

/-- What R30 asks of the word before a point of it is looked at. -/
def State.Hyphenable (s : State) (word : List Item) : Prop :=
  s.hyph.on = true ∧ (s.hyph.ladderLimit = 0 ∨ s.composer.ladder < s.hyph.ladderLimit) ∧ 2 ≤ word.length
    ∧ word.length < 25 ∧ s.composer.word.ineligible = false

section
variable {s : State} {before word : List Item}

theorem State.usablePoint_iff (h : EndWord s.composer.line.items before word) (p : Nat) (g : Item) :
    s.UsablePoint before word p g ↔ s.Hyphenable word
      ∧ p ∈ s.hyph.points (word.map Item.letter) s.composer.word.points
      ∧ s.GlyphAt s.composer.line before.length p g := by
  unfold State.UsablePoint State.Hyphenable State.GlyphAt
  simp only [State.hyphenAfter_eq_some, ← h.1]
  constructor
  · rintro ⟨h1, h2, h3, h4, h5, h6, ⟨i, a, h7, h8⟩, h9, h10⟩
    exact ⟨⟨h1, h2, h3, h4, h5⟩, h6, ⟨i, h7, a, h8⟩, h9, h10⟩
  · rintro ⟨⟨h1, h2, h3, h4, h5⟩, h6, ⟨i, h7, a, h8⟩, h9, h10⟩
    exact ⟨h1, h2, h3, h4, h5, h6, ⟨i, a, h7, h8⟩, h9, h10⟩

theorem State.hyphenBreak_eq (h : EndWord s.composer.line.items before word) [Decidable (s.Hyphenable word)] :
    s.hyphenBreak s.composer.line (letterRun s.composer.line.items) =
      if s.Hyphenable word then
        (s.hyph.points (word.map Item.letter) s.composer.word.points).reverse.findSome?
          (s.hyphenAt s.composer.line before.length)
      else none := by
  have hlength : s.composer.line.items.length = before.length + word.length := by rw [h.1, List.length_append]
  have hword : s.composer.line.items.drop before.length = word := by rw [h.1, List.drop_left]
  have hcond : (s.hyph.on && !s.ladderBars && 2 ≤ word.length && word.length < 25 && !s.composer.word.ineligible) = true
      ↔ s.Hyphenable word := by
    simp [State.Hyphenable, ← State.ladderBars_eq_false, and_assoc]
  unfold State.hyphenBreak
  dsimp only
  rw [h.letterRun_eq, if_congr hcond rfl rfl, hlength, Nat.add_sub_cancel, hword, List.findSome?_map]
  rfl

/-- A search from the end of an increasing list finds the greatest value at which `f` answers. -/
theorem findSome?_reverse_eq_some {α : Type} {f : Nat → Option α} {d : α} {l : List Nat} (hl : l.Pairwise (· < ·)) :
    l.reverse.findSome? f = some d ↔ ∃ p ∈ l, f p = some d ∧ ∀ q ∈ l, p < q → f q = none := by
  induction l with
  | nil => simp
  | cons a l ih =>
    obtain ⟨ha, hl⟩ := List.pairwise_cons.1 hl
    rw [List.reverse_cons, List.findSome?_append]
    cases hfind : l.reverse.findSome? f with
    | some e =>
      rw [hfind] at ih
      rw [Option.some_or, ih hl]
      constructor
      · rintro ⟨p, hp, hd, hafter⟩
        refine ⟨p, List.mem_cons_of_mem _ hp, hd, fun q hq hlt => ?_⟩
        rcases List.mem_cons.1 hq with rfl | hq
        · exact absurd (ha p hp) (by omega)
        · exact hafter q hq hlt
      · rintro ⟨p, hp, hd, hafter⟩
        rcases List.mem_cons.1 hp with rfl | hp
        · obtain ⟨b, hb, hsome⟩ := List.exists_of_findSome?_eq_some hfind
          rw [hafter b (List.mem_cons_of_mem _ (by simpa using hb)) (ha b (by simpa using hb))] at hsome
          cases hsome
        · exact ⟨p, hp, hd, fun q hq => hafter q (List.mem_cons_of_mem _ hq)⟩
    | none =>
      have hnone : ∀ q ∈ l, f q = none := by simpa using hfind
      rw [Option.none_or, List.findSome?_singleton]
      constructor
      · intro hd
        refine ⟨a, List.mem_cons_self .., hd, fun q hq hlt => ?_⟩
        rcases List.mem_cons.1 hq with rfl | hq
        · exact absurd hlt (by omega)
        · exact hnone q hq
      · rintro ⟨p, hp, hd, -⟩
        rcases List.mem_cons.1 hp with rfl | hp
        · exact hd
        · rw [hnone p hp] at hd
          cases hd

/-- Choice 2 takes the latest usable point. -/
theorem State.hyphenBreak_eq_some_iff (h : EndWord s.composer.line.items before word) {d : Division} :
    s.hyphenBreak s.composer.line (letterRun s.composer.line.items) = some d ↔
      ∃ p g, s.UsablePoint before word p g ∧ (∀ q g', s.UsablePoint before word q g' → q ≤ p)
        ∧ d = { ended := s.composer.line.items.take (before.length + p) ++ [g],
                carried := s.composer.line.items.drop (before.length + p) } := by
  classical
  rw [State.hyphenBreak_eq h, Option.ite_none_right_eq_some, findSome?_reverse_eq_some (Hyphenator.points_pairwise _ _ _)]
  simp only [State.usablePoint_iff h, State.hyphenAt_iff, State.hyphenAt_eq_none]
  constructor
  · rintro ⟨hword, p, hp, ⟨g, hg, rfl⟩, hafter⟩
    exact ⟨p, g, ⟨hword, hp, hg⟩, fun q g' ⟨_, hq, hg'⟩ => not_lt.1 fun hlt => hafter q hq hlt g' hg', rfl⟩
  · rintro ⟨p, g, ⟨hword, hp, hg⟩, hlatest, rfl⟩
    exact ⟨hword, p, hp, ⟨g, hg, rfl⟩, fun q hq hlt g' hg' => absurd (hlatest q g' ⟨hword, hq, hg'⟩) (by omega)⟩

theorem State.hyphenBreak_eq_none_iff (h : EndWord s.composer.line.items before word) :
    s.hyphenBreak s.composer.line (letterRun s.composer.line.items) = none ↔ ∀ p g, ¬ s.UsablePoint before word p g := by
  classical
  rw [State.hyphenBreak_eq h]
  simp only [State.usablePoint_iff h]
  constructor
  · rintro hnone p g ⟨hword, hp, hg⟩
    rw [if_pos hword, List.findSome?_eq_none_iff] at hnone
    exact State.hyphenAt_eq_none.1 (hnone p (by simpa using hp)) g hg
  · intro hnone
    refine ite_eq_right_iff.2 fun hword => List.findSome?_eq_none_iff.2 fun p hp => ?_
    exact State.hyphenAt_eq_none.2 fun g hg => hnone p g ⟨hword, by simpa using hp, hg⟩

end

/-! ### The cut of an OVERSET line (R32) -/

theorem sumsFrom_natural (l : List Item) (s : Sums) (last : Option Item) :
    (sumsFrom s last l).natural = s.natural + (l.map Item.naturalWidth).sum := by
  induction l generalizing s last with
  | nil => rfl
  | cons i l ih =>
    have hadd : (s.add last i).natural = s.natural + i.naturalWidth := by
      cases i <;> simp only [Sums.add, Sums.natural, Item.naturalWidth] <;> omega
    rw [sumsFrom, ih, hadd, List.map_cons, List.sum_cons]
    omega

theorem sumsOf_natural (l : List Item) : (sumsOf l).natural = (l.map Item.naturalWidth).sum := by
  rw [sumsOf, sumsFrom_natural]
  exact Nat.zero_add _

/-- `n` items are the longest leading run of `l` that stays within `m` at natural width. -/
def LongestFit (m : Nat) (l : List Item) (n : Nat) : Prop :=
  n ≤ l.length ∧ (sumsOf (l.take n)).natural ≤ m ∧ ∀ k, n < k → k ≤ l.length → m < (sumsOf (l.take k)).natural

theorem fitCount_spec (m : Nat) (l : List Item) (w : Nat) (hw : w ≤ m) :
    fitCount m w l ≤ l.length ∧ w + ((l.take (fitCount m w l)).map Item.naturalWidth).sum ≤ m
      ∧ ∀ k, fitCount m w l < k → k ≤ l.length → m < w + ((l.take k).map Item.naturalWidth).sum := by
  induction l generalizing w with
  | nil => exact ⟨le_rfl, hw, fun k hk hk' => absurd hk (by simp at hk'; simp [hk', fitCount])⟩
  | cons i l ih =>
    unfold fitCount
    split
    next hfits =>
      obtain ⟨hle, hsum, hafter⟩ := ih _ hfits
      refine ⟨by simpa using hle, by simpa [Nat.add_assoc] using hsum, fun k hk hk' => ?_⟩
      obtain ⟨k, rfl⟩ := Nat.exists_eq_add_of_lt (Nat.zero_lt_of_lt hk)
      have := hafter k (by omega) (by simpa using hk')
      simpa [Nat.add_assoc] using this
    next hover =>
      refine ⟨Nat.zero_le _, by simpa using hw, fun k hk hk' => ?_⟩
      obtain ⟨k, rfl⟩ := Nat.exists_eq_add_of_lt hk
      simp only [Nat.zero_add, List.take_succ_cons, List.map_cons, List.sum_cons]
      omega

theorem longestFit_iff (m : Nat) (l : List Item) (n : Nat) : LongestFit m l n ↔ n = fitCount m 0 l := by
  have hspec : LongestFit m l (fitCount m 0 l) := by
    unfold LongestFit
    simpa [sumsOf_natural] using fitCount_spec m l 0 (Nat.zero_le m)
  constructor
  · rintro ⟨hle, hsum, hafter⟩
    obtain ⟨hle', hsum', hafter'⟩ := hspec
    rcases Nat.lt_trichotomy n (fitCount m 0 l) with h | h | h
    · have := hafter _ h hle'
      omega
    · exact h
    · have := hafter' _ h hle
      omega
  · rintro rfl
    exact hspec

end Sys2Proof.Machine
end

section
/-! PROOFS. The break choice settled: what each of the four choices makes of the state (R28 to R35). -/

namespace Sys2Proof.Machine

/-! ### An OVERSET line (R32, R35, R192) -/

theorem Capture.take_eq (c : Capture) (job : Word) (number : Nat) (items : List Item) :
    c.take job number items = c.afterOverset job number items := by
  have hlength : 48 - ((items.take 48).map Item.captureCode).length = 48 - items.length := by
    rw [List.length_map, List.length_take]
    omega
  unfold Capture.take Capture.afterOverset
  dsimp only
  rw [stepUpTo_eq, hlength]

theorem State.makeOverset_eq (s : State) : s.makeOverset s.composer.line.items = s.oversetMade := by
  unfold State.makeOverset State.oversetMade
  dsimp only
  rw [Capture.take_eq]
  have hchanged (c d : Capture) : (c != d) = decide (c ≠ d) := by
    by_cases h : c = d <;> simp [h]
  rw [hchanged]
  rfl

/-! ### The end of a break (R33) -/

/-- The Composer at the end of a break that settles `b`. -/
def Composer.afterBreak (c : Composer) (b : Break) : Composer :=
  { c with
    line := Line.empty
    noFont := false
    word := if b.inWord then { c.word with points := [], ineligible := true } else c.word
    state := .setting
    todo := .offer (.line b.entry) :: .newLine b.carried c.line.gov :: .retest :: c.todo }

theorem State.push_markIf (s : State) (b : Bool) (l : List Nat) (tasks : List Task) :
    (s.markIf b l).push tasks = (s.push tasks).markIf b l := by
  cases b <;> rfl

theorem State.finishBreak_eq (t : State) (e : LineEntry) (carried : List Item) (gov : Option GovFont) (w : WordRun) :
    t.finishBreak e carried gov w = State.markIf { t with
      composer := { t.composer with
        line := Line.empty
        noFont := false
        word := w
        state := .setting
        todo := .offer (.line e) :: .newLine carried gov :: .retest :: t.composer.todo } }
      (t.composer.state != .setting) [5] := by
  exact State.push_markIf _ _ _ _

/-- A state that the break choice is made over, with the report flags that the break gives. -/
def State.flagged (s : State) (b : Break) : State :=
  { s with intake.job.flags := s.intake.job.flags.afterBreak b }

theorem State.broken_inMeasure {s : State} {b : Break} (h : b.overset = false) :
    s.broken b = (s.flagged b).finishBreak b.entry b.carried s.composer.line.gov
      (if b.inWord then s.composer.word.remainder else s.composer.word) := by
  rw [State.finishBreak_eq]
  unfold State.broken
  dsimp only
  rw [h]
  rfl

theorem JobFlags.afterBreak_plain (f : JobFlags) {b : Break} (hover : b.overset = false) (hglyph : b.glyph = .none) :
    f.afterBreak b = f := by
  simp [JobFlags.afterBreak, hover, hglyph]

theorem State.flagged_plain (s : State) {b : Break} (hover : b.overset = false) (hglyph : b.glyph = none) :
    s.flagged b = s := by
  unfold State.flagged
  rw [JobFlags.afterBreak_plain _ hover hglyph]

/-- Choices 1 and 3: the line is broken at S. -/
theorem State.divideLine_eq {s : State} {d : Division} {hyphenated loose : Bool} {b : Break} (hover : b.overset = false)
    (hglyph : b.glyph = none) (hword : b.inWord = hyphenated) (hcarried : b.carried = d.carried)
    (hentry : b.entry = lineEntry s.intake.job.number (nextCount s.intake.job.linesSet)
      (s.composer.line.over (stripSpaces d.ended)) .justify false hyphenated loose) :
    s.divideLine s.composer.line d hyphenated loose = s.broken b := by
  rw [State.broken_inMeasure hover, State.flagged_plain s hover hglyph, hentry, hcarried, hword]
  rfl

/-- Choice 2: the line is broken at a hyphen point. -/
theorem State.noteGlyph_eq {s : State} {b : Break} {g : Item} (hover : b.overset = false) (hglyph : b.glyph = some g)
    (head : List Item) : s.noteGlyph (head ++ [g]) = s.flagged b := by
  have hmark (f : Attr → Bool) : g.hasMark f = g.attr?.any f := by
    cases g <;> rfl
  unfold State.noteGlyph State.flagged JobFlags.withItem JobFlags.afterBreak
  simp only [List.getLast?_concat, Option.any_some, hover, hglyph, hmark, Bool.or_false]

/-- Choice 4: the line is OVERSET and cut. -/
theorem State.broken_overset {s : State} {b : Break} (hover : b.overset = true) (hglyph : b.glyph = none) :
    s.broken b = s.oversetMade.finishBreak b.entry b.carried s.composer.line.gov
      (if b.inWord then s.composer.word.remainder else s.composer.word) := by
  have hcomposer : s.oversetMade.composer = s.composer := by
    unfold State.oversetMade
    dsimp only
    rw [State.raise_composer, State.markIf_composer]
  have hflags : s.oversetMade.intake.job.flags = s.intake.job.flags.afterBreak b := by
    unfold State.oversetMade JobFlags.afterBreak
    dsimp only
    rw [State.raise_intake, State.markIf_intake]
    simp [hover, hglyph]
  rw [State.finishBreak_eq, hcomposer]
  unfold State.broken
  dsimp only
  rw [hover, if_pos rfl, ← hflags]
  rfl

/-! ### The four choices -/

/-- The break choice, with the division at S when there is one (R29 to R32). -/
def State.breakBy (s : State) (l : Line) (r : Nat) (atS : Option Division) : State :=
  match atS.filter (fun d => fitsSpaces l.measure d.ended) with
  | some d => s.divideLine l d false false
  | none =>
    match s.hyphenBreak l r with
    | some d => (s.noteGlyph d.ended).divideLine l d true false
    | none =>
      match atS with
      | some d => s.divideLine l d false true
      | none => s.oversetBreak l r

section
variable {s : State} {l : Line} {r : Nat} {atS : Option Division} {d : Division}

theorem State.breakBy_fits (h : fitsSpaces l.measure d.ended = true) :
    s.breakBy l r (some d) = s.divideLine l d false false := by
  have hfilter : (some d).filter (fun d => fitsSpaces l.measure d.ended) = some d := Option.filter_some_pos h
  unfold State.breakBy
  rw [hfilter]

theorem State.filter_fits_none (h : ∀ e, atS = some e → fitsSpaces l.measure e.ended = false) :
    atS.filter (fun d => fitsSpaces l.measure d.ended) = none := by
  cases atS with
  | none => rfl
  | some e => exact Option.filter_some_neg (by simp [h e rfl])

theorem State.breakBy_hyphen (h : ∀ e, atS = some e → fitsSpaces l.measure e.ended = false)
    (hd : s.hyphenBreak l r = some d) : s.breakBy l r atS = (s.noteGlyph d.ended).divideLine l d true false := by
  unfold State.breakBy
  rw [State.filter_fits_none h, hd]

theorem State.breakBy_loose (h : fitsSpaces l.measure d.ended = false) (hnone : s.hyphenBreak l r = none) :
    s.breakBy l r (some d) = s.divideLine l d false true := by
  unfold State.breakBy
  rw [State.filter_fits_none (fun e he => by rw [← Option.some.inj he]; exact h), hnone]

theorem State.breakBy_overset (hnone : s.hyphenBreak l r = none) : s.breakBy l r none = s.oversetBreak l r := by
  unfold State.breakBy
  rw [hnone]
  rfl

end

section
variable {s : State} {again : Bool} {before word head rest : List Item} {x : Item} {b : Break}

/-- The division at S, when there is one. -/
def State.atS (s : State) (again : Bool) (before word : List Item) : Option Division :=
  (lastCandidate (breakLimit again before word) s.composer.line.items).map (divideAt s.composer.line.items)

theorem State.breakLine_eq (h : EndWord s.composer.line.items before word) (again : Bool) : s.breakLine again =
    s.breakBy s.composer.line (letterRun s.composer.line.items) (s.atS again before word) := by
  unfold State.atS
  rw [← h.breakLimit_eq again]
  rfl

theorem BreakSpace.atS (h : EndWord s.composer.line.items before word) (hspace : BreakSpace again before word head x rest) :
    s.atS again before word = some { ended := endedAt head x, carried := rest } := by
  unfold State.atS
  rw [(hspace.lastCandidate h).1, Option.map_some, hspace.divideAt h]

theorem State.atS_eq_none (h : EndWord s.composer.line.items before word)
    (hnone : ∀ head x rest, ¬ BreakSpace again before word head x rest) : s.atS again before word = none := by
  unfold State.atS
  rw [Option.map_eq_none_iff, Option.eq_none_iff_forall_ne_some]
  intro i hi
  obtain ⟨head, x, rest, hspace⟩ := breakSpace_of_lastCandidate h hi
  exact hnone head x rest hspace

/-- Either there is a break space, and then it is the one, or there is none. -/
theorem State.atS_not_fits (h : EndWord s.composer.line.items before word) (again : Bool)
    (hfit : ∀ head x rest, BreakSpace again before word head x rest → ¬ ExtraFits s.composer.line.measure (endedAt head x))
    (e : Division) (he : s.atS again before word = some e) : fitsSpaces s.composer.line.measure e.ended = false := by
  by_cases hspace : ∃ head x rest, BreakSpace again before word head x rest
  · obtain ⟨head, x, rest, hspace⟩ := hspace
    rw [hspace.atS h] at he
    cases he
    rw [Bool.eq_false_iff, Ne, fitsSpaces_iff]
    exact hfit head x rest hspace
  · rw [State.atS_eq_none h fun head x rest hs => hspace ⟨head, x, rest, hs⟩] at he
    cases he

/-- What the algorithm and the statement call the cut of an OVERSET line. -/
theorem State.oversetBreak_eq (h : EndWord s.composer.line.items before word) {n : Nat}
    (hfit : LongestFit (s.composer.line.measure * 32) s.composer.line.items n)
    (hover : b.overset = true) (hglyph : b.glyph = none)
    (hcarried : b.carried = s.composer.line.items.drop (max 1 n))
    (hword : b.inWord = decide (word ≠ [] ∧ before.length < max 1 n))
    (hentry : b.entry = if n = 0 then
        emptyLineEntry s.intake.job.number (nextCount s.intake.job.linesSet) .left s.composer.line.lead s.composer.lensSize true
      else lineEntry s.intake.job.number (nextCount s.intake.job.linesSet)
        (s.composer.line.over (s.composer.line.items.take n)) .left true false false) :
    s.oversetBreak s.composer.line (letterRun s.composer.line.items) = s.broken b := by
  have hlength : s.composer.line.items.length = before.length + word.length := by rw [h.1, List.length_append]
  have hn : fitCount (measureFine s.composer.line.measure) 0 s.composer.line.items = n :=
    ((longestFit_iff _ _ _).1 hfit).symm
  have hcut : (if n = 0 then 1 else n) = max 1 n := by split <;> omega
  have hin : (decide (0 < word.length) && decide (s.composer.line.items.length - word.length < max 1 n)) = b.inWord := by
    rw [hword, hlength, Nat.add_sub_cancel, Bool.decide_and]
    simp [List.length_pos_iff]
  rw [State.broken_overset hover hglyph, hcarried, hentry]
  unfold State.oversetBreak
  dsimp only
  rw [hn, hcut, State.makeOverset_eq, h.letterRun_eq, hin]
  rfl

/-- Choices 1 and 3, at S. -/
theorem State.breakBy_space {loose : Bool} {d : Division}
    (hfits : fitsSpaces s.composer.line.measure d.ended = !loose)
    (hnone : loose = true → s.hyphenBreak s.composer.line (letterRun s.composer.line.items) = none) :
    s.breakBy s.composer.line (letterRun s.composer.line.items) (some d) =
      s.divideLine s.composer.line d false loose := by
  cases loose with
  | false => exact State.breakBy_fits hfits
  | true => exact State.breakBy_loose hfits (hnone rfl)

/-- What choices 1 and 3 settle. -/
def State.spaceBreak (s : State) (loose : Bool) (d : Division) : Break :=
  { entry := lineEntry s.intake.job.number (nextCount s.intake.job.linesSet)
      (s.composer.line.over (stripSpaces d.ended)) .justify false false loose,
    carried := d.carried, glyph := none, inWord := false, overset := false }

theorem State.divideLine_space (s : State) (loose : Bool) (d : Division) :
    s.divideLine s.composer.line d false loose = s.broken (s.spaceBreak loose d) :=
  State.divideLine_eq rfl rfl rfl rfl rfl

/-- What choice 2 settles, at a point after `head` with the glyph `g`. -/
def State.pointBreak (s : State) (head : List Item) (g : Item) (carried : List Item) : Break :=
  { entry := lineEntry s.intake.job.number (nextCount s.intake.job.linesSet)
      (s.composer.line.over (stripSpaces (head ++ [g]))) .justify false true false,
    carried := carried, glyph := some g, inWord := true, overset := false }

theorem State.divideLine_point (s : State) (g : Item) (head carried : List Item) :
    (s.noteGlyph (head ++ [g])).divideLine s.composer.line { ended := head ++ [g], carried := carried } true false =
      s.broken (s.pointBreak head g carried) := by
  rw [State.broken_inMeasure rfl, State.noteGlyph_eq (b := s.pointBreak head g carried) rfl rfl]
  rfl

/-- Whatever the break choice settles, it is what the Composer does (R28 to R35). -/
theorem State.breakLine_broken (hchoice : s.BreakChoice again b) : s.breakLine again = s.broken b := by
  obtain ⟨before, word, h, hchoice⟩ := hchoice
  rw [State.breakLine_eq h]
  rcases hchoice with ⟨head, x, rest, hspace, hfits, hb⟩ | ⟨hnofit, p, g, hpoint, hlatest, hb⟩
    | ⟨hnofit, hnopoint, head, x, rest, hspace, hb⟩ | ⟨hnospace, hnopoint, n, hle, hsum, hafter, hb⟩
  · have hfits' : fitsSpaces s.composer.line.measure (endedAt head x) = true := (fitsSpaces_iff _ _).2 hfits
    rw [hspace.atS h, State.breakBy_space (loose := false) (d := { ended := endedAt head x, carried := rest }) hfits'
      (fun hf => Bool.noConfusion hf), State.divideLine_space, hb]
    rfl
  · rw [State.breakBy_hyphen (State.atS_not_fits h again hnofit)
      ((State.hyphenBreak_eq_some_iff h).2 ⟨p, g, hpoint, hlatest, rfl⟩)]
    dsimp only
    rw [State.divideLine_point, hb]
    rfl
  · rw [hspace.atS h, State.breakBy_space (loose := true)
      (d := { ended := endedAt head x, carried := rest }) (State.atS_not_fits h again hnofit _ (hspace.atS h))
      (fun _ => (State.hyphenBreak_eq_none_iff h).2 hnopoint), State.divideLine_space, hb]
    rfl
  · rw [State.atS_eq_none h hnospace, State.breakBy_overset ((State.hyphenBreak_eq_none_iff h).2 hnopoint)]
    refine State.oversetBreak_eq h ⟨hle, hsum, hafter⟩ ?_ ?_ ?_ ?_ ?_ <;> rw [hb]

/-- The break choice settles something of a line with items. -/
theorem State.breakChoice_exists (s : State) (again : Bool) : ∃ b, s.BreakChoice again b := by
  have h := endWord_letterRun s.composer.line.items
  generalize s.composer.line.items.take (s.composer.line.items.length - letterRun s.composer.line.items) = before at h
  generalize s.composer.line.items.drop (s.composer.line.items.length - letterRun s.composer.line.items) = word at h
  by_cases hfit : ∃ head x rest, BreakSpace again before word head x rest ∧ ExtraFits s.composer.line.measure (endedAt head x)
  · obtain ⟨head, x, rest, hspace, hfits⟩ := hfit
    exact ⟨_, before, word, h, .inl ⟨head, x, rest, hspace, hfits, rfl⟩⟩
  have hnofit : ∀ head x rest, BreakSpace again before word head x rest →
      ¬ ExtraFits s.composer.line.measure (endedAt head x) := fun head x rest hspace hfits => hfit ⟨head, x, rest, hspace, hfits⟩
  cases hpoint : s.hyphenBreak s.composer.line (letterRun s.composer.line.items) with
  | some d =>
    obtain ⟨p, g, hpoint, hlatest, -⟩ := (State.hyphenBreak_eq_some_iff h).1 hpoint
    exact ⟨_, before, word, h, .inr (.inl ⟨hnofit, p, g, hpoint, hlatest, rfl⟩)⟩
  | none =>
    have hnopoint := (State.hyphenBreak_eq_none_iff h).1 hpoint
    by_cases hspace : ∃ head x rest, BreakSpace again before word head x rest
    · obtain ⟨head, x, rest, hspace⟩ := hspace
      exact ⟨_, before, word, h, .inr (.inr (.inl ⟨hnofit, hnopoint, head, x, rest, hspace, rfl⟩))⟩
    · obtain ⟨hle, hsum, hafter⟩ := (longestFit_iff (s.composer.line.measure * 32) s.composer.line.items _).2 rfl
      exact ⟨_, before, word, h, .inr (.inr (.inr ⟨fun head x rest hs => hspace ⟨head, x, rest, hs⟩, hnopoint, _, hle, hsum,
        hafter, rfl⟩))⟩

end

end Sys2Proof.Machine
end

section
/-! PROOFS. A break made and completed: the entry queued, the carried items begun as a new line, and that line tested
(R10, R33 to R36). -/

namespace Sys2Proof.Machine

/-! ### The break choice depends on the line and what sets it -/

/-- What two states have in common for the break choice in the one to be that in the other. -/
structure SameForBreak (s t : State) : Prop where
  line : t.composer.line = s.composer.line
  word : t.composer.word = s.composer.word
  ladder : t.composer.ladder = s.composer.ladder
  lensSize : t.composer.lensSize = s.composer.lensSize
  fontSub : t.composer.fontSub = s.composer.fontSub
  sizeSub : t.composer.sizeSub = s.composer.sizeSub
  number : t.intake.job.number = s.intake.job.number
  linesSet : t.intake.job.linesSet = s.intake.job.linesSet
  hyph : t.hyph = s.hyph
  widths : t.font.widths = s.font.widths

theorem SameForBreak.usablePoint {s t : State} (h : SameForBreak s t) (before word : List Item) (p : Nat) (g : Item) :
    t.UsablePoint before word p g ↔ s.UsablePoint before word p g := by
  have hunits : t.unitsOf = s.unitsOf := by
    funext p c
    unfold State.unitsOf
    rw [h.widths]
  unfold State.UsablePoint
  rw [h.line, h.word, h.ladder, h.fontSub, h.sizeSub, h.hyph, hunits]

theorem SameForBreak.breakChoice {s t : State} (h : SameForBreak s t) (again : Bool) (b : Break) :
    t.BreakChoice again b ↔ s.BreakChoice again b := by
  unfold State.BreakChoice
  simp only [h.usablePoint, h.line, h.number, h.linesSet, h.lensSize]

/-! ### The status record after a break (R35, R192) -/

theorem State.raise_flags_congr {s t : State} (h : t.status.flags = s.status.flags) (f : EventFlag) :
    (t.raise f).status.flags = (s.raise f).status.flags := by
  have hset : t.flagSet f = s.flagSet f := by
    unfold State.flagSet
    rw [h]
  unfold State.raise
  rw [hset]
  split
  · exact h
  · exact congrArg (· ||| f.word) h

theorem State.oversetMade_status (s : State) : s.oversetMade.status = { s.status with
    capture :=
      s.status.capture.afterOverset s.intake.job.number (nextCount s.intake.job.linesSet) s.composer.line.items
    flags := (s.raise .overset).status.flags
    marks := s.oversetMade.status.marks } := by
  unfold State.oversetMade
  dsimp only
  generalize hmarked : State.markIf _ _ _ = t
  have hframe := State.raise_frame t .overset
  have hstatus : t.status = { s.status with
      capture :=
        s.status.capture.afterOverset s.intake.job.number (nextCount s.intake.job.linesSet) s.composer.line.items
      marks := t.status.marks } := by
    rw [← hmarked, State.markIf_frame]
  have hflags := State.raise_flags_congr (s := s) (t := t) (by rw [hstatus]) .overset
  generalize t.raise .overset = u at hframe hflags
  rw [hframe, ← hflags, hstatus]

theorem State.oversetMade_frame (s : State) : s.oversetMade = { s with
    intake.job.flags.overset := true
    status := s.oversetMade.status } := by
  unfold State.oversetMade
  dsimp only
  rw [State.raise_frame, State.markIf_frame]

/-- What becomes of the status record when `b` is made of the line under composition. -/
theorem BreakStatus.after {s t u : State} {overset : Bool} {items : List Item} (h : BreakStatus s t overset items)
    (h' : StatusStands t u) : BreakStatus s u overset items := by
  refine ⟨fun hplain => (h.1 hplain).trans h', fun hover => ?_⟩
  obtain ⟨hflag, hstatus⟩ := h.2 hover
  unfold StatusStands at h'
  constructor
  · unfold State.flagSet at *
    rw [h']
    exact hflag
  · rw [h', hstatus]

theorem BreakStatus.before {s t u : State} {overset : Bool} {items : List Item} (h : StatusStands s t)
    (hnumber : t.intake.job.number = s.intake.job.number) (hlines : t.intake.job.linesSet = s.intake.job.linesSet)
    (h' : BreakStatus t u overset items) : BreakStatus s u overset items := by
  refine ⟨fun hplain => h.trans (h'.1 hplain), fun hover => ?_⟩
  obtain ⟨hflag, hstatus⟩ := h'.2 hover
  refine ⟨hflag, ?_⟩
  have hflags := State.raise_flags_congr (s := s) (t := t) (by rw [h]) .overset
  rw [hstatus, hflags, hnumber, hlines, h]

/-! ### The break made -/

/-- The state that the marks of a break are made over. -/
def State.breakBase (s : State) (b : Break) : State := if b.overset then s.oversetMade else s

theorem State.breakBase_frame (s : State) (b : Break) : s.breakBase b = { s with
    intake.job.flags := (s.breakBase b).intake.job.flags
    status := (s.breakBase b).status } := by
  unfold State.breakBase
  cases b.overset with
  | false => rfl
  | true =>
    rw [if_pos rfl, State.oversetMade_frame]

theorem State.broken_eq (s : State) (b : Break) : s.broken b = State.markIf { s.breakBase b with
    intake.job.flags := s.intake.job.flags.afterBreak b
    composer := s.composer.afterBreak b } (s.composer.state != .setting) [5] := rfl

theorem State.breakBase_status (s : State) (b : Break) : BreakStatus s (s.breakBase b) b.overset s.composer.line.items := by
  unfold State.breakBase
  cases b.overset with
  | false => exact ⟨fun _ => StatusStands.refl s, fun h => Bool.noConfusion h⟩
  | true => exact ⟨fun h => Bool.noConfusion h, fun _ => ⟨State.flagSet_raise_same _ _, s.oversetMade_status⟩⟩

/-- Where a break gets to. -/
theorem State.broken_reaches (s : State) (b : Break) :
    Reaches [] s (s.broken b) (s.composer.afterBreak b) { s.intake with job.flags := s.intake.job.flags.afterBreak b } s.queue
      ∧ BreakStatus s (s.broken b) b.overset s.composer.line.items := by
  have hframe := s.breakBase_frame b
  have hstatus := s.breakBase_status b
  rw [State.broken_eq]
  generalize s.breakBase b = t at hframe hstatus
  have hlast := CopyFrame.composer t (s.composer.afterBreak b)
    { t.intake.job with flags := s.intake.job.flags.afterBreak b } t.queue
  have hmark := CopyFrame.markIf ({ t with
    intake.job.flags := s.intake.job.flags.afterBreak b, composer := s.composer.afterBreak b } : State)
    (s.composer.state != .setting) [5]
  have hline : LineFrame [] s t := by
    refine LineFrame.of_frame ?_ ?_ ?_ fun p => ?_ <;> rw [hframe]
    rfl
  refine ⟨⟨(hline.copyFrame hlast).copyFrame hmark, ?_, ?_, ?_⟩, (hstatus.after hlast.2).after hmark.2⟩
  · rw [State.markIf_composer]
  · rw [State.markIf_intake, hframe]
  · rw [State.markIf_queue, hframe]

/-- The break choice is done. -/
theorem State.does_breakLine {s : State} {rest : List Task} {again : Bool} {b : Break} (hwaits : s.composerWaits = false)
    (htodo : s.composer.todo = .breakLine again :: rest) (hchoice : s.BreakChoice again b) :
    ∃ t, State.Works 1 s t
      ∧ Reaches [] s t (({ s.composer with todo := rest } : Composer).afterBreak b)
        { s.intake with job.flags := s.intake.job.flags.afterBreak b } s.queue
      ∧ BreakStatus s t b.overset s.composer.line.items := by
  have hsame : SameForBreak s (s.given rest) := ⟨rfl, rfl, rfl, rfl, rfl, rfl, rfl, rfl, rfl, rfl⟩
  obtain ⟨hreach, hstatus⟩ := (s.given rest).broken_reaches b
  have hbroken : (s.given rest).doTask (.breakLine again) = (s.given rest).broken b :=
    State.breakLine_broken ((hsame.breakChoice again b).2 hchoice)
  generalize (s.given rest).broken b = t at hreach hstatus hbroken
  have hframe := s.given_copyFrame rest
  exact ⟨t, .step hwaits htodo hbroken, ⟨hframe.lineFrame hreach.frame, hreach.composer, hreach.intake, hreach.queue⟩,
    .before hframe.2 rfl rfl hstatus⟩

/-! ### The line that the carried items begin (R10, R33, R34) -/

/-- The line that carried items begin depends on Font Control, but for in-use counts and ages, and on the format state. -/
theorem LineFrame.settingGov {s t : State} {lines : List LineEntry} (h : LineFrame lines s t)
    (hcurrent : t.composer.current = s.composer.current) : t.govOf = s.govOf ∧ t.settingGov = s.settingGov := by
  obtain ⟨-, -, -, -, -, -, -, -, hfont, -, -, -, -, htable⟩ := h
  have hwidths : t.font.widths = s.font.widths := by rw [hfont]
  have hgov : t.govOf = s.govOf := by
    funext p
    unfold State.govOf
    rw [hwidths, htable p]
  have hready (p : Fin 8) : t.font.table[p].ready = s.font.table[p].ready := by
    rw [htable p]
    rfl
  have hdefault : t.defaultPosition = s.defaultPosition := by
    unfold State.defaultPosition
    simp only [hready]
  have hcurrentReady : t.currentReady = s.currentReady := by
    funext c
    unfold State.currentReady
    rw [hready, htable c.pos]
  refine ⟨hgov, ?_⟩
  unfold State.settingGov State.settingPosition
  rw [hgov, hcurrent, hcurrentReady, hdefault]

theorem LineFrame.carriedLine {s t : State} {lines : List LineEntry} (h : LineFrame lines s t)
    (hcurrent : t.composer.current = s.composer.current) (hmeasure : t.composer.measure = s.composer.measure)
    (hlead : t.composer.lead = s.composer.lead) (carried : List Item) (previous : Option GovFont) :
    t.carriedLine carried previous = s.carriedLine carried previous := by
  obtain ⟨hgov, hsetting⟩ := h.settingGov hcurrent
  unfold State.carriedLine
  rw [hgov, hsetting, hmeasure, hlead]

section
variable {s : State} {rest : List Task}

theorem State.does_newLine {carried : List Item} {previous : Option GovFont} (hwaits : s.composerWaits = false)
    (htodo : s.composer.todo = .newLine carried previous :: rest) :
    ∃ t, Does 1 [] s t { s.composer with line := s.carriedLine carried previous, todo := rest } s.intake s.queue := by
  have hframe := CopyFrame.composer (s.given rest)
    { s.composer with line := s.carriedLine carried previous, todo := rest } s.intake.job s.queue
  exact ⟨_, Does.step hwaits htodo rfl ⟨hframe.1, rfl, rfl, rfl⟩ hframe.2⟩

/-- A line that does not overflow passes its test (R34). -/
theorem State.does_retest (hwaits : s.composerWaits = false) (htodo : s.composer.todo = .retest :: rest)
    (hfits : s.composer.line.sums.minWidth ≤ s.composer.line.measure * 32) :
    ∃ t, Does 1 [] s t { s.composer with todo := rest } s.intake s.queue := by
  have hframe := CopyFrame.refl (s.given rest)
  refine ⟨s.given rest, Does.step hwaits htodo ?_ ⟨hframe.1, rfl, rfl, rfl⟩ hframe.2⟩
  exact if_neg (not_lt.2 hfits)

/-- The Composer after a break that settles `b` is completed, with `next` as the line the carried items begin. -/
def Composer.broken (c : Composer) (b : Break) (next : Line) (rest : List Task) : Composer :=
  { c with
    line := next
    noFont := false
    word := if b.inWord then { c.word with points := [], ineligible := true } else c.word
    state := .setting
    todo := rest
    pendingMarks := []
    ladder := ladderAfter c.ladder [b.entry] }

/-- The copy's record after a break that settles `b` is completed. -/
def Intake.broken (i : Intake) (b : Break) : Intake :=
  { i with job.flags := i.job.flags.afterBreak b, job.linesSet := nextCount i.job.linesSet }

/-- A break is made and completed: its entry is queued, and the carried items begin a line that does not overflow. -/
theorem State.does_break {again : Bool} {b : Break} (hwaits : s.composerWaits = false)
    (htodo : s.composer.todo = .breakLine again :: rest) (hchoice : s.BreakChoice again b) (hroom : s.queue.length < 6)
    {next : Line} (hnext : s.carriedLine b.carried s.composer.line.gov = next)
    (hfits : next.sums.minWidth ≤ next.measure * 32) :
    ∃ t, State.Works 4 s t
      ∧ Reaches [b.entry] s t (s.composer.broken b next rest) (s.intake.broken b) (s.queue ++ [s.entryFor (.line b.entry)])
      ∧ BreakStatus s t b.overset s.composer.line.items := by
  obtain ⟨t, hwork, hreach, hstatus⟩ := State.does_breakLine hwaits htodo hchoice
  have hsetting {u : State} (h : u.composer.state = .setting) : u.composerWaits = false := State.composerWaits_false (.inl h)
  have hentry := hreach.entryFor rfl rfl rfl (.line b.entry)
  obtain ⟨u, hoffer⟩ := State.does_offer (s := t) (hsetting (by rw [hreach.composer]; rfl)) (by rw [hreach.composer]; rfl)
    (by rw [hreach.queue]; exact hroom)
  rw [hreach.composer, hreach.intake, hreach.queue, hentry] at hoffer
  have hline : u.carriedLine b.carried s.composer.line.gov = next :=
    ((hreach.frame.trans hoffer.frame).carriedLine (by rw [hoffer.composer]; rfl) (by rw [hoffer.composer]; rfl)
      (by rw [hoffer.composer]; rfl) _ _).trans hnext
  obtain ⟨v, hnew⟩ := State.does_newLine (s := u) (hsetting (by rw [hoffer.composer]; rfl)) (by rw [hoffer.composer])
  rw [hline, hoffer.composer, hoffer.intake, hoffer.queue] at hnew
  obtain ⟨x, hretest⟩ := State.does_retest (s := v) (hsetting (by rw [hnew.composer]; rfl)) (by rw [hnew.composer])
    (by rw [hnew.composer]; exact hfits)
  rw [hnew.composer, hnew.intake, hnew.queue] at hretest
  have hrest := (hoffer.trans hnew).trans hretest
  have hall := hreach.trans hrest.toReaches
  exact ⟨x, hwork.trans hrest.works, ⟨hall.frame, hall.composer, hall.intake, hall.queue⟩, hstatus.after hrest.stands⟩

/-- A break is made, and its entry is held in QUEUE WAIT. -/
theorem State.does_break_full {again : Bool} {b : Break} (hwaits : s.composerWaits = false)
    (htodo : s.composer.todo = .breakLine again :: rest) (hchoice : s.BreakChoice again b) (hfull : 6 ≤ s.queue.length) :
    ∃ t, State.Works 2 s t
      ∧ Reaches [] s t
        { (s.composer.afterBreak b) with
          state := .queueWait
          held := some (.entry (.line b.entry))
          todo := .newLine b.carried s.composer.line.gov :: .retest :: rest }
        { s.intake with job.flags := s.intake.job.flags.afterBreak b } s.queue
      ∧ BreakStatus s t b.overset s.composer.line.items := by
  obtain ⟨t, hwork, hreach, hstatus⟩ := State.does_breakLine hwaits htodo hchoice
  obtain ⟨u, hoffer⟩ := State.does_offer_full (s := t) (State.composerWaits_false (.inl (by rw [hreach.composer]; rfl)))
    (by rw [hreach.composer]; rfl) (by rw [hreach.queue]; exact hfull)
  rw [hreach.composer, hreach.intake, hreach.queue] at hoffer
  have hall := hreach.trans hoffer.toReaches
  exact ⟨u, hwork.trans hoffer.works, ⟨hall.frame, hall.composer, hall.intake, hall.queue⟩, hstatus.after hoffer.stands⟩

end

end Sys2Proof.Machine
end

section
/-! PROOFS. A line ended and its entry offered; and PROOF, DISPLAY and MARK (R11, R98, R105, R106, R109, R146, R152). -/

namespace Sys2Proof.Machine

/-! ### A line ended, and its entry offered (R11, R20, R105) -/

section
variable {s : State} {rest : List Task} {a : Align} {always : Bool}

/-- The queue has room for the entry. -/
theorem State.does_endLine_offer (hwaits : s.composerWaits = false)
    (htodo : s.composer.todo = .endLine a always :: rest)
    (h : always = true ∨ stripSpaces s.composer.line.items ≠ []) (hroom : s.queue.length < 6) {e : LineEntry}
    (he : s.endedLine s.composer.line (nextCount s.intake.job.linesSet) a = e) :
    ∃ t, Does 2 [e] s t ((s.composer.ended rest).accepted (.line e)) (s.intake.accepted (.line e))
      (s.queue ++ [s.entryFor (.line e)]) := by
  obtain ⟨t, hend⟩ := State.does_endLine hwaits htodo h
  rw [he] at hend
  have hentry := hend.toReaches.entryFor rfl rfl rfl (.line e)
  obtain ⟨u, hoffer⟩ := State.does_offer (s := t)
    ((State.composerWaits_congr (by rw [hend.composer]; rfl)).trans hwaits) (by rw [hend.composer]; rfl)
    (by rw [hend.queue]; exact hroom)
  rw [hend.composer, hend.intake, hend.queue, hentry] at hoffer
  exact ⟨u, hend.trans hoffer⟩

/-- The queue is full, and the entry is held. -/
theorem State.does_endLine_offer_full (hwaits : s.composerWaits = false)
    (htodo : s.composer.todo = .endLine a always :: rest)
    (h : always = true ∨ stripSpaces s.composer.line.items ≠ []) (hfull : 6 ≤ s.queue.length) {e : LineEntry}
    (he : s.endedLine s.composer.line (nextCount s.intake.job.linesSet) a = e) :
    ∃ t, Does 2 [] s t { s.composer.ended rest with held := some (.entry (.line e)), state := .queueWait } s.intake
      s.queue := by
  obtain ⟨t, hend⟩ := State.does_endLine hwaits htodo h
  rw [he] at hend
  obtain ⟨u, hoffer⟩ := State.does_offer_full (s := t)
    ((State.composerWaits_congr (by rw [hend.composer]; rfl)).trans hwaits) (by rw [hend.composer]; rfl)
    (by rw [hend.queue]; exact hfull)
  rw [hend.composer, hend.intake, hend.queue] at hoffer
  exact ⟨u, hend.trans hoffer⟩

theorem State.does_addMark {v : Word} (hwaits : s.composerWaits = false) (htodo : s.composer.todo = .addMark v :: rest) :
    ∃ t, Does 1 [] s t { s.composer with pendingMarks := s.composer.pendingMarks ++ [v], todo := rest } s.intake s.queue := by
  have hframe := CopyFrame.composer (s.given rest)
    { s.composer with pendingMarks := s.composer.pendingMarks ++ [v], todo := rest } s.intake.job s.queue
  exact ⟨_, Does.step hwaits htodo rfl ⟨hframe.1, rfl, rfl, rfl⟩ hframe.2⟩

end

theorem State.endedLine_flags (s : State) (l : Line) (n : Nat) (a : Align) :
    (s.endedLine l n a).flags.hyphenated = false := by
  unfold State.endedLine
  split <;> rfl

/-- A line that is ended, and not broken by choice 2, ends the ladder (R36). -/
theorem ladderAfter_endedLine (s : State) (l : Line) (k : Nat) (a : Align) (n : Nat) :
    ladderAfter n [s.endedLine l k a] = 0 := by
  unfold ladderAfter
  rw [List.foldl_cons, s.endedLine_flags, List.foldl_nil]
  rfl

theorem State.endedLine_congr {s t : State} (hnumber : t.intake.job.number = s.intake.job.number)
    (hlead : t.composer.lead = s.composer.lead) (hsize : t.composer.lensSize = s.composer.lensSize) :
    t.endedLine = s.endedLine := by
  funext l n a
  unfold State.endedLine
  rw [hnumber, hlead, hsize]

/-! ### A fifth pending mark (R106) -/

/-- In SETTING the fifth mark ends the line. -/
theorem State.fifthMark_goes {s : State} {v : Word} (hstate : s.composer.state = .setting) (htodo : s.composer.todo = [])
    (hroom : s.queue.length < 6) {e : LineEntry}
    (he : s.endedLine s.composer.line (nextCount s.intake.job.linesSet) .left = e) :
    Goes [e] s (s.work [.endLine .left true, .addMark v])
      { s.composer with
        line := Line.empty, noFont := false, word := WordRun.none, pendingMarks := [v], ladder := 0, todo := [] }
      (s.intake.accepted (.line e)) (s.queue ++ [s.entryFor (.line e)]) := by
  have hwaits : s.composerWaits = false := State.composerWaits_false (.inl hstate)
  obtain ⟨t, hend⟩ := State.does_endLine_offer (s := s.given [.endLine .left true, .addMark v]) hwaits rfl (.inl rfl) hroom he
  obtain ⟨u, hmark⟩ := State.does_addMark (s := t) (v := v) (rest := [])
    ((State.composerWaits_congr (by rw [hend.composer]; rfl)).trans hwaits) (by rw [hend.composer]; rfl)
  rw [hend.composer, hend.intake, hend.queue] at hmark
  have hgoes := (hend.trans hmark).work htodo (by omega) (.inl rfl)
  have hladder := ladderAfter_endedLine s s.composer.line (nextCount s.intake.job.linesSet) .left s.composer.ladder
  rw [he] at hladder
  rw [← hladder]
  exact hgoes

/-- With a full queue the line is held, and the mark is still to be added. -/
theorem State.fifthMark_goes_full {s : State} {v : Word} (hstate : s.composer.state = .setting) (htodo : s.composer.todo = [])
    (hfull : 6 ≤ s.queue.length) {e : LineEntry}
    (he : s.endedLine s.composer.line (nextCount s.intake.job.linesSet) .left = e) :
    Goes [] s (s.work [.endLine .left true, .addMark v])
      { s.composer with
        line := Line.empty, noFont := false, word := WordRun.none, state := .queueWait, held := some (.entry (.line e)),
        todo := [.addMark v] }
      s.intake s.queue := by
  have hwaits : s.composerWaits = false := State.composerWaits_false (.inl hstate)
  obtain ⟨t, hend⟩ := State.does_endLine_offer_full (s := s.given [.endLine .left true, .addMark v]) hwaits rfl (.inl rfl) hfull he
  exact hend.work htodo (by omega) (.inr rfl)

/-- In LOOKAHEAD the word is ended first, and then the line that the carried items begin. -/
theorem State.fifthMark_lookahead {s : State} {v : Word} (hstate : s.composer.state = .lookahead) (htodo : s.composer.todo = [])
    (hroom : s.queue.length < 5) {b : Break} (hchoice : s.BreakChoice false b) {next : Line}
    (hnext : s.carriedLine b.carried s.composer.line.gov = next) (hfits : next.sums.minWidth ≤ next.measure * 32)
    {e : LineEntry} (he : s.endedLine next (nextCount (nextCount s.intake.job.linesSet)) .left = e) :
    ∃ t, s.work [.breakLine false, .endLine .left true, .addMark v] = t
      ∧ Reaches [b.entry, e] s t
        { s.composer with
          line := Line.empty, noFont := false, word := WordRun.none, state := .setting, pendingMarks := [v],
          ladder := ladderAfter s.composer.ladder [b.entry, e], todo := [] }
        ((s.intake.broken b).accepted (.line e)) (s.queue ++ s.entriesFor ([b.entry, e].map .line))
      ∧ BreakStatus s t b.overset s.composer.line.items ∧ InUseUpToDate t := by
  have hwaits : s.composerWaits = false := State.composerWaits_false (.inr (.inl hstate))
  have hsame : SameForBreak s (s.given [.breakLine false, .endLine .left true, .addMark v]) :=
    ⟨rfl, rfl, rfl, rfl, rfl, rfl, rfl, rfl, rfl, rfl⟩
  obtain ⟨t, hwork, hreach, hstatus⟩ := State.does_break (s := s.given [.breakLine false, .endLine .left true, .addMark v])
    hwaits rfl ((hsame.breakChoice _ _).2 hchoice) (Nat.lt_succ_of_lt hroom) hnext hfits
  have hsetting {u : State} (h : u.composer.state = .setting) : u.composerWaits = false := State.composerWaits_false (.inl h)
  have hended : t.endedLine = s.endedLine :=
    State.endedLine_congr (by rw [hreach.intake]; rfl) (by rw [hreach.composer]; rfl) (by rw [hreach.composer]; rfl)
  obtain ⟨u, hend⟩ := State.does_endLine_offer (s := t) (a := .left) (always := true) (rest := [.addMark v]) (e := e)
    (hsetting (by rw [hreach.composer]; rfl)) (by rw [hreach.composer]; rfl) (.inl rfl)
    (by rw [hreach.queue, List.length_append]; exact Nat.succ_lt_succ hroom)
    (by rw [hended, hreach.composer, hreach.intake]; exact he)
  rw [hreach.composer, hreach.intake, hreach.queue, hreach.entryFor rfl rfl rfl] at hend
  obtain ⟨x, hmark⟩ := State.does_addMark (s := u) (v := v) (rest := [])
    (hsetting (by rw [hend.composer]; rfl)) (by rw [hend.composer]; rfl)
  rw [hend.composer, hend.intake, hend.queue] at hmark
  have hrest := hend.trans hmark
  obtain ⟨hdone, huse, hstands⟩ := (hreach.trans hrest.toReaches).runTasks (hwork.trans hrest.works) (by omega) (.inl rfl)
  have hframe := s.given_copyFrame [.breakLine false, .endLine .left true, .addMark v]
  refine ⟨_, rfl, ?_, ?_, ?_⟩ <;> rw [State.work_eq htodo]
  · refine ⟨hframe.lineFrame hdone.frame, hdone.composer.trans ?_, hdone.intake, hdone.queue.trans ?_⟩
    · rfl
    · rw [List.append_assoc]
      rfl
  · exact .before hframe.2 rfl rfl ((hstatus.after hrest.stands).after hstands)
  · exact huse

end Sys2Proof.Machine
end

section
/-! PROOFS. PROOF, DISPLAY and MARK (R98, R106, R109, R144, R146, R152). -/

namespace Sys2Proof.Machine

/-! ### A command word consumed stands for the state before it -/

namespace SameCopy

variable {s t : State} (h : SameCopy s t)
include h

theorem breakChoice (again : Bool) (b : Break) : t.BreakChoice again b ↔ s.BreakChoice again b := by
  obtain ⟨-, -, -, hhyph, -, -, -, -, hfont, -⟩ := h.frame.1
  have hsame : SameForBreak s t := by
    refine ⟨?_, ?_, ?_, ?_, ?_, ?_, h.number, h.linesSet, hhyph, ?_⟩
    case refine_7 => rw [hfont]
    all_goals rw [h.composer]
  exact hsame.breakChoice again b

theorem carriedLine : t.carriedLine = s.carriedLine := by
  funext carried previous
  exact h.frame.1.carriedLine (by rw [h.composer]) (by rw [h.composer]) (by rw [h.composer]) carried previous

theorem endedLine : t.endedLine = s.endedLine :=
  State.endedLine_congr h.number (by rw [h.composer]) (by rw [h.composer])

theorem entriesFor (kinds : List EntryKind) : t.entriesFor kinds = s.entriesFor kinds := by
  unfold State.entriesFor
  simp only [h.entryFor]

theorem accepted_line (e : LineEntry) :
    t.intake.accepted (.line e) = { t.intake with job.linesSet := nextCount s.intake.job.linesSet } := by
  rw [← h.linesSet]
  rfl

end SameCopy

/-- No work in hand is the work in hand. -/
theorem Composer.todo_eq {c : Composer} (h : c.todo = []) (d : Composer → Composer)
    (hd : ∀ l, { d c with todo := l } = d { c with todo := l }) : { d c with todo := [] } = d c := by
  rw [hd, ← h]

/-! ### A fifth pending mark -/

section
variable {s t : State} {v : Word} {e : LineEntry}

/-- The Composer after a fifth mark has ended its line. -/
def Composer.marked (c : Composer) (v : Word) (ladder : Nat) : Composer :=
  { c with
    line := Line.empty, noFont := false, word := WordRun.none, pendingMarks := [v], ladder := ladder }

theorem SameCopy.fifthMark (h : SameCopy s t) (hstate : s.composer.state = .setting) (htodo : s.composer.todo = [])
    (hroom : s.queue.length < 6) (he : s.endedLine s.composer.line (nextCount s.intake.job.linesSet) .left = e) :
    Goes [e] s (t.work [.endLine .left true, .addMark v]) (s.composer.marked v 0)
      { t.intake with job.linesSet := nextCount s.intake.job.linesSet } (s.queue ++ [s.entryFor (.line e)]) := by
  have hgoes := State.fifthMark_goes (s := t) (v := v) (e := e) (by rw [h.composer]; exact hstate)
    (by rw [h.composer]; exact htodo) (by rw [h.queue]; exact hroom)
    (by rw [h.endedLine, h.composer, h.linesSet]; exact he)
  rw [h.composer, h.queue, h.entryFor, h.accepted_line] at hgoes
  have hcomposer : { s.composer.marked v 0 with todo := [] } = s.composer.marked v 0 :=
    Composer.todo_eq htodo (·.marked v 0) fun _ => rfl
  rw [← hcomposer]
  exact hgoes.after h.frame

theorem SameCopy.fifthMark_full (h : SameCopy s t) (hstate : s.composer.state = .setting) (htodo : s.composer.todo = [])
    (hfull : 6 ≤ s.queue.length) (he : s.endedLine s.composer.line (nextCount s.intake.job.linesSet) .left = e) :
    Goes [] s (t.work [.endLine .left true, .addMark v])
      { s.composer with
        line := Line.empty, noFont := false, word := WordRun.none, state := .queueWait, held := some (.entry (.line e)),
        todo := [.addMark v] }
      t.intake s.queue := by
  have hgoes := State.fifthMark_goes_full (s := t) (v := v) (e := e) (by rw [h.composer]; exact hstate)
    (by rw [h.composer]; exact htodo) (by rw [h.queue]; exact hfull)
    (by rw [h.endedLine, h.composer, h.linesSet]; exact he)
  rw [h.composer, h.queue] at hgoes
  exact hgoes.after h.frame

theorem SameCopy.fifthMark_lookahead (h : SameCopy s t) (hstate : s.composer.state = .lookahead)
    (htodo : s.composer.todo = []) (hroom : s.queue.length < 5) {b : Break} (hchoice : s.BreakChoice false b) {next : Line}
    (hnext : s.carriedLine b.carried s.composer.line.gov = next) (hfits : next.sums.minWidth ≤ next.measure * 32)
    (he : s.endedLine next (nextCount (nextCount s.intake.job.linesSet)) .left = e) :
    ∃ u, t.work [.breakLine false, .endLine .left true, .addMark v] = u ∧ LineFrame [b.entry, e] s u
      ∧ BreakStatus s u b.overset s.composer.line.items ∧ InUseUpToDate u
      ∧ u.queue = s.queue ++ s.entriesFor ([b.entry, e].map .line)
      ∧ u.composer = { s.composer.marked v (ladderAfter s.composer.ladder [b.entry, e]) with state := .setting }
      ∧ u.intake = { t.intake with
          job.linesSet := nextCount (nextCount s.intake.job.linesSet), job.flags := s.intake.job.flags.afterBreak b } := by
  obtain ⟨u, hwork, hreach, hstatus, huse⟩ := State.fifthMark_lookahead (s := t) (v := v) (b := b) (next := next) (e := e)
    (by rw [h.composer]; exact hstate) (by rw [h.composer]; exact htodo) (by rw [h.queue]; exact hroom)
    ((h.breakChoice _ _).2 hchoice) (by rw [h.carriedLine, h.composer]; exact hnext) hfits
    (by rw [h.endedLine, h.linesSet]; exact he)
  refine ⟨u, hwork, h.frame.lineFrame hreach.frame, ?_, huse, ?_, ?_, ?_⟩
  · rw [h.composer] at hstatus
    exact .before h.frame.2 h.number h.linesSet hstatus
  · rw [hreach.queue, h.queue, h.entriesFor]
  · have hcomposer := Composer.todo_eq htodo
      (fun c => { c.marked v (ladderAfter s.composer.ladder [b.entry, e]) with state := .setting }) fun _ => rfl
    rw [hreach.composer, h.composer, ← hcomposer]
    rfl
  · rw [hreach.intake, ← h.linesSet, ← h.flags]
    rfl

end

/-! ### MARK outside a job (R106, R109) -/

theorem addMarkToLast_concat (v : Word) (before : List Entry) (e : Entry) :
    addMarkToLast v (before ++ [e]) = before ++ [{ e with marks := e.marks ++ [v] }] := by
  induction before with
  | nil => rfl
  | cons x before ih =>
    cases before with
    | nil => rfl
    | cons y before => exact congrArg (x :: ·) ih

section
variable {t : State} {v : Word}

/-- The mark is posted at once when the last entry queued is exposed, or there is none. -/
theorem State.markOutside_posts (h : ∀ e, t.queue.getLast? = some e → e.photo = .exposed) :
    t.markOutside v = t.postMark v := by
  unfold State.markOutside
  cases hlast : t.queue.getLast? with
  | none => rfl
  | some e => exact if_pos (h e hlast)

theorem State.markOutside_joins {before : List Entry} {e : Entry} (h : t.queue = before ++ [e]) (hphoto : e.photo ≠ .exposed)
    (hmarks : e.marks.length < 4) :
    t.markOutside v = { t with queue := before ++ [{ e with marks := e.marks ++ [v] }] } := by
  unfold State.markOutside
  rw [h, List.getLast?_concat]
  dsimp only
  rw [if_neg hphoto, if_pos hmarks, addMarkToLast_concat]

theorem State.markOutside_holds {before : List Entry} {e : Entry} (h : t.queue = before ++ [e]) (hphoto : e.photo ≠ .exposed)
    (hmarks : 4 ≤ e.marks.length) (hstate : t.composer.state = .outsideJob) :
    t.markOutside v =
      State.mark { t with composer.state := .queueWait, composer.held := some (.mark v) } [5] := by
  unfold State.markOutside
  rw [h, List.getLast?_concat]
  dsimp only
  rw [if_neg hphoto, if_neg (not_lt.2 hmarks), State.setComposer_changed]
  dsimp only
  rw [hstate]
  decide

end

/-! ### The three commands -/

theorem State.proofEffect_eq {t : State} {d : Command} {m old : ProofMode} (h : proofModeOf d.inline = some m)
    (hold : t.proof.mode = old) :
    t.proofEffect d = State.markIf { t with proof.mode := m } (old != m) [229] := by
  unfold State.proofEffect
  rw [h, ← hold]

theorem State.proofEffect_bad (t : State) (d : Command) (h : proofModeOf d.inline = none) :
    t.proofEffect d = t.copyError .badOperand d.offset := by
  unfold State.proofEffect
  rw [h]
  rfl

/-- DISPLAY replaces the host line and makes a SHOW (R98, R146). -/
theorem State.displayEffect_eq {t : State} {d : Command} {waiting : List PanelMessage} (h : d.inline ≤ 32)
    (hwaiting : t.panel.outbound = waiting) :
    ∃ line1, ReadsOnLine1 t none line1 ∧ t.displayEffect d =
      State.linked { t with
        panel.hostLine := d.values.map (fun c => if 0x20 ≤ c ∧ c ≤ 0x7E then c else 0x3F)
        panel.outbound := waiting.filter (fun m => !m.isDisplay) ++
          [.display line1 (d.values.map (fun c => if 0x20 ≤ c ∧ c ≤ 0x7E then c else 0x3F))] } := by
  have htext : d.values.map (fun c => if isTextCode c then c else 0x3F) =
      d.values.map (fun c => if 0x20 ≤ c ∧ c ≤ 0x7E then c else 0x3F) := by
    simp [isTextCode]
  subst hwaiting
  refine ⟨_, readsOnLine1 t none, ?_⟩
  unfold State.displayEffect
  rw [if_neg (by omega), htext]
  rfl

theorem State.postMark_of_count {t : State} {n : Word} (h : t.status.markCount = n) (v : Word) : t.postMark v =
    State.raise (State.mark { t with status.markValue := v, status.markCount := n + 1 } [80, 81]) .markReached := by
  subst h
  rfl

/-- MARK inside a job, with room for the mark, and without (R106). -/
theorem State.markEffect_joins {t : State} {d : Command} (hstate : t.composer.state ≠ .outsideJob) {marks : List Word}
    (hmarks : t.composer.pendingMarks = marks) (hroom : marks.length < 4) :
    t.markEffect d = { t with composer.pendingMarks := marks ++ [d.operand] } := by
  subst hmarks
  unfold State.markEffect
  rw [if_neg hstate, if_pos hroom]

theorem State.markEffect_fifth {t : State} {d : Command} (hstate : t.composer.state ≠ .outsideJob)
    (hfull : 4 ≤ t.composer.pendingMarks.length) :
    t.markEffect d = t.work (t.endingWord [.endLine .left true, .addMark d.operand]) := by
  unfold State.markEffect
  rw [if_neg hstate, if_neg (not_lt.2 hfull)]

/-- Settles O45: PROOF by its inline byte, DISPLAY by its length, and MARK by the Composer's state and the marks pending. -/
theorem proofDisplayAndMark : Obligations.ProofDisplayAndMark := by
  refine ⟨?proof, ?display, ?mark⟩
  case proof =>
    intro s w hnext hstate
    have hends {u : State} (hu : (s.decoded w).proofEffect (s.completedBy w) = u) : EndsIn (exec .proofMode s) u :=
      State.standing_endsIn (f := fun d t => t.proofEffect d) hnext hstate (fun _ _ => by simp) hu
    have hmode := congrArg ProofUnit.mode (s.decoded_proof w)
    split
    next h => exact hends (State.proofEffect_eq (by rw [h]; rfl) hmode)
    next h => exact hends (State.proofEffect_eq (by rw [h]; rfl) hmode)
    next h => exact hends (State.proofEffect_eq (by rw [h]; rfl) hmode)
    next h0 h1 h2 =>
      refine hends (State.proofEffect_bad _ _ ?_)
      unfold proofModeOf
      split
      next h => exact absurd h h0
      next h => exact absurd h h1
      next h => exact absurd h h2
      next => rfl
  case display =>
    intro s w hnext hstate
    have hends {u : State} (hu : (s.decoded w).displayEffect (s.completedBy w) = u) : EndsIn (exec .display s) u :=
      State.standing_endsIn (f := fun d t => t.displayEffect d) hnext hstate (fun _ _ => by simp) hu
    refine ⟨fun hlong => hends (if_pos hlong), fun hshort => ?_⟩
    obtain ⟨line1, hreads, heq⟩ := State.displayEffect_eq (t := s.decoded w) hshort
      (congrArg PanelLink.outbound (s.decoded_panel w))
    refine ⟨line1, ?_, hends heq⟩
    exact hreads.congr (s.decoded_seq w).symm (s.decoded_panel w).symm (congrArg FontControl.table (s.decoded_font w)).symm
      (s.decoded_exposure w).symm (s.decoded_queue w).symm
  case mark =>
    intro s w v hnext hv
    have hends (hstate : s.composer.state ≠ .discarding) {u : State}
        (hu : (s.decoded w).markEffect (s.completedBy w) = u) : EndsIn (exec .mark s) u :=
      State.standing_endsIn (f := fun d t => t.markEffect d) hnext hstate (fun _ _ => by simp) hu
    have hsame := s.decoded_sameCopy w
    have hcount : (s.decoded w).status.markCount = s.status.markCount := by
      rw [hsame.frame.2]
    have hcomposer := hsame.composer
    have hqueue := hsame.queue
    generalize s.decoded w = t at hends hsame hcount hcomposer hqueue ⊢
    have hoperand : (s.completedBy w).operand = v := hv.symm
    generalize s.completedBy w = d at hends hoperand
    subst hoperand
    refine ⟨fun hstate hroom => ?_, fun hfull htodo => ?_, fun hout => ⟨fun hlast => ?_, fun before e hentries hphoto => ⟨fun hmarks => ?_, fun hmarks => ?_⟩⟩⟩
    · refine hends (by rcases hstate with h | h <;> rw [h] <;> decide) (State.markEffect_joins ?_ ?_ hroom)
      · rw [hcomposer]
        rcases hstate with h | h <;> rw [h] <;> decide
      · rw [hcomposer]
    · have hfifth (hstate : s.composer.state ≠ .outsideJob) := State.markEffect_fifth (t := t) (d := d)
        (by rw [hcomposer]; exact hstate) (by rw [hcomposer]; exact hfull)
      have htasks (l : List Task) : t.endingWord l = if s.composer.state = .lookahead then .breakLine false :: l else l := by
        unfold State.endingWord
        rw [hcomposer]
      refine ⟨fun hstate => ⟨fun hroom => ?_, fun hq => ?_⟩, fun hstate _ b hchoice => ?_⟩
      · have hgoes := hsame.fifthMark (v := d.operand) hstate htodo hroom rfl
        refine ⟨_, hends (by rw [hstate]; decide) ?_, hgoes.frame, hgoes.stands, hgoes.inUse, hgoes.queue, hgoes.composer,
          hgoes.intake⟩
        rw [hfifth (by rw [hstate]; decide), htasks, if_neg (by rw [hstate]; decide)]
      · have hgoes := hsame.fifthMark_full (v := d.operand) hstate htodo hq rfl
        refine ⟨_, hends (by rw [hstate]; decide) ?_, ⟨hgoes.frame, hgoes.stands⟩, hgoes.inUse, hgoes.queue, hgoes.intake,
          hgoes.composer⟩
        rw [hfifth (by rw [hstate]; decide), htasks, if_neg (by rw [hstate]; decide)]
      · intro next lines hfits hroom
        obtain ⟨u, hu, hframe, hstatus, huse, hentries, hcomp, hintake⟩ :=
          hsame.fifthMark_lookahead (v := d.operand) hstate htodo hroom hchoice rfl hfits rfl
        refine ⟨u, hends (by rw [hstate]; decide) ?_, hframe, hstatus, huse, hentries, hcomp, hintake⟩
        rw [hfifth (by rw [hstate]; decide), htasks, if_pos hstate, hu]
    all_goals
      have hmark : t.markEffect d = t.markOutside d.operand := if_pos (by rw [hcomposer]; exact hout)
      refine hends (by rw [hout]; decide) (hmark.trans ?_)
    · rw [State.markOutside_posts (by rw [hqueue]; exact hlast)]
      exact State.postMark_of_count hcount _
    · exact State.markOutside_joins (hqueue.trans hentries) hphoto hmarks
    · exact State.markOutside_holds (hqueue.trans hentries) hphoto hmarks (by rw [hcomposer]; exact hout)

end Sys2Proof.Machine
end

section
/-! PROOFS. How an ended line is set: its sums counted afresh, and the widths and positions of its items (R8 to R20). -/

namespace Sys2Proof.Machine

/-! ### The sums of a line, counted afresh (R8, R9) -/

theorem sumsFrom_concat (s : Sums) (last : Option Item) (l : List Item) (i : Item) :
    sumsFrom s last (l ++ [i]) = (sumsFrom s last l).add (l.getLast?.or last) i := by
  induction l generalizing s last with
  | nil => rfl
  | cons x l ih =>
    rw [List.cons_append, sumsFrom, ih, sumsFrom]
    cases l with
    | nil => rfl
    | cons y l => rfl

theorem sumsOf_concat (l : List Item) (i : Item) : sumsOf (l ++ [i]) = (sumsOf l).add l.getLast? i := by
  rw [sumsOf, sumsFrom_concat, Option.or_none]
  rfl

/-- The least, the normal and the greatest width of an interword space. -/
def Item.spaceWidths : Item → Option (Nat × Nat × Nat)
  | .space _ mn nrm mx => some (mn, nrm, mx)
  | _ => none

/-- The letter pairs among the items up to the one at index `j` (R9). -/
def pairsTo (items : List Item) (j : Nat) : Nat :=
  ((List.range j).filter (fun i => (items[i]?).any Item.isChar && (items[i + 1]?).any Item.isChar)).length

theorem pairsTo_succ (items : List Item) (j : Nat) : pairsTo items (j + 1) = pairsTo items j +
    if (items[j]?).any Item.isChar && (items[j + 1]?).any Item.isChar then 1 else 0 := by
  unfold pairsTo
  rw [List.range_succ, List.filter_append, List.length_append]
  cases h : ((items[j]?).any Item.isChar && (items[j + 1]?).any Item.isChar) <;> simp [h]

theorem pairsTo_append (l more : List Item) (j : Nat) (h : j < l.length) : pairsTo (l ++ more) j = pairsTo l j := by
  induction j with
  | zero => rfl
  | succ j ih =>
    rw [pairsTo_succ, pairsTo_succ, ih (by omega), List.getElem?_append_left (by omega), List.getElem?_append_left h]

theorem pairsTo_length (l : List Item) (x : Item) : pairsTo (l ++ [x]) (l.length + 1) = pairsTo (l ++ [x]) l.length := by
  rw [pairsTo_succ]
  simp

/-- An item that joins makes a pair with the last item when both are characters. -/
theorem pairsTo_concat (l : List Item) (i : Item) : pairsTo (l ++ [i]) (l ++ [i]).length = pairsTo l l.length +
    if i.isChar && l.getLast?.any Item.isChar then 1 else 0 := by
  rw [List.length_append, List.length_singleton, pairsTo_length]
  rcases List.eq_nil_or_concat l with rfl | ⟨l, x, rfl⟩
  · simp [pairsTo]
  · rw [List.concat_eq_append, List.length_append, List.length_singleton, pairsTo_length, pairsTo_succ,
      pairsTo_append _ _ _ (by simp), List.getLast?_concat, Bool.and_comm]
    simp

/-- The running sums of a line are those of its items (R8, R9). -/
theorem sumsOf_eq (items : List Item) : sumsOf items =
    { c := (items.map Item.fixedWidth).sum
      n := (items.filterMap Item.spaceWidths).length
      nrm := ((items.filterMap Item.spaceWidths).map (fun x => x.2.1)).sum
      mn := ((items.filterMap Item.spaceWidths).map (fun x => x.1)).sum
      mx := ((items.filterMap Item.spaceWidths).map (fun x => x.2.2)).sum
      g := pairsTo items items.length
      k := items.length } := by
  induction items using List.reverseRecOn with
  | nil => rfl
  | append_singleton l i ih =>
    rw [sumsOf_concat, ih, pairsTo_concat]
    cases i with
    | space | fixed | tie => simp [Sums.add, Item.spaceWidths, Item.fixedWidth, Item.isChar, List.filterMap_cons]
    | char | missing =>
      cases h : l.getLast?.any Item.isChar <;>
        simp [Sums.add, Item.spaceWidths, Item.fixedWidth, Item.isChar, List.filterMap_cons, h]

/-! ### The walk over a line (R18) -/

/-- The number of interword spaces before index `j`. -/
def spacesBefore (items : List Item) (j : Nat) : Nat := ((items.take j).filter Item.isSpace).length

theorem spacesBefore_append (before : List Item) (i : Item) (rest : List Item) :
    spacesBefore (before ++ i :: rest) (before ++ [i]).length =
      if i.isSpace then spacesBefore (before ++ i :: rest) before.length + 1
      else spacesBefore (before ++ i :: rest) before.length := by
  have htake : (before ++ i :: rest).take (before ++ [i]).length = before ++ [i] := by
    rw [show before ++ i :: rest = (before ++ [i]) ++ rest by simp, List.take_left]
  unfold spacesBefore
  rw [htake, List.take_left]
  cases hi : i.isSpace <;> simp [hi]

/-- The walk sets each item at the width `W` and the position `A`, when `A` goes on by `W` and the letterspace. -/
theorem walk_eq {share : Nat → Int} {ls : Int} {items : List Item} {W A : Nat → Int}
    (hW : ∀ j i, items[j]? = some i → W j = setWidth share (spacesBefore items j) i)
    (hA : ∀ j i, items[j]? = some i →
      A (j + 1) = A j + W j + if i.isChar && (items[j + 1]?).any Item.isChar then ls else 0) :
    ∀ rest before : List Item, items = before ++ rest →
      walk share ls (A before.length) (spacesBefore items before.length) rest =
        (rest.mapIdx (fun j i => { item := i, pos := tickOf (A (before.length + j)), width := W (before.length + j) }),
          A items.length)
  | [], before, h => by
    rw [h, List.append_nil]
    rfl
  | i :: rest, before, h => by
    have hget : items[before.length]? = some i := by simp [h]
    have hnext : items[before.length + 1]? = rest.head? := by
      rw [h, List.getElem?_append_right (by omega), Nat.add_sub_cancel_left, List.getElem?_cons_succ, List.head?_eq_getElem?]
    have htail := walk_eq hW hA rest (before ++ [i]) (by rw [h]; simp)
    have hspaces : spacesBefore items (before ++ [i]).length =
        if i.isSpace then spacesBefore items before.length + 1 else spacesBefore items before.length := by
      rw [h]
      exact spacesBefore_append before i rest
    rw [hspaces, List.length_append, List.length_singleton, hA _ i hget, hnext] at htail
    rw [walk]
    dsimp only
    rw [← hW _ i hget, htail]
    simp [List.mapIdx_cons, Nat.add_assoc, Nat.add_comm 1]

/-- The widths add up to the items' own and the shares of the spaces. -/
theorem sum_widths {share : Nat → Int} {items : List Item} {W : Nat → Int}
    (hW : ∀ j i, items[j]? = some i → W j = setWidth share (spacesBefore items j) i) (k : Nat) (hk : k ≤ items.length) :
    ((List.range k).map W).sum = (((items.take k).map Item.naturalWidth).sum : Nat)
      + ((List.range (spacesBefore items k)).map share).sum := by
  induction k with
  | zero => simp [spacesBefore]
  | succ k ih =>
    have hget : items[k]? = some items[k] := List.getElem?_eq_getElem (by omega)
    have htake : items.take (k + 1) = items.take k ++ [items[k]] := by
      rw [List.take_add_one, hget]
      rfl
    have hspaces : spacesBefore items (k + 1) = spacesBefore items k + if items[k].isSpace then 1 else 0 := by
      unfold spacesBefore
      rw [htake, List.filter_append, List.length_append]
      cases h : items[k].isSpace <;> simp [h]
    rw [List.range_succ, List.map_append, List.sum_append, ih (by omega), htake, List.map_append, List.sum_append, hspaces]
    simp only [List.map_cons, List.map_nil, List.sum_singleton, hW k _ hget]
    cases h : items[k] with
    | space => simp [Item.isSpace, Item.naturalWidth, setWidth, List.range_succ]; omega
    | _ => simp [Item.isSpace, Item.naturalWidth, setWidth, Item.fixedWidth]; omega

end Sys2Proof.Machine
end

section
/-! PROOFS. QUAD, and how any line that is ended is set (R11 to R20, R93). -/

namespace Sys2Proof.Machine

theorem Item.hasMark_eq (i : Item) (f : Attr → Bool) : i.hasMark f = i.attr?.any f := by
  cases i <;> rfl

/-- A line is set from its sums (R12 to R18). -/
theorem setLine_eq {l : Line} {items : List Item} {a al : Align} {overset : Bool} {S : Sums} {extra ls start : Int}
    {share : Nat → Int} (hS : sumsOf items = S) (hextra : extraOf l.measure S = extra) (hal : alignSet a overset extra = al)
    (hls : (if al = .justify then letterspace S l.limitFine extra else 0) = ls)
    (hshare : (if al = .justify ∧ 0 < S.n then spaceShare (extra - ls * S.g) S.n else fun _ => 0) = share)
    (hstart : startOffset al extra = start) :
    setLine (l.over items) a overset =
      { align := al, items := (walk share ls start 0 items).1, edge := (walk share ls start 0 items).2,
        loose := decide (al = .justify ∧ if 0 < S.n then S.stretch < extra else 0 < extra - ls * S.g),
        tight := decide (al = .justify ∧ 0 < S.n ∧ extra < 0) } := by
  subst hS hextra hal hls hshare hstart
  rfl

/-- The share of the `j`-th space, when there are spaces (R14). -/
theorem spaceShare_eq (left : Int) (n j : Nat) :
    spaceShare left n j = left / n + if (j : Int) < left % n then 1 else 0 := by
  unfold spaceShare
  dsimp only
  rw [sub_floor_mul_eq_emod]
  split <;> omega

theorem length_spaceWidths (items : List Item) : (items.filterMap Item.spaceWidths).length = (items.filter Item.isSpace).length := by
  induction items with
  | nil => rfl
  | cons i items ih => cases i <;> simp [List.filterMap_cons, List.filter_cons, Item.spaceWidths, Item.isSpace, ih]

theorem sum_naturalWidth (items : List Item) : (items.map Item.naturalWidth).sum =
    (items.map Item.fixedWidth).sum + ((items.filterMap Item.spaceWidths).map (fun x => x.2.1)).sum := by
  induction items with
  | nil => rfl
  | cons i items ih =>
    cases i <;> simp [List.filterMap_cons, Item.spaceWidths, Item.naturalWidth, Item.fixedWidth, ih] <;> omega

theorem stripSpaces_spec (items : List Item) : ∃ tail, items = stripSpaces items ++ tail ∧ (∀ x ∈ tail, x.isSpace = true)
    ∧ ∀ x, (stripSpaces items).getLast? = some x → x.isSpace = false := by
  have hstrip : stripSpaces items = items.rdropWhile Item.isSpace := rfl
  refine ⟨items.rtakeWhile Item.isSpace, ?_, fun x hx => List.mem_rtakeWhile_imp hx, fun x hx => ?_⟩
  · rw [hstrip, List.rdropWhile, List.rtakeWhile, ← List.reverse_append, List.takeWhile_append_dropWhile,
      List.reverse_reverse]
  · rw [hstrip] at hx
    have hne : items.rdropWhile Item.isSpace ≠ [] := by
      rintro h
      simp [h] at hx
    have hlast := List.rdropWhile_last_not Item.isSpace items hne
    rw [List.getLast?_eq_some_getLast hne, Option.some.injEq] at hx
    rw [← hx]
    simpa using hlast

/-! ### QUAD (R93) -/

section
variable {s t : State} {a : Align} {e : LineEntry}

/-- The Composer after a line is ended, with nothing else in hand, and its entry is queued. -/
theorem State.ended_accepted (htodo : s.composer.todo = [])
    (he : s.endedLine s.composer.line (nextCount s.intake.job.linesSet) a = e) :
    (s.composer.ended []).accepted (.line e) = { s.composer with
      line := Line.empty, noFont := false, word := WordRun.none, pendingMarks := [], ladder := 0 } := by
  have hladder := ladderAfter_endedLine s s.composer.line (nextCount s.intake.job.linesSet) a s.composer.ladder
  rw [he] at hladder
  rw [← hladder]
  exact Composer.todo_eq htodo (fun c => { c with
    line := Line.empty, noFont := false, word := WordRun.none, pendingMarks := [],
    ladder := ladderAfter s.composer.ladder [e] }) fun _ => rfl

/-- A line ended with its entry queued. -/
theorem State.endLine_goes (hstate : s.composer.state = .setting) (htodo : s.composer.todo = []) (hroom : s.queue.length < 6)
    {always : Bool} (h : always = true ∨ stripSpaces s.composer.line.items ≠ [])
    (he : s.endedLine s.composer.line (nextCount s.intake.job.linesSet) a = e) :
    Goes [e] s (s.work [.endLine a always])
      { s.composer with
        line := Line.empty, noFont := false, word := WordRun.none, pendingMarks := [], ladder := 0 }
      (s.intake.accepted (.line e)) (s.queue ++ [s.entryFor (.line e)]) := by
  obtain ⟨t, hend⟩ := State.does_endLine_offer (s := s.given [.endLine a always]) (State.composerWaits_false (.inl hstate)) rfl
    h hroom he
  have hgoes := hend.work htodo (by omega) (.inl rfl)
  exact { hgoes with composer := hgoes.composer.trans (State.ended_accepted htodo he) }

/-- A line ended with its entry held. -/
theorem State.endLine_goes_full (hstate : s.composer.state = .setting) (htodo : s.composer.todo = [])
    (hfull : 6 ≤ s.queue.length) {always : Bool} (h : always = true ∨ stripSpaces s.composer.line.items ≠ [])
    (he : s.endedLine s.composer.line (nextCount s.intake.job.linesSet) a = e) :
    Goes [] s (s.work [.endLine a always])
      { s.composer with
        line := Line.empty, noFont := false, word := WordRun.none, state := .queueWait, held := some (.entry (.line e)) }
      s.intake s.queue := by
  obtain ⟨t, hend⟩ := State.does_endLine_offer_full (s := s.given [.endLine a always]) (State.composerWaits_false (.inl hstate))
    rfl h hfull he
  have hgoes := hend.work htodo (by omega) (.inl rfl)
  have hcomposer := Composer.todo_eq htodo (fun c => { c with
    line := Line.empty, noFont := false, word := WordRun.none, state := .queueWait, held := some (.entry (.line e)) })
    fun _ => rfl
  exact { hgoes with composer := hgoes.composer.trans hcomposer }

theorem SameCopy.endLine_goes (h : SameCopy s t) (hstate : s.composer.state = .setting) (htodo : s.composer.todo = [])
    (hroom : s.queue.length < 6) (he : s.endedLine s.composer.line (nextCount s.intake.job.linesSet) a = e) :
    Goes [e] s (t.work [.endLine a true])
      { s.composer with
        line := Line.empty, noFont := false, word := WordRun.none, pendingMarks := [], ladder := 0 }
      { t.intake with job.linesSet := nextCount s.intake.job.linesSet } (s.queue ++ [s.entryFor (.line e)]) := by
  have hgoes := State.endLine_goes (s := t) (a := a) (e := e) (by rw [h.composer]; exact hstate) (by rw [h.composer]; exact htodo)
    (by rw [h.queue]; exact hroom) (.inl rfl) (by rw [h.endedLine, h.composer, h.linesSet]; exact he)
  rw [h.composer, h.queue, h.entryFor, h.accepted_line] at hgoes
  exact hgoes.after h.frame

theorem SameCopy.endLine_goes_full (h : SameCopy s t) (hstate : s.composer.state = .setting) (htodo : s.composer.todo = [])
    (hfull : 6 ≤ s.queue.length) (he : s.endedLine s.composer.line (nextCount s.intake.job.linesSet) a = e) :
    Goes [] s (t.work [.endLine a true])
      { s.composer with
        line := Line.empty, noFont := false, word := WordRun.none, state := .queueWait, held := some (.entry (.line e)) }
      t.intake s.queue := by
  have hgoes := State.endLine_goes_full (s := t) (a := a) (e := e) (by rw [h.composer]; exact hstate) (by rw [h.composer]; exact htodo)
    (by rw [h.queue]; exact hfull) (.inl rfl) (by rw [h.endedLine, h.composer, h.linesSet]; exact he)
  rw [h.composer, h.queue] at hgoes
  exact hgoes.after h.frame

end

theorem State.quadEffect_eq {t : State} {d : Command} {a : Align} (h : quadAlign d.inline = some a)
    (hstate : t.composer.state = .setting) : t.quadEffect d = t.work [.endLine a true] := by
  unfold State.quadEffect
  rw [h]
  dsimp only
  rw [State.endingWord_working (by rw [hstate]; decide)]

theorem State.quadEffect_bad {t : State} {d : Command} (h : 3 < d.inline) :
    t.quadEffect d = t.copyError .badOperand d.offset := by
  have hnone : quadAlign d.inline = none := by
    unfold quadAlign
    split
    all_goals grind
  unfold State.quadEffect
  rw [hnone]
  rfl

/-- Settles O40: QUAD ends the line, and how an ended line is set is read off the walk over its items. -/
theorem quadEndsTheLine : Obligations.QuadEndsTheLine := by
  refine ⟨?quad, ?bad, stripSpaces_spec, ?set, fun _ _ _ _ _ _ => rfl⟩
  case quad =>
    intro s w a hnext ⟨hstate, htodo⟩ hquad
    have hends {u : State} (hu : (s.decoded w).quadEffect (s.completedBy w) = u) : EndsIn (exec .quad s) u :=
      State.jobInside_endsIn (f := fun d t => t.quadEffect d) hnext (.inl hstate) (fun _ _ => by simp) hu
    have hsame := s.decoded_sameCopy w
    have heffect := State.quadEffect_eq (t := s.decoded w) hquad (by rw [hsame.composer]; exact hstate)
    refine ⟨fun hroom => ?_, fun hfull => ?_⟩
    · have hgoes := hsame.endLine_goes hstate htodo hroom rfl (a := a)
      exact ⟨_, hends heffect, hgoes.frame, hgoes.stands, hgoes.inUse, hgoes.queue, hgoes.composer, hgoes.intake⟩
    · have hgoes := hsame.endLine_goes_full hstate htodo hfull rfl (a := a)
      exact ⟨_, hends heffect, ⟨hgoes.frame, hgoes.stands⟩, hgoes.inUse, hgoes.queue, hgoes.intake, hgoes.composer⟩
  case bad =>
    intro s w hnext hstate hbad
    exact State.jobInside_endsIn (f := fun d t => t.quadEffect d) hnext hstate (fun _ _ => by simp) (State.quadEffect_bad hbad)
  case set =>
    intro job number l items a overset hyphenated loose spaces n mn nrm mx c pairs g extra stretch limit al ls left start
      width at' edge
    have hspaces : spaces = items.filterMap Item.spaceWidths := by
      refine congrArg (items.filterMap ·) (funext fun i => ?_)
      cases i <;> rfl
    have hS : sumsOf items = { c := c, n := n, nrm := nrm, mn := mn, mx := mx, g := g, k := items.length } := by
      rw [sumsOf_eq, ← hspaces]
      rfl
    have hextra : extraOf l.measure { c := c, n := n, nrm := nrm, mn := mn, mx := mx, g := g, k := items.length } = extra := rfl
    have hal : alignSet a overset extra = al := rfl
    have hlimit : (l.limitFine : Int) = limit := by
      cases hg : l.gov <;> simp [Line.limitFine, limit, hg, fine]
    have hls : (if al = .justify then letterspace
        { c := c, n := n, nrm := nrm, mn := mn, mx := mx, g := g, k := items.length } l.limitFine extra else 0) = ls := by
      show _ = if al ≠ .justify then 0 else _
      rw [← hlimit]
      unfold letterspace
      by_cases hj : al = .justify
      · rw [if_pos hj, if_neg (not_not.2 hj)]
        simp only [Int.natCast_pos]
        rfl
      · rw [if_neg hj, if_pos hj]
    have hstart : startOffset al extra = start := by
      show _ = match al with
        | .left | .justify => 0
        | .right => extra
        | .centre => extra / 2
      cases al <;> rfl
    have hcount : n = (items.filter Item.isSpace).length := by
      show spaces.length = _
      rw [hspaces, length_spaceWidths]
    generalize hshare : (if al = .justify ∧ 0 < n then spaceShare left n else fun _ => (0 : Int)) = share
    have hset := setLine_eq (a := a) (overset := overset) hS hextra hal hls hshare hstart
    have hW : ∀ j i, items[j]? = some i → width j = setWidth share (spacesBefore items j) i := by
      intro j i hget
      simp only [width, hget]
      cases i with
      | space size lo w hi =>
        have hn : 0 < n := by
          rw [hcount]
          exact List.length_pos_of_mem (List.mem_filter.2 ⟨List.mem_of_getElem? hget, rfl⟩)
        dsimp only
        by_cases hj : al = .justify
        · have hspread : share = spaceShare left n := hshare.symm.trans (if_pos ⟨hj, hn⟩)
          rw [if_pos hj, hspread]
          show _ = (w : Int) + spaceShare left n (spacesBefore items j)
          rw [spaceShare_eq, Int.add_assoc]
          rfl
        · have hnone : share = fun _ => 0 := hshare.symm.trans (if_neg fun h => hj h.1)
          rw [if_neg hj, hnone]
          exact (Int.add_zero _).symm
      | _ => rfl
    have hA : ∀ j i, items[j]? = some i →
        at' (j + 1) = at' j + width j + if i.isChar && (items[j + 1]?).any Item.isChar then ls else 0 := by
      intro j i hget
      show start + ((List.range (j + 1)).map width).sum + ls * (pairsTo items (j + 1) : Nat) =
        start + ((List.range j).map width).sum + ls * (pairsTo items j : Nat) + width j + _
      rw [List.range_succ, List.map_append, List.sum_append, pairsTo_succ, hget, Option.any_some, List.map_singleton,
        List.sum_singleton]
      split
      · rw [Nat.cast_add, Int.mul_add]
        simp only [Nat.cast_one]
        omega
      · simp only [Nat.add_zero]
        omega
    have hstart0 : at' 0 = start := by
      show start + 0 + ls * ((0 : Nat) : Int) = start
      simp
    have hwalk := walk_eq (share := share) (ls := ls) hW hA items [] rfl
    rw [List.length_nil, hstart0] at hwalk
    simp only [Nat.zero_add] at hwalk
    rw [show spacesBefore items 0 = 0 from rfl] at hwalk
    rw [hwalk] at hset
    have hedge : edge = at' items.length := congrArg Setting.edge hset
    refine ⟨hS, ?_, hedge, fun hj hn => ?_⟩
    · have hmark (f : Attr → Bool) : items.any (Item.hasMark f) = items.any (fun i => i.attr?.any f) :=
        congrArg (items.any ·) (funext fun i => i.hasMark_eq f)
      unfold lineEntry
      rw [hset, ← hmark (·.fontSub), ← hmark (·.sizeSub)]
      rfl
    · have hspread : spacesBefore items items.length = n := by
        rw [hcount, spacesBefore, List.take_length]
      have hnatural : (items.map Item.naturalWidth).sum = c + nrm := by
        rw [sum_naturalWidth, ← hspaces]
      have hwidths := sum_widths hW items.length le_rfl
      rw [List.take_length, hspread, hnatural, ← hshare, if_pos ⟨hj, hn⟩, sum_spaceShare_all left n hn] at hwidths
      have hzero : start = 0 := by
        rw [← hstart, hj]
        rfl
      have hleft : left = extra - ls * (g : Int) := rfl
      have hmeasure : extra = (l.measure * 32 : Nat) - (c + nrm : Nat) := rfl
      have hat : at' items.length = start + ((List.range items.length).map width).sum + ls * (g : Int) := rfl
      rw [hedge, hat, hwidths, hzero, hleft]
      omega

end Sys2Proof.Machine
end

section
/-! PROOFS. Interword spaces, ties and fixed spaces (R2, R3, R22 to R24). -/

namespace Sys2Proof.Machine

theorem State.consume_sameCopy (s : State) (w : Word) : SameCopy s (s.consume w) := by
  obtain ⟨_, _, _, sum, h⟩ := State.consume_intake s w
  have hreach : Reaches [] s (s.consume w) s.composer (s.consume w).intake s.queue :=
    ⟨(s.consume_copyFrame w).1, s.consume_composer w, rfl, s.consume_queue w⟩
  have hjob := (congrArg Intake.job h :)
  exact ⟨s.consume_copyFrame w, s.consume_composer w, s.consume_queue w,
    hreach.entryFor (congrArg JobState.inProgress hjob :) (congrArg JobState.number hjob :) (congrArg JobState.serial hjob :),
    (congrArg JobState.flags hjob :), (congrArg JobState.inProgress hjob :), (congrArg JobState.number hjob :),
    (congrArg JobState.serial hjob :), (congrArg JobState.linesSet hjob :)⟩

/-! ### A token given to the Composer -/

section
variable {s : State} {tok : Token} {lines : List LineEntry} {c : Composer} {i : Intake} {q : List Entry}

theorem State.given_nil (htodo : s.composer.todo = []) : s.given [] = s := by
  unfold State.given
  rw [← htodo]

theorem State.works_token (hwaits : s.composerWaits = false) (htodo : s.composer.todo = []) :
    State.Works 1 (s.given [.token tok]) (s.takeToken tok) := by
  refine .step hwaits rfl ?_
  have hgiven := State.given_nil htodo
  exact congrArg (State.takeToken · tok) hgiven

theorem State.push_given (htodo : s.composer.todo = []) (l : List Task) : s.push l = s.given l := by
  unfold State.push
  rw [htodo, List.append_nil]

/-- A token that leaves work to do. -/
theorem State.work_after_token {n : Nat} {t u : State} (hwaits : s.composerWaits = false) (htodo : s.composer.todo = [])
    (htake : s.takeToken tok = u) (hframe : CopyFrame s u) (h : Does n lines u t c i q) (hn : n ≤ 63)
    (hend : c.todo = [] ∨ c.state = .queueWait) : Goes lines s (s.work [.token tok]) c i q := by
  subst htake
  have hwork := (State.works_token (tok := tok) hwaits htodo).trans h.works
  have hrun : s.work [.token tok] = t.refreshInUse := by
    rw [State.work_eq htodo]
    rcases hend with hnil | hwait
    · exact hwork.runTasks_of_nil (by omega) (by rw [h.composer]; exact hnil)
    · exact hwork.runTasks_of_waits (by omega) (State.composerWaits_queueWait (by rw [h.composer]; exact hwait))
  rw [hrun]
  have hreach := h.toReaches.refreshInUse
  exact { hreach with
    frame := hframe.lineFrame hreach.frame
    stands := (hframe.2.trans h.stands).trans (State.refreshInUse_copyFrame _).2
    inUse := State.refreshInUse_upToDate _ }

/-- A token that leaves nothing to do, or that begins a wait. -/
theorem State.token_goes {u : State} (hwaits : s.composerWaits = false) (htodo : s.composer.todo = [])
    (htake : s.takeToken tok = u) (h : Reaches lines s u c i q) (hstands : StatusStands s u)
    (hend : c.todo = [] ∨ u.composerWaits = true) : Goes lines s (s.work [.token tok]) c i q := by
  subst htake
  have hwork := State.works_token (tok := tok) hwaits htodo
  have hrun : s.work [.token tok] = (s.takeToken tok).refreshInUse := by
    rw [State.work_eq htodo]
    rcases hend with hnil | hwait
    · exact hwork.runTasks_of_nil (by omega) (by rw [h.composer]; exact hnil)
    · exact hwork.runTasks_of_waits (by omega) hwait
  rw [hrun]
  exact { h.refreshInUse with
    stands := hstands.trans (State.refreshInUse_copyFrame _).2, inUse := State.refreshInUse_upToDate _ }

end

/-! ### An item joins the line (R8, R49, R56) -/

/-- The copy's record after an item is made. -/
def Intake.withItem (i : Intake) (fontSub sizeSub : Bool) : Intake :=
  { i with job.flags := { i.job.flags with
      fontSub := i.job.flags.fontSub || fontSub, sizeSub := i.job.flags.sizeSub || sizeSub } }

theorem State.joinItem_reaches (s : State) (i : Item) :
    Reaches [] s (s.joinItem i) (s.composer.join i) (s.intake.withItem (i.attr?.any (·.fontSub)) s.composer.sizeSub) s.queue
      ∧ StatusStands s (s.joinItem i) := by
  have hframe := CopyFrame.composer s (s.composer.join i)
    { s.intake.job with flags := s.intake.job.flags.withItem (i.attr?.any (·.fontSub)) s.composer.sizeSub } s.queue
  have hjoin : Reaches [] s { s with
      composer := s.composer.join i
      intake.job.flags := s.intake.job.flags.withItem (i.attr?.any (·.fontSub)) s.composer.sizeSub } (s.composer.join i)
      (s.intake.withItem (i.attr?.any (·.fontSub)) s.composer.sizeSub) s.queue := ⟨hframe.1, rfl, rfl, rfl⟩
  exact ⟨hjoin.refreshInUse, hframe.2.trans (State.refreshInUse_copyFrame _).2⟩

section
variable {s : State} {g : GovFont} {i : Item} {tok : Token}

theorem State.prepareLine_eq (hitems : s.composer.line.items ≠ []) (hgov : s.composer.line.gov ≠ none) : s.prepareLine = s := by
  have hempty : s.composer.line.items.isEmpty = false := by simpa using hitems
  have hnone : s.composer.line.gov.isNone = false := by
    rw [Option.isNone_eq_false_iff, Option.isSome_iff_ne_none]
    exact hgov
  unfold State.prepareLine
  dsimp only
  rw [hempty, hnone]
  rfl

theorem Line.overflows_eq_false {l : Line} {w : Nat} (hfits : l.sums.minWidth + w ≤ l.measure * 32) (hk : l.sums.k < 160) :
    l.overflows w = false := by
  unfold Line.overflows measureFine itemLimit
  simp
  omega

theorem State.spaceItem_eq (hgov : s.composer.line.gov = some g) : s.spaceItem = some (.space s.composer.lensSize
    (g.min * s.composer.lensSize * 5) (g.normal * s.composer.lensSize * 5) (g.max * s.composer.lensSize * 5)) := by
  unfold State.spaceItem
  rw [hgov]
  rfl

/-- In SETTING a token is taken by its kind. -/
theorem State.takeToken_setting (hstate : s.composer.state = .setting) : s.takeToken .space = s.setSpace
    ∧ (∀ off, s.takeToken (.tie off) = s.setTie off) ∧ (∀ units, s.takeToken (.fixed units) = s.setFixed units)
    ∧ ∀ c off, s.takeToken (.char c off) = s.setChar c off := by
  have hlook : ¬ s.composer.state = .lookahead := by rw [hstate]; decide
  refine ⟨?_, fun off => ?_, fun units => ?_, fun c off => ?_⟩ <;> simp [State.takeToken, hlook]

/-- A space, a tie or a fixed space that does not overflow the line joins it. -/
theorem State.setSpace_joins (hitems : s.composer.line.items ≠ []) (hgov : s.composer.line.gov = some g)
    (hk : s.composer.line.sums.k < 160)
    (hfits : s.composer.line.sums.minWidth + g.min * s.composer.lensSize * 5 ≤ s.composer.line.measure * 32) :
    s.setSpace = s.joinItem (.space s.composer.lensSize
      (g.min * s.composer.lensSize * 5) (g.normal * s.composer.lensSize * 5) (g.max * s.composer.lensSize * 5)) := by
  unfold State.setSpace
  rw [if_neg (mt List.isEmpty_iff.1 hitems), State.prepareLine_eq hitems (by rw [hgov]; exact Option.some_ne_none g)]
  dsimp only
  rw [State.spaceItem_eq hgov]
  exact if_neg (by rw [Bool.not_eq_true]; exact Line.overflows_eq_false hfits hk)

theorem State.addOther_joins (hk : s.composer.line.sums.k < 160)
    (hfits : s.composer.line.sums.minWidth + i.minAdded ≤ s.composer.line.measure * 32) : s.addOther tok i = s.joinItem i := by
  unfold State.addOther
  exact if_neg (by rw [Bool.not_eq_true]; exact Line.overflows_eq_false hfits hk)

theorem State.setTie_joins (hitems : s.composer.line.items ≠ []) (hgov : s.composer.line.gov = some g)
    (hk : s.composer.line.sums.k < 160)
    (hfits : s.composer.line.sums.minWidth + g.normal * s.composer.lensSize * 5 ≤ s.composer.line.measure * 32) (off : Nat) :
    s.setTie off = s.joinItem (.tie s.composer.lensSize (g.normal * s.composer.lensSize * 5)) := by
  have hnormal : s.bandNormal = g.normal * s.composer.lensSize * 5 := by
    unfold State.bandNormal
    rw [hgov]
    rfl
  unfold State.setTie
  rw [hgov, Option.isNone_some, Bool.and_false, if_neg (by decide),
    State.prepareLine_eq hitems (by rw [hgov]; exact Option.some_ne_none g)]
  dsimp only
  rw [hnormal]
  exact State.addOther_joins hk hfits

theorem State.setFixed_joins (hitems : s.composer.line.items ≠ []) (hk : s.composer.line.sums.k < 160) {units : Nat}
    (hfits : s.composer.line.sums.minWidth + units * s.composer.lensSize * 5 ≤ s.composer.line.measure * 32) :
    s.setFixed units = s.joinItem (.fixed units s.composer.lensSize (units * s.composer.lensSize * 5)) := by
  unfold State.setFixed
  rw [if_neg (mt List.isEmpty_iff.1 hitems)]
  exact State.addOther_joins hk hfits

/-- A space that overflows the line ends it. -/
theorem State.setSpace_ends (hitems : s.composer.line.items ≠ []) (hgov : s.composer.line.gov = some g)
    (hover : s.composer.line.measure * 32 < s.composer.line.sums.minWidth + g.min * s.composer.lensSize * 5
      ∨ 160 ≤ s.composer.line.sums.k) : s.setSpace = s.push [.endLine .justify false] := by
  unfold State.setSpace
  rw [if_neg (mt List.isEmpty_iff.1 hitems), State.prepareLine_eq hitems (by rw [hgov]; exact Option.some_ne_none g)]
  dsimp only
  rw [State.spaceItem_eq hgov]
  refine if_pos ?_
  unfold Line.overflows
  rw [Bool.or_eq_true, decide_eq_true_iff, decide_eq_true_iff]
  exact hover

end

/-- An item that carries no mark and is no letter joins the line. -/
theorem SameCopy.joins {s t : State} (h : SameCopy s t) (hwaits : s.composerWaits = false) (htodo : s.composer.todo = [])
    {tok : Token} {i : Item} (htake : t.takeToken tok = t.joinItem i) (hattr : i.attr? = none)
    (hletter : i.isLetterItem = false) :
    Goes [] s (t.work [.token tok])
      { s.composer with
        line := { s.composer.line with
          items := s.composer.line.items ++ [i]
          sums := s.composer.line.sums.add s.composer.line.items.getLast? i }
        word := WordRun.none }
      { t.intake with job.flags.sizeSub := s.intake.job.flags.sizeSub || s.composer.sizeSub } s.queue := by
  obtain ⟨hreach, hstands⟩ := t.joinItem_reaches i
  rw [hattr, h.composer, h.queue] at hreach
  have hgoes := State.token_goes ((State.composerWaits_congr (congrArg Composer.state h.composer)).trans hwaits)
    (by rw [h.composer]; exact htodo) htake hreach hstands (.inl htodo)
  have hword : s.composer.word.after i = WordRun.none := if_neg (by rw [hletter]; decide)
  have hcomposer : s.composer.join i = { s.composer with
      line := { s.composer.line with
        items := s.composer.line.items ++ [i]
        sums := s.composer.line.sums.add s.composer.line.items.getLast? i }
      word := WordRun.none } := by
    rw [← hword]
    rfl
  have hintake : t.intake.withItem ((none : Option Attr).any (·.fontSub)) s.composer.sizeSub =
      { t.intake with job.flags.sizeSub := s.intake.job.flags.sizeSub || s.composer.sizeSub } := by
    unfold Intake.withItem
    rw [← h.flags, Option.any_none, Bool.or_false]
  rw [hcomposer, hintake] at hgoes
  exact hgoes.after h.frame

/-! ### The three words of the copy -/

section
variable {s u : State} {w : Word}

theorem State.space_endsIn (hnext : WordNext s 0x20) (hstate : s.composer.state = .setting ∨ s.composer.state = .lookahead)
    (hu : (s.consume 0x20).work [.token .space] = u) : EndsIn (exec .interwordSpace s) u :=
  State.textInside_endsIn (f := fun _ _ t => t.work [.token .space]) hnext (by decide) hstate (fun _ => by simp) hu

theorem State.tie_endsIn (hnext : WordNext s 0x1F) (hstate : s.composer.state = .setting ∨ s.composer.state = .lookahead)
    (hu : (s.consume 0x1F).work [.token (.tie s.intake.consumeOffset)] = u) : EndsIn (exec .tie s) u :=
  State.textInside_endsIn (f := fun _ off t => t.work [.token (.tie off)]) hnext (by decide) hstate (fun _ => by simp) hu

theorem State.fixspace_endsIn (hnext : CommandNext s .fixspace w)
    (hstate : s.composer.state = .setting ∨ s.composer.state = .lookahead)
    (hlow : 1 ≤ (s.completedBy w).inline) (hhigh : (s.completedBy w).inline ≤ 127)
    (hu : (s.decoded w).work [.token (.fixed (s.completedBy w).inline)] = u) : EndsIn (exec .fixspace s) u :=
  State.jobInside_endsIn (f := fun d t => t.fixspaceEffect d) hnext hstate (fun _ _ => by simp)
    ((if_pos (by rw [Bool.and_eq_true, decide_eq_true_iff, decide_eq_true_iff]; exact ⟨hlow, hhigh⟩)).trans hu)

end

/-- A space at the head of a line is dropped, and ends the word (R2). -/
theorem State.setSpace_drops {s : State} (hitems : s.composer.line.items = []) :
    s.setSpace = { s with composer.word := WordRun.none } := if_pos (List.isEmpty_iff.2 hitems)

/-- A space that overflows the line is dropped, and ends it JUSTIFY (R24). -/
theorem State.work_space_ends {s : State} {g : GovFont} {e : LineEntry} (hstate : s.composer.state = .setting)
    (htodo : s.composer.todo = []) (hroom : s.queue.length < 6) (hgov : s.composer.line.gov = some g)
    (hitems : stripSpaces s.composer.line.items ≠ [])
    (hover : s.composer.line.measure * 32 < s.composer.line.sums.minWidth + g.min * s.composer.lensSize * 5
      ∨ 160 ≤ s.composer.line.sums.k)
    (he : s.endedLine s.composer.line (nextCount s.intake.job.linesSet) .justify = e) :
    Goes [e] s (s.work [.token .space])
      { s.composer with
        line := Line.empty, noFont := false, word := WordRun.none, pendingMarks := [], ladder := 0 }
      (s.intake.accepted (.line e)) (s.queue ++ [s.entryFor (.line e)]) := by
  have hne : s.composer.line.items ≠ [] := by
    rintro h
    exact hitems (by rw [h]; rfl)
  have htake : s.takeToken .space = s.given [.endLine .justify false] := by
    rw [(State.takeToken_setting hstate).1, State.setSpace_ends hne hgov hover, State.push_given htodo]
  have hwaits : s.composerWaits = false := State.composerWaits_false (.inl hstate)
  obtain ⟨t, hend⟩ := State.does_endLine_offer (s := s.given [.endLine .justify false]) hwaits rfl (.inr hitems) hroom he
  have hgoes := State.work_after_token hwaits htodo htake (s.given_copyFrame _) hend (by omega) (.inl rfl)
  exact { hgoes with composer := hgoes.composer.trans (State.ended_accepted htodo he) }

theorem SameCopy.space_ends {s t : State} (h : SameCopy s t) {g : GovFont} {e : LineEntry}
    (hstate : s.composer.state = .setting) (htodo : s.composer.todo = []) (hroom : s.queue.length < 6)
    (hgov : s.composer.line.gov = some g) (hitems : stripSpaces s.composer.line.items ≠ [])
    (hover : s.composer.line.measure * 32 < s.composer.line.sums.minWidth + g.min * s.composer.lensSize * 5
      ∨ 160 ≤ s.composer.line.sums.k)
    (he : s.endedLine s.composer.line (nextCount s.intake.job.linesSet) .justify = e) :
    Goes [e] s (t.work [.token .space])
      { s.composer with
        line := Line.empty, noFont := false, word := WordRun.none, pendingMarks := [], ladder := 0 }
      { t.intake with job.linesSet := nextCount s.intake.job.linesSet } (s.queue ++ [s.entryFor (.line e)]) := by
  have hgoes := State.work_space_ends (s := t) (g := g) (e := e) (by rw [h.composer]; exact hstate)
    (by rw [h.composer]; exact htodo) (by rw [h.queue]; exact hroom) (by rw [h.composer]; exact hgov)
    (by rw [h.composer]; exact hitems) (by rw [h.composer]; exact hover)
    (by rw [h.endedLine, h.composer, h.linesSet]; exact he)
  rw [h.composer, h.queue, h.entryFor, h.accepted_line] at hgoes
  exact hgoes.after h.frame

/-- A space at the head of a line (R2). -/
theorem SameCopy.space_drops {s t : State} (h : SameCopy s t) (hstate : s.composer.state = .setting)
    (htodo : s.composer.todo = []) (hitems : s.composer.line.items = []) :
    Goes [] s (t.work [.token .space]) { s.composer with word := WordRun.none } t.intake s.queue := by
  have htake : t.takeToken .space = { t with composer.word := WordRun.none } := by
    rw [(State.takeToken_setting (by rw [h.composer]; exact hstate)).1]
    exact State.setSpace_drops (by rw [h.composer]; exact hitems)
  have hframe := CopyFrame.composer t { t.composer with word := WordRun.none } t.intake.job t.queue
  have hgoes := State.token_goes (s := t) (tok := .space) (c := { t.composer with word := WordRun.none }) (i := t.intake)
    (q := t.queue) (State.composerWaits_false (.inl (by rw [h.composer]; exact hstate))) (by rw [h.composer]; exact htodo)
    htake ⟨hframe.1, rfl, rfl, rfl⟩ hframe.2 (.inl (by rw [h.composer]; exact htodo))
  rw [h.composer, h.queue] at hgoes
  exact hgoes.after h.frame

/-- Settles O37: the item each of the three words makes, and the two spaces that are dropped. -/
theorem spacesJoinTheLine : Obligations.SpacesJoinTheLine := by
  refine ⟨?joins, ?head, ?ends⟩
  case joins =>
    intro s g w c i u ⟨hstate, htodo⟩ hitems hgov hk hcase
    have hwaits : s.composerWaits = false := State.composerWaits_false (.inl hstate)
    suffices h : ∃ t, EndsIn (exec c s) t ∧ Goes [] s t
        { s.composer with
          line := { s.composer.line with
            items := s.composer.line.items ++ [i]
            sums := s.composer.line.sums.add s.composer.line.items.getLast? i }
          word := WordRun.none }
        { u.intake with job.flags.sizeSub := s.intake.job.flags.sizeSub || s.composer.sizeSub } s.queue by
      obtain ⟨t, hends, hgoes⟩ := h
      exact ⟨t, hends, ⟨hgoes.frame, hgoes.stands⟩, hgoes.queue, hgoes.inUse, hgoes.intake, hgoes.composer⟩
    rcases hcase with ⟨hnext, rfl, rfl, rfl, rfl, hfits⟩ | ⟨hnext, rfl, rfl, rfl, rfl, hfits⟩
      | ⟨hnext, rfl, rfl, hlow, hhigh, rfl, hfits⟩
    · refine ⟨_, State.space_endsIn hnext (.inl hstate) rfl, (s.consume_sameCopy _).joins hwaits htodo ?_ rfl rfl⟩
      have hcomposer := s.consume_composer 0x20
      generalize s.consume 0x20 = t at hcomposer ⊢
      rw [← hcomposer] at hitems hgov hk hfits hstate ⊢
      exact (State.takeToken_setting hstate).1.trans (State.setSpace_joins hitems hgov hk hfits)
    · refine ⟨_, State.tie_endsIn hnext (.inl hstate) rfl, (s.consume_sameCopy _).joins hwaits htodo ?_ rfl rfl⟩
      have hcomposer := s.consume_composer 0x1F
      generalize s.consume 0x1F = t at hcomposer ⊢
      rw [← hcomposer] at hitems hgov hk hfits hstate ⊢
      exact ((State.takeToken_setting hstate).2.1 _).trans (State.setTie_joins hitems hgov hk hfits _)
    · refine ⟨_, State.fixspace_endsIn hnext (.inl hstate) hlow hhigh rfl,
        (s.decoded_sameCopy _).joins hwaits htodo ?_ rfl rfl⟩
      have hcomposer := s.decoded_composer w
      generalize s.decoded w = t at hcomposer ⊢
      rw [← hcomposer] at hitems hgov hk hfits hstate ⊢
      exact ((State.takeToken_setting hstate).2.2.1 _).trans (State.setFixed_joins hitems hk hfits)
  case head =>
    intro s hnext ⟨hstate, htodo⟩ hitems
    have hgoes := (s.consume_sameCopy 0x20).space_drops hstate htodo hitems
    exact ⟨_, State.space_endsIn hnext (.inl hstate) rfl, ⟨hgoes.frame, hgoes.stands⟩, hgoes.queue, hgoes.intake,
      hgoes.composer⟩
  case ends =>
    intro s g e hnext ⟨hstate, htodo⟩ hroom hgov hitems hover he
    have hgoes := (s.consume_sameCopy 0x20).space_ends hstate htodo hroom hgov hitems hover ((if_neg hitems).trans he.symm)
    exact ⟨_, State.space_endsIn hnext (.inl hstate) rfl, hgoes.frame, hgoes.stands, hgoes.inUse, hgoes.queue, hgoes.intake,
      hgoes.composer⟩

end Sys2Proof.Machine
end

section
/-! PROOFS. A character joins the line, waits for its font, or is discarded (R1, R4, R5, R22, R55, R56, R94). -/

namespace Sys2Proof.Machine

/-! ### The character set from a position (R1, R4, R5) -/

section
variable {t : State} {p : Fin 8} {r : WidthRecord} {g : GovFont}

/-- The line takes the item's band, when it is the first. -/
theorem State.prepareLine_forItem (hgov : t.lineForItem.gov = some g) :
    t.prepareLine = { t with composer.line := t.lineForItem } := by
  unfold State.prepareLine
  dsimp only
  by_cases hitems : t.composer.line.items = []
  · rw [if_pos (List.isEmpty_iff.2 hitems), State.lineForItem, if_pos hitems]
  · have hline : t.lineForItem = t.composer.line := if_neg hitems
    rw [hline] at hgov ⊢
    rw [if_neg (mt List.isEmpty_iff.1 hitems), hgov]
    rfl

/-- The item of character `c` at position `p` (R4, R5, R56). -/
def charItemOf (t : State) (p : Fin 8) (g : GovFont) (c u : Nat) : Item :=
  if u = 0 then .missing c (t.attrFor p) (g.normal * t.composer.lensSize * 5)
  else .char c (t.attrFor p) (u * t.composer.lensSize * 5)

theorem State.charItem_eq (hwidths : t.font.widths[p] = some r) (hgov : t.composer.line.gov = some g) (c : Nat) :
    t.charItem p c = charItemOf t p g c (r.widths.getD (c - 0x20) 0) := by
  have hunits : t.unitsOf p c = r.widths.getD (c - 0x20) 0 := by
    unfold State.unitsOf
    rw [hwidths]
  have hband : t.bandNormal = g.normal * t.composer.lensSize * 5 := by
    unfold State.bandNormal
    rw [hgov]
    rfl
  unfold State.charItem charItemOf
  dsimp only
  rw [hunits, hband]
  rfl

theorem charItemOf_attr (t : State) (p : Fin 8) (g : GovFont) (c u : Nat) : (charItemOf t p g c u).attr? = some (t.attrFor p) := by
  unfold charItemOf
  split <;> rfl

theorem charItemOf_letter (t : State) (p : Fin 8) (g : GovFont) (c u : Nat) :
    (charItemOf t p g c u).isLetterItem = isLetter c := by
  unfold charItemOf
  split <;> rfl

theorem charItemOf_minAdded (t : State) (p : Fin 8) (g : GovFont) (c u : Nat) :
    (charItemOf t p g c u).minAdded = (charItemOf t p g c u).fixedWidth := by
  unfold charItemOf
  split <;> rfl

/-- In SETTING a character that does not overflow the line joins it. -/
theorem State.addLetter_joins {i : Item} {tok : Token} (hstate : t.composer.state = .setting) (hk : t.composer.line.sums.k < 160)
    (hfits : t.composer.line.sums.minWidth + i.minAdded ≤ t.composer.line.measure * 32) : t.addLetter tok i = t.joinItem i := by
  have hlook : decide (t.composer.state = .lookahead) = false := by rw [hstate]; rfl
  unfold State.addLetter
  dsimp only
  rw [if_neg (by rw [itemLimit]; omega), hlook, Line.overflows_eq_false hfits hk]
  rfl

theorem State.setCharIn_joins (hstate : t.composer.state = .setting) (hwidths : t.font.widths[p] = some r)
    (hgov : t.lineForItem.gov = some g) {c u : Nat} (hu : u = r.widths.getD (c - 0x20) 0)
    (hk : t.lineForItem.sums.k < 160)
    (hfits : t.lineForItem.sums.minWidth + (charItemOf t p g c u).fixedWidth ≤ t.lineForItem.measure * 32) (off : Nat) :
    t.setCharIn p c off = State.joinItem { t with composer.line := t.lineForItem } (charItemOf t p g c u) := by
  have hitem := State.charItem_eq (t := { t with composer.line := t.lineForItem }) (g := g) hwidths hgov c
  rw [← hu] at hitem
  have hsame : charItemOf { t with composer.line := t.lineForItem } p g c u = charItemOf t p g c u := rfl
  rw [hsame] at hitem
  rw [← charItemOf_minAdded] at hfits
  unfold State.setCharIn
  dsimp only
  rw [State.prepareLine_forItem hgov, hitem]
  split
  · exact State.addLetter_joins hstate hk hfits
  · exact State.addOther_joins hk hfits

end

/-! ### The font that sets it (R55) -/

section
variable {s : State} {p : Fin 8}

theorem State.defaultPosition_eq_some : s.defaultPosition = some p ↔
    s.font.table[p].ready = true ∧ ∀ q : Fin 8, q < p → s.font.table[q].ready = false := findPosition_eq_some

theorem State.defaultPosition_eq_none : s.defaultPosition = none ↔ ∀ q : Fin 8, s.font.table[q].ready = false :=
  findPosition_eq_none

theorem State.currentReady_iff (f : CurrentFont) : s.currentReady f = true ↔ s.StillHolds f := by
  unfold State.currentReady
  rw [Bool.and_eq_true, beq_iff_eq, Position.ready_iff]

theorem State.setChar_current {f : CurrentFont} (hcurrent : s.composer.current = some f) (c off : Nat) : s.setChar c off =
    if s.currentReady f then s.setCharIn f.pos c off else s.reresolve f.font c off := by
  unfold State.setChar
  rw [hcurrent]

theorem State.setChar_none (hcurrent : s.composer.current = none) (c off : Nat) :
    s.setChar c off = s.setCharDefault c off := by
  unfold State.setChar
  rw [hcurrent]

theorem State.setCharDefault_some (h : s.defaultPosition = some p) (c off : Nat) :
    s.setCharDefault c off = s.setCharIn p c off := by
  unfold State.setCharDefault
  rw [h]

theorem State.setCharDefault_none (h : s.defaultPosition = none) (c off : Nat) :
    s.setCharDefault c off = s.discardNoFont off := by
  unfold State.setCharDefault
  rw [h]

theorem State.reresolve_select {n : Nat} (h : s.resolve n = .select p) (c off : Nat) :
    s.reresolve n c off = State.setCharIn { s with composer.current := some { font := n, pos := p } } p c off := by
  unfold State.reresolve
  rw [h]

theorem State.reresolve_waitOn {n : Nat} (h : s.resolve n = .waitOn p) (c off : Nat) :
    s.reresolve n c off = s.enterFontWait n (.entry p none) (some (c, off)) := by
  unfold State.reresolve
  rw [h]

theorem State.reresolve_call {n : Nat} (h : s.resolve n = .call p) (c off : Nat) :
    s.reresolve n c off = (s.callFont n p).enterFontWait n (.entry p none) (some (c, off)) := by
  unfold State.reresolve
  rw [h]

theorem State.reresolve_waitPosition {n : Nat} (h : s.resolve n = .waitPosition) (c off : Nat) :
    s.reresolve n c off = s.enterFontWait n (.position false) (some (c, off)) := by
  unfold State.reresolve
  rw [h]

theorem State.reresolve_substitute {n : Nat} (h : s.resolve n = .substitute) (c off : Nat) :
    s.reresolve n c off = s.dropCurrent.setCharDefault c off := by
  unfold State.reresolve
  rw [h]

/-- The state that sets a character is the one it stands in, but for the current font and the marking. -/
theorem State.SetsCharacterFrom.setChar {s v : State} {mark : Bool} (h : s.SetsCharacterFrom p mark v)
    (hheld : s.composer.held = none) (htodo : s.composer.todo = []) (c off : Nat) :
    s.setChar c off = v.setCharIn p c off ∧ mark = (v.composer.fontSub || v.composer.current.isNone)
      ∧ v = { s with composer.current := v.composer.current, composer.fontSub := v.composer.fontSub } := by
  rcases h with ⟨hcurrent, hdefault, rfl, rfl⟩ | ⟨f, hcurrent, hcase⟩
  · refine ⟨?_, by rw [hcurrent, Option.isNone_none, Bool.or_true], rfl⟩
    rw [State.setChar_none hcurrent, State.setCharDefault_some (State.defaultPosition_eq_some.2 hdefault)]
  rw [State.setChar_current hcurrent]
  rcases hcase with ⟨hholds, rfl, rfl, rfl⟩ | ⟨hleft, hheldAt, hready, rfl, rfl⟩ | ⟨hleft, hsub, hdefault, rfl, rfl⟩
  · refine ⟨if_pos ((State.currentReady_iff f).2 hholds), by rw [hcurrent, Option.isNone_some, Bool.or_false], rfl⟩
  · refine ⟨?_, by rw [Option.isNone_some, Bool.or_false], rfl⟩
    rw [if_neg (mt (State.currentReady_iff f).1 hleft), State.reresolve_select (State.resolve_select hheldAt hready)]
  · refine ⟨?_, rfl, rfl⟩
    rw [if_neg (mt (State.currentReady_iff f).1 hleft),
      State.reresolve_substitute (State.resolve_substitute hsub hheld htodo)]
    exact State.setCharDefault_some (s := s.dropCurrent) (State.defaultPosition_eq_some.2 hdefault) c off

end

/-! ### The word of the copy consumed -/

section
variable {s t : State} (hfont : t.font = s.font) (hcomposer : t.composer = s.composer)
include hfont

theorem State.fontHeldNowhere_congr (n : Nat) : t.FontHeldNowhere n ↔ s.FontHeldNowhere n := by
  unfold State.FontHeldNowhere
  rw [hfont]

theorem State.fontHeldAt_congr (n : Nat) (p : Fin 8) : t.FontHeldAt n p ↔ s.FontHeldAt n p := by
  unfold State.FontHeldAt
  rw [hfont]

theorem State.stillHolds_congr (f : CurrentFont) : t.StillHolds f ↔ s.StillHolds f := by
  unfold State.StillHolds
  rw [hfont]

theorem State.fontPlace_congr (n : Nat) (p : Fin 8) : t.FontPlace n p ↔ s.FontPlace n p := by
  unfold State.FontPlace State.FontHeldNowhere
  rw [hfont]

theorem State.fontNoPlace_congr (n : Nat) : t.FontNoPlace n ↔ s.FontNoPlace n := by
  unfold State.FontNoPlace State.FontHeldNowhere
  rw [hfont]

include hcomposer

theorem State.queueCanFree_congr : t.QueueCanFree ↔ s.QueueCanFree := by
  unfold State.QueueCanFree
  rw [hfont, hcomposer]

theorem State.fontSubstituted_congr (n : Nat) : t.FontSubstituted n ↔ s.FontSubstituted n := by
  unfold State.FontSubstituted
  rw [State.fontNoPlace_congr hfont, State.queueCanFree_congr hfont hcomposer]
  simp only [State.fontHeldAt_congr hfont, hfont]

theorem State.SetsCharacterFrom.congr {v : State} {p : Fin 8} {mark : Bool} (h : s.SetsCharacterFrom p mark v) :
    t.SetsCharacterFrom p mark { t with composer := v.composer } := by
  have hsame : ({ t with composer := s.composer } : State) = t := by rw [← hcomposer]
  have hready (q : Fin 8) : t.font.table[q].ready = s.font.table[q].ready := by rw [hfont]
  have hdefaults (hdefault : s.font.table[p].ready = true ∧ ∀ q : Fin 8, q < p → s.font.table[q].ready = false) :
      t.font.table[p].ready = true ∧ ∀ q : Fin 8, q < p → t.font.table[q].ready = false :=
    ⟨(hready p).trans hdefault.1, fun q hq => (hready q).trans (hdefault.2 q hq)⟩
  have hcurrents {x : Option CurrentFont} (hcurrent : s.composer.current = x) : t.composer.current = x := by
    rw [hcomposer, hcurrent]
  rcases h with ⟨hcurrent, hdefault, rfl, rfl⟩ | ⟨f, hcurrent, ⟨hholds, rfl, rfl, rfl⟩ | ⟨hleft, hheldAt, hstands, rfl, rfl⟩
    | ⟨hleft, hsub, hdefault, rfl, rfl⟩⟩
  · exact .inl ⟨hcurrents hcurrent, hdefaults hdefault, rfl, hsame⟩
  · exact .inr ⟨f, hcurrents hcurrent, .inl ⟨(State.stillHolds_congr hfont f).2 hholds, rfl, by rw [hcomposer], hsame⟩⟩
  · exact .inr ⟨f, hcurrents hcurrent, .inr (.inl ⟨mt (State.stillHolds_congr hfont f).1 hleft,
      (State.fontHeldAt_congr hfont _ _).2 hheldAt, (hready p).trans hstands, by rw [hcomposer], by rw [← hcomposer]⟩)⟩
  · exact .inr ⟨f, hcurrents hcurrent, .inr (.inr ⟨mt (State.stillHolds_congr hfont f).1 hleft,
      (State.fontSubstituted_congr hfont hcomposer _).2 hsub, hdefaults hdefault, rfl, by rw [← hcomposer]⟩)⟩

end

theorem State.lineForItem_congr {u v : State} (hfont : u.font = v.font) (hcomposer : u.composer = v.composer) :
    u.lineForItem = v.lineForItem := by
  unfold State.lineForItem State.settingGov State.settingPosition State.defaultPosition State.govOf State.currentReady
  rw [hfont, hcomposer]

/-- A character joins the line. -/
theorem SameCopy.char_joins {s t v : State} {p : Fin 8} {mark : Bool} {r : WidthRecord} {g : GovFont} {n off : Nat}
    (h : SameCopy s t) (hfont : t.font = s.font) (hstate : s.composer.state = .setting) (htodo : s.composer.todo = [])
    (hheld : s.composer.held = none) (hsets : s.SetsCharacterFrom p mark v) (hwidths : s.font.widths[p] = some r)
    (hgov : v.lineForItem.gov = some g) {a : Attr}
    (ha : a = { pos := p, lens := s.composer.lens, size := s.composer.lensSize, fontSub := mark, sizeSub := s.composer.sizeSub })
    {u : Nat} (hu : u = r.widths.getD (n - 0x20) 0) {i : Item}
    (hi : i = if u = 0 then .missing n a (g.normal * s.composer.lensSize * 5) else .char n a (u * s.composer.lensSize * 5))
    (hk : v.lineForItem.sums.k < 160)
    (hfits : v.lineForItem.sums.minWidth + i.fixedWidth ≤ v.lineForItem.measure * 32) :
    Goes [] s (t.work [.token (.char n off)])
      { v.composer with
        line := { v.lineForItem with
          items := v.lineForItem.items ++ [i]
          sums := v.lineForItem.sums.add v.lineForItem.items.getLast? i }
        word := if isLetter n then { s.composer.word with letters := s.composer.word.letters + 1 } else WordRun.none }
      { t.intake with job.flags := { s.intake.job.flags with
          fontSub := s.intake.job.flags.fontSub || a.fontSub, sizeSub := s.intake.job.flags.sizeSub || a.sizeSub } }
      s.queue := by
  obtain ⟨-, hmark, hv⟩ := hsets.setChar hheld htodo n off
  obtain ⟨hset, -, -⟩ := (hsets.congr hfont h.composer).setChar (by rw [h.composer]; exact hheld)
    (by rw [h.composer]; exact htodo) n off
  have hcomposer : v.composer =
      { s.composer with current := v.composer.current, fontSub := v.composer.fontSub } := (congrArg State.composer hv :)
  have hvfont : v.font = s.font := (congrArg State.font hv :)
  clear hv hsets
  generalize v.composer.current = current, v.composer.fontSub = fontSub at hmark hcomposer
  have hline : State.lineForItem { t with composer := v.composer } = v.lineForItem :=
    State.lineForItem_congr (hfont.trans hvfont.symm) rfl
  have hattr : State.attrFor { t with composer := v.composer } p = a := by
    rw [ha, hmark]
    unfold State.attrFor
    dsimp only
    rw [hcomposer]
  have hitem : charItemOf { t with composer := v.composer } p g n u = i := by
    rw [hi]
    unfold charItemOf
    rw [hattr]
    dsimp only
    rw [hcomposer]
  have hattr? : i.attr? = some a := by
    rw [← hitem, charItemOf_attr, hattr]
  have hletter : i.isLetterItem = isLetter n := by
    rw [← hitem, charItemOf_letter]
  have hjoin := State.setCharIn_joins (t := { t with composer := v.composer }) (p := p) (r := r) (g := g) (c := n) (u := u)
    (by rw [hcomposer]; exact hstate) (by rw [hfont]; exact hwidths) (by rw [hline]; exact hgov) hu (by rw [hline]; exact hk)
    (by rw [hline, hitem]; exact hfits) off
  rw [hline, hitem] at hjoin
  have htake : t.takeToken (.char n off) =
      State.joinItem { t with composer := { v.composer with line := v.lineForItem } } i :=
    ((State.takeToken_setting (by rw [h.composer]; exact hstate)).2.2.2 n off).trans (hset.trans hjoin)
  obtain ⟨hreach, hstands⟩ := State.joinItem_reaches { t with composer := { v.composer with line := v.lineForItem } } i
  have hframe := CopyFrame.composer t { v.composer with line := v.lineForItem } t.intake.job t.queue
  have hgoes := State.token_goes (State.composerWaits_false (.inl (by rw [h.composer]; exact hstate)))
    (by rw [h.composer]; exact htodo) htake
    ⟨hframe.lineFrame hreach.frame, hreach.composer, hreach.intake, hreach.queue⟩ (hframe.2.trans hstands)
    (.inl (by rw [hcomposer]; exact htodo))
  have hsub : v.composer.sizeSub = a.sizeSub := by rw [hcomposer, ha]
  have hword : v.composer.word.after i =
      if isLetter n then { s.composer.word with letters := s.composer.word.letters + 1 } else WordRun.none := by
    unfold WordRun.after
    rw [hletter, hcomposer]
  refine (Goes.after h.frame ?_)
  refine { hgoes with composer := hgoes.composer.trans ?_, intake := hgoes.intake.trans ?_, queue := hgoes.queue.trans h.queue }
  · rw [← hword]
    rfl
  · rw [hattr?]
    unfold Intake.withItem
    rw [Option.any_some, ← h.flags, ← hsub]

end Sys2Proof.Machine
end

section
/-! PROOFS. A character waits for its font, or is discarded for want of one (R55, R94). -/

namespace Sys2Proof.Machine

/-! ### The token of a character that may be set now (R23, R25) -/

section
variable {s t : State} {n off : Nat}

theorem State.takeToken_lookahead (hletter : isLetter n = true)
    (hk : s.composer.line.sums.k < 160) : s.takeToken (.char n off) = s.setChar n off := by
  have hitem : (Token.char n off).isLetter = true := hletter
  unfold State.takeToken
  rw [if_neg (by rw [hitem]; simp), if_neg (by rw [itemLimit]; simp; omega)]

/-- In SETTING, and for a letter in LOOKAHEAD, a character is set. -/
theorem State.takeToken_char (h : s.composer.state = .setting
      ∨ s.composer.state = .lookahead ∧ isLetter n = true ∧ s.composer.line.sums.k < 160) :
    s.takeToken (.char n off) = s.setChar n off := by
  rcases h with h | ⟨h, hletter, hk⟩
  · exact (State.takeToken_setting h).2.2.2 n off
  · exact State.takeToken_lookahead hletter hk

theorem State.character_endsIn {w : Word} {u : State} (hnext : WordNext s w) (hlow : 0x21 ≤ w.toNat) (hhigh : w.toNat ≤ 0x7E)
    (hstate : s.composer.state = .setting ∨ s.composer.state = .lookahead)
    (hu : (s.consume w).work [.token (.char w.toNat s.intake.consumeOffset)] = u) : EndsIn (exec .character s) u :=
  State.textInside_endsIn (f := fun w off t => t.work [.token (.char w.toNat off)]) hnext (classify_character hlow hhigh) hstate
    (fun _ => by simp) hu

theorem isLetter_range (h : isLetter n = true) : 0x21 ≤ n ∧ n ≤ 0x7E := by
  simp [isLetter] at h
  omega

/-! ### FONT WAIT for a character (R55) -/

/-- The Composer that waits for the font of a character. -/
def Composer.waiting (c : Composer) (font : Nat) (target : WaitTarget) (char : Nat × Nat) : Composer :=
  { c with
    state := .fontWait
    fontWait := some { font := font, target := target, char := some char,
                       inLookahead := decide (c.state = .lookahead) } }

theorem State.enterFontWait_reaches {x : ComposerState} (hx : s.composer.state = x) (h : x = .setting ∨ x = .lookahead)
    (font : Nat) (target : WaitTarget) (char : Nat × Nat) :
    Reaches [] s (s.enterFontWait font target (some char)) (s.composer.waiting font target char) s.intake s.queue
      ∧ StatusStands s (s.enterFontWait font target (some char)) := by
  have hframe := CopyFrame.composer s (s.composer.waiting font target char) s.intake.job s.queue
  have hmark := CopyFrame.mark ({ s with composer := s.composer.waiting font target char } : State) [5]
  rw [State.enterFontWait_eq hx h]
  subst hx
  exact ⟨⟨(hframe.trans hmark).1, rfl, rfl, rfl⟩, (hframe.trans hmark).2⟩

/-- A character that waits leaves the Composer's work where it stands. -/
theorem State.token_waits {target : WaitTarget} {font : Nat} {x : ComposerState} (hx : s.composer.state = x)
    (h : x = .setting ∨ x = .lookahead) (htodo : s.composer.todo = [])
    (htake : s.takeToken (.char n off) = s.enterFontWait font target (some (n, off))) :
    Goes [] s (s.work [.token (.char n off)]) (s.composer.waiting font target (n, off)) s.intake s.queue := by
  obtain ⟨hreach, hstands⟩ := State.enterFontWait_reaches hx h font target (n, off)
  have hwaits : s.composerWaits = false :=
    State.composerWaits_false (by rw [hx]; rcases h with rfl | rfl <;> simp)
  exact State.token_goes hwaits htodo htake hreach hstands
    (.inr (State.composerWaits_fontWait (by rw [hreach.composer]; rfl)))

theorem SameCopy.waits (h : SameCopy s t) {target : WaitTarget} {font : Nat} {x : ComposerState} (hx : s.composer.state = x)
    (hstate : x = .setting ∨ x = .lookahead) (htodo : s.composer.todo = [])
    (htake : t.takeToken (.char n off) = t.enterFontWait font target (some (n, off))) :
    Goes [] s (t.work [.token (.char n off)]) (s.composer.waiting font target (n, off)) t.intake s.queue := by
  have hgoes := State.token_waits (s := t) (by rw [h.composer]; exact hx) hstate (by rw [h.composer]; exact htodo) htake
  rw [h.composer, h.queue] at hgoes
  exact hgoes.after h.frame

end

/-! ### A call made for a character (R52, R55, R57) -/

theorem FontCalled.refreshInUse {s t : State} {n : Nat} {p : Fin 8} (h : FontCalled s t n p) : FontCalled s t.refreshInUse n p := by
  have hframe := t.refreshInUse_frame
  have htable := t.refreshInUse_table
  generalize t.refreshInUse = u at hframe htable ⊢
  obtain ⟨hentry, hothers, hwidths, hfont, hcalls, halarm, hflag, hshown, hsound, hownership, hqueue, hmem, hseq, hhyph,
    hproof, hexposure⟩ := h
  have hpanel : u.panel = t.panel := by rw [hframe]
  have hflags : u.status.flags = t.status.flags := by rw [hframe]
  have huwidths : u.font.widths = t.font.widths := by rw [hframe]
  refine ⟨?_, fun q hq => ?_, huwidths.trans hwidths, ?_, by rw [hpanel]; exact hcalls, by rw [hpanel]; exact halarm, ?_,
    by rw [hpanel]; exact hshown, by rw [hpanel]; exact hsound, by rw [hpanel]; exact hownership, ?_, ?_, ?_, ?_, ?_, ?_⟩
  · rw [htable p, hentry]
  · rw [htable q, hothers q hq]
  · have hu : u.font = { t.font with table := u.font.table } := by rw [hframe]
    rw [hu, hfont]
  · unfold State.flagSet at hflag ⊢
    rw [hflags]
    exact hflag
  · rw [hframe]
    exact hqueue
  · rw [hframe]
    exact hmem
  · rw [hframe]
    exact hseq
  · rw [hframe]
    exact hhyph
  · rw [hframe]
    exact hproof
  · rw [hframe]
    exact hexposure

theorem State.consume_currentTag (s : State) (w : Word) : (s.consume w).currentTag = s.currentTag := by
  obtain ⟨_, _, _, _, h⟩ := State.consume_intake s w
  unfold State.currentTag
  rw [h]

theorem State.consume_sameForCall (s : State) (w : Word) : SameForCall s (s.consume w) :=
  ⟨s.consume_font w, s.consume_panel w, s.consume_queue w, s.consume_mem w, s.consume_seq w, s.consume_hyph w,
    s.consume_proof w, s.consume_exposure w, s.consume_currentTag w⟩

section
variable {s t : State} {n off : Nat}

/-- A character whose font is called for. -/
theorem State.token_calls (hu : SameForCall s t) {font : Nat} {p : Fin 8} (hplace : s.FontPlace font p) {x : ComposerState}
    (hx : t.composer.state = x) (hstate : x = .setting ∨ x = .lookahead) (htodo : t.composer.todo = [])
    (htake : t.takeToken (.char n off) = (t.callFont font p).enterFontWait font (.entry p none) (some (n, off))) :
    ∃ u, t.work [.token (.char n off)] = u ∧ FontCalled s u font p
      ∧ u.composer = t.composer.waiting font (.entry p none) (n, off) ∧ u.intake = t.intake ∧ u.queue = t.queue
      ∧ InUseUpToDate u := by
  obtain ⟨hcalled, huse, hframe⟩ := State.callFont_called hu hplace
  have hwaits : t.composerWaits = false :=
    State.composerWaits_false (by rw [hx]; rcases hstate with rfl | rfl <;> simp)
  have hwork := State.works_token (tok := .char n off) hwaits htodo
  rw [htake] at hwork
  generalize t.callFont font p = v at hcalled hframe hwork
  have hcomposer : v.composer = { t.composer with fontWait := v.composer.fontWait } := by rw [hframe]
  have hv : v.composer.state = x := by
    rw [hcomposer]
    exact hx
  rw [State.enterFontWait_eq hv hstate] at hwork
  have hrun : t.work [.token (.char n off)] = _ :=
    (State.work_eq htodo _).trans (hwork.runTasks_of_waits (by omega) (State.composerWaits_fontWait rfl))
  refine ⟨_, hrun, FontCalled.refreshInUse hcalled, ?_, ?_, ?_, State.refreshInUse_upToDate _⟩
  · rw [State.refreshInUse_composer]
    subst hx
    show ({ v.composer with
      state := .fontWait
      fontWait := some { font := font, target := .entry p none, char := some (n, off),
                         inLookahead := decide (t.composer.state = .lookahead) } } : Composer) = _
    rw [hcomposer]
    rfl
  · rw [State.refreshInUse_intake]
    exact (congrArg State.intake hframe :)
  · rw [State.refreshInUse_queue]
    exact (congrArg State.queue hframe :)

end

/-! ### No font (R94) -/

section
variable {s t : State} {n off : Nat}

theorem State.discardNoFont_again (h : s.composer.noFont = true) : s.discardNoFont off = s := if_pos h

theorem State.discardNoFont_first (h : s.composer.noFont = false) :
    s.discardNoFont off = State.copyError { s with composer.noFont := true } .noFont off :=
  if_neg (by rw [h]; decide)

/-- What the discard of a word makes of the state. -/
theorem State.discardNoFont_reaches (s : State) (off : Nat) :
    LineFrame [] s (s.discardNoFont off) ∧ (s.discardNoFont off).queue = s.queue
      ∧ (s.discardNoFont off).composer = { s.composer with noFont := true }
      ∧ (s.composer.noFont = true → StatusStands s (s.discardNoFont off) ∧ (s.discardNoFont off).intake = s.intake)
      ∧ (s.composer.noFont = false → (s.discardNoFont off).flagSet .copyError = true
        ∧ (s.discardNoFont off).status = { s.status with
            flags := (s.raise .copyError).status.flags, marks := (s.discardNoFont off).status.marks }
        ∧ (s.discardNoFont off).intake = { s.intake with errKind := some .noFont, errOffset := off }) := by
  cases h : s.composer.noFont with
  | true =>
    have hframe := CopyFrame.refl s
    rw [State.discardNoFont_again h]
    refine ⟨hframe.1, rfl, ?_, fun _ => ⟨hframe.2, rfl⟩, fun h' => Bool.noConfusion h'⟩
    rw [← h]
  | false =>
    have hrecord := State.copyError_record { s with composer.noFont := true } .noFont off
    have hframe := State.copyError_frame { s with composer.noFont := true } .noFont off
    have hflags : (State.copyError { s with composer.noFont := true } .noFont off).status.flags =
        (s.raise .copyError).status.flags := by
      unfold State.copyError
      exact State.raise_flags_congr (s := s) (by rfl) .copyError
    rw [State.discardNoFont_first h]
    generalize State.copyError { s with composer.noFont := true } .noFont off = t at hrecord hframe hflags ⊢
    obtain ⟨hintake, hflag, -, -⟩ := hrecord
    refine ⟨LineFrame.of_frame ?_ ?_ ?_ fun p => ?_, ?_, ?_, fun h' => Bool.noConfusion h', fun _ => ⟨hflag, ?_, hintake⟩⟩
    case refine_7 => rw [← hflags, hframe]
    case refine_2 => rw [hintake]
    case refine_3 => rw [hintake]
    all_goals rw [hframe]
    rfl

/-- A word that no font can set leaves nothing to do. -/
theorem State.token_discarded {tok : Token} {v : Composer} (hwaits : t.composerWaits = false) (htodo : t.composer.todo = [])
    (hv : v.todo = []) (htake : t.takeToken tok = State.discardNoFont { t with composer := v } off) :
    ∃ u, t.work [.token tok] = u ∧ LineFrame [] t u ∧ InUseUpToDate u ∧ u.queue = t.queue
      ∧ u.composer = { v with noFont := true } ∧ (v.noFont = true → StatusStands t u ∧ u.intake = t.intake)
      ∧ (v.noFont = false → u.flagSet .copyError = true
        ∧ u.status = { t.status with flags := (t.raise .copyError).status.flags, marks := u.status.marks }
        ∧ u.intake = { t.intake with errKind := some .noFont, errOffset := off }) := by
  obtain ⟨hline, hqueue, hcomposer, hagain, hfirst⟩ := State.discardNoFont_reaches { t with composer := v } off
  have hwork := State.works_token (tok := tok) hwaits htodo
  rw [htake] at hwork
  generalize State.discardNoFont { t with composer := v } off = x at hline hqueue hcomposer hagain hfirst hwork
  have hrun := (State.work_eq htodo _).trans (hwork.runTasks_of_nil (by omega) (by rw [hcomposer]; exact hv))
  have hbefore : CopyFrame t { t with composer := v } := CopyFrame.composer t v t.intake.job t.queue
  have hafter := x.refreshInUse_copyFrame
  have hintake := x.refreshInUse_intake
  refine ⟨_, hrun, (hbefore.lineFrame hline).copyFrame hafter, x.refreshInUse_upToDate, x.refreshInUse_queue.trans hqueue,
    x.refreshInUse_composer.trans hcomposer, fun hno => ?_, fun hno => ?_⟩
  · obtain ⟨hstands, hsame⟩ := hagain hno
    exact ⟨(hbefore.2.trans hstands).trans hafter.2, hintake.trans hsame⟩
  · obtain ⟨hflag, hstatus, hsame⟩ := hfirst hno
    have hstands := hafter.2
    generalize x.refreshInUse = u at hstands hintake ⊢
    unfold StatusStands at hstands
    refine ⟨?_, ?_, hintake.trans hsame⟩
    · unfold State.flagSet at hflag ⊢
      rw [hstands]
      exact hflag
    · have hflags := State.raise_flags_congr (s := t) (t := { t with composer := v }) rfl .copyError
      rw [hstands, hstatus, hflags]

theorem SameCopy.discarded (h : SameCopy s t) {tok : Token} {v : Composer} (hwaits : s.composerWaits = false)
    (htodo : s.composer.todo = []) (hv : v.todo = []) (hno : v.noFont = s.composer.noFont)
    (htake : t.takeToken tok = State.discardNoFont { t with composer := v } off) :
    ∃ u, t.work [.token tok] = u ∧ LineFrame [] s u ∧ InUseUpToDate u ∧ u.queue = s.queue
      ∧ u.composer = { v with noFont := true } ∧ (s.composer.noFont = true → StatusStands s u ∧ u.intake = t.intake)
      ∧ (s.composer.noFont = false → u.flagSet .copyError = true
        ∧ u.status = { s.status with flags := (s.raise .copyError).status.flags, marks := u.status.marks }
        ∧ u.intake = { t.intake with errKind := some .noFont, errOffset := off }) := by
  obtain ⟨u, hwork, hline, huse, hqueue, hcomposer, hagain, hfirst⟩ := State.token_discarded
    ((State.composerWaits_congr (congrArg Composer.state h.composer)).trans hwaits) (by rw [h.composer]; exact htodo) hv htake
  have hstands := h.frame.2
  have hflags := State.raise_flags_congr (s := s) (t := t) (by rw [hstands]) .copyError
  rw [hno] at hagain hfirst
  refine ⟨u, hwork, h.frame.lineFrame hline, huse, hqueue.trans h.queue, hcomposer,
    fun hset => ⟨hstands.trans (hagain hset).1, (hagain hset).2⟩, fun hclear => ?_⟩
  obtain ⟨hflag, hstatus, hintake⟩ := hfirst hclear
  refine ⟨hflag, ?_, hintake⟩
  unfold StatusStands at hstands
  rw [hstatus, hflags, hstands]

/-- With no font ready a character is discarded, and so is a tie on a line without a band. -/
theorem State.setChar_discards (hready : ∀ q : Fin 8, t.font.table[q].ready = false) (hheld : t.composer.held = none)
    (htodo : t.composer.todo = []) {v : Composer}
    (h : t.composer.current = none ∧ v = t.composer
      ∨ ∃ f, t.composer.current = some f ∧ t.FontSubstituted f.font
        ∧ v = { t.composer with current := none, fontSub := true }) :
    t.setChar n off = State.discardNoFont { t with composer := v } off := by
  have hnone : t.defaultPosition = none := State.defaultPosition_eq_none.2 hready
  rcases h with ⟨hcurrent, rfl⟩ | ⟨f, hcurrent, hsub, rfl⟩
  · rw [State.setChar_none hcurrent, State.setCharDefault_none hnone]
  · have hleft : ¬ t.currentReady f = true := by
      unfold State.currentReady
      rw [hready f.pos, Bool.and_false]
      decide
    rw [State.setChar_current hcurrent, if_neg hleft, State.reresolve_substitute (State.resolve_substitute hsub hheld htodo)]
    exact State.setCharDefault_none (s := t.dropCurrent) hnone n off

theorem State.setTie_discards (hready : ∀ q : Fin 8, t.font.table[q].ready = false) (hgov : t.composer.line.gov = none) :
    t.setTie off = t.discardNoFont off := by
  have hnone : t.defaultPosition = none := State.defaultPosition_eq_none.2 hready
  have hsetting : t.settingPosition = none := by
    unfold State.settingPosition
    cases hcurrent : t.composer.current with
    | none => exact hnone
    | some f =>
      have hleft : ¬ t.currentReady f = true := by
        unfold State.currentReady
        rw [hready f.pos, Bool.and_false]
        decide
      exact (if_neg hleft).trans hnone
  unfold State.setTie
  rw [hsetting, hgov]
  rfl

end

theorem character_may_be_set {s : State} {n : Nat} (h : s.composer.state = .setting ∧ 0x21 ≤ n ∧ n ≤ 0x7E
      ∨ s.composer.state = .lookahead ∧ isLetter n = true ∧ s.composer.line.sums.k < 160) :
    (0x21 ≤ n ∧ n ≤ 0x7E) ∧ (s.composer.state = .setting ∨ s.composer.state = .lookahead) := by
  rcases h with ⟨hstate, hrange⟩ | ⟨hstate, hletter, -⟩
  · exact ⟨hrange, .inl hstate⟩
  · exact ⟨isLetter_range hletter, .inr hstate⟩

/-- Settles O35: the character is set from the position that R55 gives, waits, or is discarded. -/
theorem characterJoinsTheLine : Obligations.CharacterJoinsTheLine := by
  refine ⟨?joins, ?waits, ?none⟩
  case joins =>
    intro s v w p mark r g hnext ⟨hstate, htodo⟩ hheld hlow hhigh hsets hwidths hgov a u i hfits hk
    have hgoes := (s.consume_sameCopy w).char_joins (off := s.intake.consumeOffset) (n := w.toNat) (u := u) (i := i)
      (s.consume_font w) hstate htodo hheld hsets hwidths hgov rfl rfl rfl hk hfits
    exact ⟨_, State.character_endsIn hnext hlow hhigh (.inl hstate) rfl, ⟨hgoes.frame, hgoes.stands⟩, hgoes.queue,
      hgoes.inUse, hgoes.composer, hgoes.intake⟩
  case waits =>
    intro s w f hnext htodo hheld hcase hcurrent hleft
    obtain ⟨⟨hlow, hhigh⟩, hstate⟩ := character_may_be_set hcase
    have hends := State.character_endsIn hnext hlow hhigh hstate rfl
    have hsame := s.consume_sameCopy w
    have hfont := s.consume_font w
    have hcall := s.consume_sameForCall w
    have hresolve := State.resolve_congr hfont hsame.composer f.font
    have htake : (s.consume w).takeToken (.char w.toNat s.intake.consumeOffset) =
        (s.consume w).reresolve f.font w.toNat s.intake.consumeOffset := by
      rw [State.takeToken_char (by rw [hsame.composer]; exact hcase.imp And.left id),
        State.setChar_current (by rw [hsame.composer]; exact hcurrent), if_neg]
      rw [State.currentReady_iff, State.stillHolds_congr hfont]
      exact hleft
    generalize s.consume w = t at hends hsame hfont hcall hresolve htake ⊢
    intro waits
    have hwaits {target : WaitTarget} (h : t.takeToken (.char w.toNat s.intake.consumeOffset) =
        t.enterFontWait f.font target (some (w.toNat, s.intake.consumeOffset))) :
        ∃ u, EndsIn (exec .character s) u ∧ CopyFrame s u ∧ waits u target := by
      have hgoes := hsame.waits rfl hstate htodo h
      exact ⟨_, hends, ⟨hgoes.frame, hgoes.stands⟩, hgoes.composer, hgoes.intake, hgoes.queue, hgoes.inUse⟩
    refine ⟨fun p hp hwait => ?_, fun p hp => ?_, fun hnone hfree => ?_⟩
    · exact hwaits (htake.trans (State.reresolve_waitOn (hresolve.trans (State.resolve_waitOn hp hwait)) _ _))
    · obtain ⟨u, hu, hcalled, hcomposer, hintake, hqueue, huse⟩ := State.token_calls hcall hp (n := w.toNat)
        (off := s.intake.consumeOffset) (congrArg Composer.state hsame.composer) hstate (by rw [hsame.composer]; exact htodo)
        (htake.trans (State.reresolve_call (hresolve.trans (State.resolve_call hp)) _ _))
      rw [hsame.composer] at hcomposer
      exact ⟨u, hu ▸ hends, hcalled, hcomposer, hintake, hqueue.trans hsame.queue, huse⟩
    · exact hwaits (htake.trans (State.reresolve_waitPosition
        (hresolve.trans ((State.resolve_noPlace hnone hheld htodo).1 hfree)) _ _))
  case none =>
    intro s v w c hnext htodo hheld hready hcase
    have hsame := s.consume_sameCopy w
    have hfont := s.consume_font w
    have hready' : ∀ q : Fin 8, (s.consume w).font.table[q].ready = false := fun q => by
      rw [hfont]
      exact hready q
    rcases hcase with ⟨rfl, hset, hv⟩ | ⟨rfl, rfl, hstate, hgov, rfl⟩
    · obtain ⟨⟨hlow, hhigh⟩, hstate⟩ := character_may_be_set hset
      have hends := State.character_endsIn hnext hlow hhigh hstate rfl
      have hwaits : s.composerWaits = false := State.composerWaits_false (by rcases hstate with h | h <;> simp [h])
      generalize s.consume w = t at hends hsame hfont hready' ⊢
      have htake : t.takeToken (.char w.toNat s.intake.consumeOffset) =
          State.discardNoFont { t with composer := v } s.intake.consumeOffset := by
        rw [State.takeToken_char (by rw [hsame.composer]; exact hset.imp And.left id)]
        refine State.setChar_discards hready' (by rw [hsame.composer]; exact hheld) (by rw [hsame.composer]; exact htodo) ?_
        simp only [State.fontSubstituted_congr hfont hsame.composer, hsame.composer]
        exact hv
      obtain ⟨hvtodo, hvno⟩ : v.todo = [] ∧ v.noFont = s.composer.noFont := by
        rcases hv with ⟨-, rfl⟩ | ⟨f, -, -, rfl⟩ <;> exact ⟨htodo, rfl⟩
      obtain ⟨u, hu, hline, huse, hqueue, hcomposer, hagain, hfirst⟩ := hsame.discarded hwaits htodo hvtodo hvno htake
      exact ⟨u, hu ▸ hends, hline, huse, hqueue, hcomposer, hagain, hfirst⟩
    · have hends := State.tie_endsIn hnext (.inl hstate) rfl
      have hwaits : s.composerWaits = false := State.composerWaits_false (.inl hstate)
      generalize s.consume 0x1F = t at hends hsame hfont hready' ⊢
      have htake : t.takeToken (.tie s.intake.consumeOffset) =
          State.discardNoFont { t with composer := s.composer } s.intake.consumeOffset := by
        rw [(State.takeToken_setting (by rw [hsame.composer]; exact hstate)).2.1,
          State.setTie_discards hready' (by rw [hsame.composer]; exact hgov), ← hsame.composer]
      obtain ⟨u, hu, hline, huse, hqueue, hcomposer, hagain, hfirst⟩ := hsame.discarded hwaits htodo htodo rfl htake
      exact ⟨u, hu ▸ hends, hline, huse, hqueue, hcomposer, hagain, hfirst⟩

end Sys2Proof.Machine
end

section
/-! PROOFS. The work that ends a job, entry by entry: what has been queued, and what is still to do (R11, R87 to R89, R105). -/

namespace Sys2Proof.Machine

/-! ### Work that has queued some entries -/

/-- The LINE entries among the entries queued. -/
def linesOf (done : List EntryKind) : List LineEntry := done.flatMap EntryKind.lines

theorem linesOf_concat (done : List EntryKind) (k : EntryKind) : linesOf (done ++ [k]) = linesOf done ++ k.lines := by
  simp [linesOf]

/-- The Composer once the entries `done` are queued, with the work `rest` in hand. -/
def Composer.progress (c : Composer) (done : List EntryKind) (rest : List Task) (line : Line) (word : WordRun) (noFont : Bool)
    (state : ComposerState) : Composer :=
  { c with
    line := line, word := word, noFont := noFont, state := state, todo := rest,
    pendingMarks := if done = [] then c.pendingMarks else [], ladder := ladderAfter c.ladder (linesOf done) }

/-- The copy's record once the entries `done` are queued. -/
def Intake.progress (i : Intake) (done : List EntryKind) (flags : JobFlags) : Intake :=
  { i with job.linesSet := (linesOf done).foldl (fun n _ => nextCount n) i.job.linesSet, job.flags := flags }

/-- `n` pieces of work get from `s` to `t`, with the entries `done` queued and the work `rest` still in hand. -/
structure Doing (n : Nat) (s t : State) (done : List EntryKind) (rest : List Task) (flags : JobFlags) : Prop where
  works : State.Works n s t
  frame : LineFrame (linesOf done) s t
  composer : t.composer =
    s.composer.progress done rest t.composer.line t.composer.word t.composer.noFont t.composer.state
  intake : t.intake = s.intake.progress done flags
  queue : t.queue = s.queue ++ s.entriesFor done
  working : t.composerWaits = false

theorem State.entriesFor_concat (s : State) (done : List EntryKind) (k : EntryKind) :
    s.entriesFor (done ++ [k]) = s.entriesFor done ++
      [{ s.entryFor k with marks := if done = [] then s.composer.pendingMarks else [] }] := by
  unfold State.entriesFor
  rw [List.mapIdx_concat]
  cases done with
  | nil => rfl
  | cons x done => rfl

theorem State.length_entriesFor (s : State) (done : List EntryKind) : (s.entriesFor done).length = done.length := by
  simp [State.entriesFor]

theorem ladderAfter_append (n : Nat) (a b : List LineEntry) : ladderAfter n (a ++ b) = ladderAfter (ladderAfter n a) b :=
  List.foldl_append

section
variable {n : Nat} {s t : State} {done : List EntryKind} {rest : List Task} {flags : JobFlags} {k : EntryKind}

theorem Doing.reaches (h : Doing n s t done rest flags) :
    Reaches (linesOf done) s t t.composer (s.intake.progress done flags) (s.queue ++ s.entriesFor done) :=
  ⟨h.frame, rfl, h.intake, h.queue⟩

theorem Doing.entryFor (h : Doing n s t done rest flags) (k : EntryKind) :
    t.entryFor k = { s.entryFor k with marks := if done = [] then s.composer.pendingMarks else [] } := by
  have hmarks : t.composer.pendingMarks = if done = [] then s.composer.pendingMarks else [] := by
    rw [h.composer]
    rfl
  rw [h.reaches.entryFor rfl rfl rfl k, hmarks]

/-- The next entry finds room. -/
theorem Doing.offer (h : Doing n s t done (.offer k :: rest) flags) (hroom : s.queue.length + done.length < 6) :
    ∃ u, Doing (n + 1) s u (done ++ [k]) rest flags ∧ StatusStands t u
      ∧ u.composer.line = t.composer.line ∧ u.composer.word = t.composer.word ∧ u.composer.noFont = t.composer.noFont
      ∧ u.composer.state = t.composer.state := by
  have htodo : t.composer.todo = .offer k :: rest := by
    rw [h.composer]
    rfl
  have hlength : t.queue.length < 6 := by
    rw [h.queue, List.length_append, State.length_entriesFor]
    exact hroom
  obtain ⟨u, hoffer⟩ := State.does_offer h.working htodo hlength
  have hcomposer := hoffer.composer
  refine ⟨u, ⟨h.works.trans hoffer.works, ?_, ?_, ?_, ?_, ?_⟩, hoffer.stands, ?_, ?_, ?_, ?_⟩
  · rw [linesOf_concat]
    exact h.frame.trans hoffer.frame
  · have hnil : ¬ done ++ [k] = [] := by simp
    have hladder : t.composer.ladder = ladderAfter s.composer.ladder (linesOf done) := by
      rw [h.composer]
      rfl
    unfold Composer.progress
    rw [if_neg hnil, linesOf_concat, ladderAfter_append, ← hladder, hcomposer]
    have hc := h.composer
    generalize t.composer = d at hc ⊢
    rw [hc]
    rfl
  · rw [hoffer.intake, h.intake]
    unfold Intake.accepted Intake.progress
    dsimp only
    rw [linesOf_concat, List.foldl_append]
  · rw [hoffer.queue, h.queue, h.entryFor, State.entriesFor_concat, List.append_assoc]
  · exact (State.composerWaits_congr (by rw [hcomposer]; rfl)).trans h.working
  all_goals
    rw [hcomposer]
    rfl

/-- An entry of a job's end is held: the entries `done` are queued, and the work in hand ends with `last`. -/
structure HeldAt (s u : State) (done : List EntryKind) (held : EntryKind) (last : Task) : Prop where
  works : ∃ n ≤ 64, State.Works n s u
  frame : LineFrame (linesOf done) s u
  queue : u.queue = s.queue ++ s.entriesFor done
  state : u.composer.state = .queueWait
  held : u.composer.held = some (.entry held)
  last : u.composer.todo.getLast? = some last
  pendingMarks : u.composer.pendingMarks = if done = [] then s.composer.pendingMarks else []
  ladder : u.composer.ladder = ladderAfter s.composer.ladder (linesOf done)
  inProgress : u.intake.job.inProgress = s.intake.job.inProgress
  number : u.intake.job.number = s.intake.job.number
  serial : u.intake.job.serial = s.intake.job.serial

/-- The next entry finds the queue full. -/
theorem Doing.offer_full (h : Doing n s t done (.offer k :: rest) flags) (hn : n ≤ 63)
    (hfull : 6 ≤ s.queue.length + done.length) {last : Task} (hlast : rest.getLast? = some last) :
    ∃ u, HeldAt s u done k last ∧ StatusStands t u := by
  have htodo : t.composer.todo = .offer k :: rest := by
    rw [h.composer]
    rfl
  have hlength : 6 ≤ t.queue.length := by
    rw [h.queue, List.length_append, State.length_entriesFor]
    exact hfull
  obtain ⟨u, hoffer⟩ := State.does_offer_full h.working htodo hlength
  have hcomposer := hoffer.composer
  rw [h.composer] at hcomposer
  have hintake : u.intake = s.intake.progress done flags := hoffer.intake.trans h.intake
  refine ⟨u, ⟨⟨n + 1, by omega, h.works.trans hoffer.works⟩, h.frame.copyFrame ⟨hoffer.frame, hoffer.stands⟩,
    hoffer.queue.trans h.queue, ?_, ?_, ?_, ?_, ?_, ?_, ?_, ?_⟩, hoffer.stands⟩
  case refine_3 =>
    rw [hcomposer]
    exact hlast
  case refine_1 | refine_2 => rw [hcomposer]
  case refine_4 | refine_5 =>
    rw [hcomposer]
    rfl
  all_goals
    rw [hintake]
    rfl

/-- The line under composition is ended LEFT. -/
theorem Doing.endLine (h : Doing n s t done (.endLine .left false :: rest) flags) {kinds : List EntryKind}
    (hkinds : kinds = if stripSpaces t.composer.line.items = [] then []
      else [.line (s.endedLine t.composer.line (nextCount (s.intake.progress done flags).job.linesSet) .left)]) :
    ∃ u, Doing (n + 1) s u done (kinds.map .offer ++ rest) flags ∧ StatusStands t u ∧ u.composer.line = Line.empty
      ∧ u.composer.word = WordRun.none ∧ u.composer.noFont = false ∧ u.composer.state = t.composer.state := by
  have htodo : t.composer.todo = .endLine .left false :: rest := by
    rw [h.composer]
    rfl
  have hended : t.endedLine = s.endedLine := by
    refine State.endedLine_congr ?_ ?_ ?_
    · rw [h.intake]
      rfl
    · rw [h.composer]
      rfl
    · rw [h.composer]
      rfl
  obtain ⟨u, hend⟩ : ∃ u, Does 1 [] t u (t.composer.ended (kinds.map .offer ++ rest)) t.intake t.queue := by
    by_cases hitems : stripSpaces t.composer.line.items = []
    · rw [hkinds, if_pos hitems]
      exact State.does_endLine_nil h.working htodo hitems
    · rw [hkinds, if_neg hitems, ← hended, ← h.intake]
      exact State.does_endLine h.working htodo (.inr hitems)
  have hcomposer := hend.composer
  refine ⟨u, ⟨h.works.trans hend.works, h.frame.copyFrame ⟨hend.frame, hend.stands⟩, ?_, hend.intake.trans h.intake,
    hend.queue.trans h.queue, (State.composerWaits_congr (by rw [hcomposer]; rfl)).trans h.working⟩, hend.stands, ?_, ?_, ?_, ?_⟩
  · have hc := h.composer
    rw [hcomposer]
    generalize t.composer = d at hc ⊢
    rw [hc]
    rfl
  · exact congrArg Composer.line hcomposer
  · exact congrArg Composer.word hcomposer
  · exact congrArg Composer.noFont hcomposer
  · exact (congrArg Composer.state hcomposer :)

/-- The JOBEND is made. -/
theorem Doing.jobEnd {o : JobOutcome} {given : Word} (h : Doing n s t done (.jobEnd o given :: rest) flags)
    {flags' : JobFlags} (hflags : flags' = { flags with sumMismatch := decide (o = .complete ∧ given ≠ s.intake.job.sum) })
    {k : EntryKind} (hk : k = .jobEnd {
      job := s.intake.job.number, outcome := o, linesSet := (s.intake.progress done flags).job.linesSet,
      sumComputed := s.intake.job.sum, sumGiven := given, flags := flags' }) :
    ∃ u, Doing (n + 1) s u done (.offer k :: rest) flags' ∧ StatusStands t u
      ∧ u.composer.line = t.composer.line ∧ u.composer.word = t.composer.word ∧ u.composer.noFont = t.composer.noFont
      ∧ u.composer.state = t.composer.state := by
  have htodo : t.composer.todo = .jobEnd o given :: rest := by
    rw [h.composer]
    rfl
  have hjob : t.intake.job.number = s.intake.job.number ∧ t.intake.job.sum = s.intake.job.sum
      ∧ t.intake.job.linesSet = (s.intake.progress done flags).job.linesSet ∧ t.intake.job.flags = flags := by
    rw [h.intake]
    exact ⟨rfl, rfl, rfl, rfl⟩
  obtain ⟨hnumber, hsum, hlines, hjobFlags⟩ := hjob
  have hmade : (t.given rest).doTask (.jobEnd o given) =
      { t with intake.job.flags := flags', composer.todo := .offer k :: rest } := by
    show (t.given rest).makeJobEnd o given = _
    unfold State.makeJobEnd
    dsimp only
    rw [hsum, hjobFlags, hnumber, hlines, ← hflags, ← hk]
    rfl
  have hframe := CopyFrame.composer t { t.composer with todo := .offer k :: rest } { t.intake.job with flags := flags' } t.queue
  refine ⟨_, ⟨h.works.trans (.step h.working htodo hmade), h.frame.copyFrame hframe, ?_, ?_, h.queue, h.working⟩, hframe.2,
    rfl, rfl, rfl, rfl⟩
  · have hc := h.composer
    dsimp only
    generalize t.composer = d at hc ⊢
    rw [hc]
    rfl
  · dsimp only
    rw [h.intake]
    rfl

/-! ### A job's end: the line, the JOBEND, and what follows -/

/-- The work that ends a job. -/
abbrev endingTasks (o : JobOutcome) (given : Word) (last : Task) : List Task :=
  [.endLine .left false, .jobEnd o given, last]

/-- The line that ends LEFT makes an entry when it has items, and none otherwise. -/
def State.leftLines (s : State) (l : Line) (count : Nat) : List LineEntry :=
  if stripSpaces l.items = [] then [] else [s.endedLine l (nextCount count) .left]

/-- The record of a job's end. -/
def JobState.ending (j : JobState) (o : JobOutcome) (given : Word) (count : Nat) (flags : JobFlags) : EntryKind :=
  .jobEnd { job := j.number, outcome := o, linesSet := count, sumComputed := j.sum, sumGiven := given, flags := flags }

section
variable {o : JobOutcome} {given : Word} {last : Task} {lines : List LineEntry} {count : Nat}

theorem linesOf_append (a b : List EntryKind) : linesOf (a ++ b) = linesOf a ++ linesOf b := List.flatMap_append

theorem linesOf_map (lines : List LineEntry) : linesOf (lines.map EntryKind.line) = lines := by
  induction lines with
  | nil => rfl
  | cons e lines ih => exact congrArg (e :: ·) ih

theorem Intake.progress_linesSet (i : Intake) (done : List EntryKind) (flags : JobFlags) :
    (i.progress done flags).job.linesSet = (linesOf done).foldl (fun n _ => nextCount n) i.job.linesSet := rfl

theorem State.leftLines_cases (s : State) (l : Line) (count : Nat) :
    (s.leftLines l count = [] ∨ ∃ e, s.leftLines l count = [e])
      ∧ (s.leftLines l count).map EntryKind.line = if stripSpaces l.items = [] then []
        else [.line (s.endedLine l (nextCount count) .left)] := by
  unfold State.leftLines
  split
  · exact ⟨.inl rfl, rfl⟩
  · exact ⟨.inr ⟨_, rfl⟩, rfl⟩

/-- The queue has room for the JOBEND. -/
theorem Doing.closing (h : Doing n s t done [.jobEnd o given, last] flags)
    (hcount : (linesOf done).foldl (fun n _ => nextCount n) s.intake.job.linesSet = count)
    {flags' : JobFlags} (hflags : flags' = { flags with sumMismatch := decide (o = .complete ∧ given ≠ s.intake.job.sum) })
    (hroom : s.queue.length + done.length < 6) :
    ∃ u, Doing (n + 2) s u (done ++ [s.intake.job.ending o given count flags']) [last] flags' ∧ StatusStands t u
      ∧ u.composer.line = t.composer.line ∧ u.composer.word = t.composer.word ∧ u.composer.noFont = t.composer.noFont
      ∧ u.composer.state = t.composer.state := by
  obtain ⟨v, hmade, hv, hvline, hvword, hvfont, hvstate⟩ := h.jobEnd hflags
    (k := s.intake.job.ending o given count flags') (by rw [Intake.progress_linesSet, hcount]; rfl)
  obtain ⟨u, hoffer, hu, huline, huword, hufont, hustate⟩ := hmade.offer hroom
  exact ⟨u, hoffer, hv.trans hu, huline.trans hvline, huword.trans hvword, hufont.trans hvfont, hustate.trans hvstate⟩

/-- The JOBEND finds the queue full. -/
theorem Doing.closing_full (h : Doing n s t done [.jobEnd o given, last] flags) (hn : n ≤ 62)
    (hcount : (linesOf done).foldl (fun n _ => nextCount n) s.intake.job.linesSet = count)
    {flags' : JobFlags} (hflags : flags' = { flags with sumMismatch := decide (o = .complete ∧ given ≠ s.intake.job.sum) })
    (hfull : 6 ≤ s.queue.length + done.length) :
    ∃ u, HeldAt s u done (s.intake.job.ending o given count flags') last ∧ StatusStands t u := by
  obtain ⟨v, hmade, hv, -⟩ := h.jobEnd hflags
    (k := s.intake.job.ending o given count flags') (by rw [Intake.progress_linesSet, hcount]; rfl)
  obtain ⟨u, hoffer, hu⟩ := hmade.offer_full (by omega) hfull (last := last) rfl
  exact ⟨u, hoffer, hv.trans hu⟩

/-- The queue has room for the line's entry, if any, and for the JOBEND. -/
theorem Doing.ending (h : Doing n s t done (endingTasks o given last) flags)
    (hlines : s.leftLines t.composer.line (s.intake.progress done flags).job.linesSet = lines)
    (hcount : (linesOf done ++ lines).foldl (fun n _ => nextCount n) s.intake.job.linesSet = count)
    {flags' : JobFlags} (hflags : flags' = { flags with sumMismatch := decide (o = .complete ∧ given ≠ s.intake.job.sum) })
    (hroom : s.queue.length + done.length + lines.length < 6) :
    ∃ u, ∃ m ≤ n + 4, Doing m s u (done ++ (lines.map .line ++ [s.intake.job.ending o given count flags'])) [last] flags'
      ∧ StatusStands t u ∧ u.composer.line = Line.empty ∧ u.composer.word = WordRun.none ∧ u.composer.noFont = false
      ∧ u.composer.state = t.composer.state := by
  obtain ⟨hcases, hkinds⟩ := s.leftLines_cases t.composer.line (s.intake.progress done flags).job.linesSet
  rw [hlines] at hcases hkinds
  obtain ⟨u, hend, hstands, hline, hword, hfont, hstate⟩ := h.endLine hkinds
  rcases hcases with rfl | ⟨e, rfl⟩
  · rw [List.append_nil] at hcount
    obtain ⟨y, hclosing, hy, hyline, hyword, hyfont, hystate⟩ := hend.closing hcount hflags hroom
    exact ⟨y, n + 1 + 2, by omega, hclosing, hstands.trans hy, hyline.trans hline, hyword.trans hword,
      hyfont.trans hfont, hystate.trans hstate⟩
  · rw [List.length_singleton] at hroom
    obtain ⟨v, hoffer, hv, hvline, hvword, hvfont, hvstate⟩ := hend.offer (by omega)
    obtain ⟨y, hclosing, hy, hyline, hyword, hyfont, hystate⟩ := hoffer.closing (count := count)
      (by rw [linesOf_concat]; exact hcount) hflags
      (by rw [List.length_append, List.length_singleton]; omega)
    rw [List.append_assoc] at hclosing
    exact ⟨y, n + 1 + 1 + 2, by omega, hclosing, hstands.trans (hv.trans hy), hyline.trans (hvline.trans hline),
      hyword.trans (hvword.trans hword), hyfont.trans (hvfont.trans hfont), hystate.trans (hvstate.trans hstate)⟩

/-- Entry `j` of them finds the queue full. -/
theorem Doing.ending_full (h : Doing n s t done (endingTasks o given last) flags) (hn : n ≤ 60)
    (hlines : s.leftLines t.composer.line (s.intake.progress done flags).job.linesSet = lines)
    (hcount : (linesOf done ++ lines).foldl (fun n _ => nextCount n) s.intake.job.linesSet = count)
    {flags' : JobFlags} (hflags : flags' = { flags with sumMismatch := decide (o = .complete ∧ given ≠ s.intake.job.sum) })
    {j : Nat} {held : EntryKind}
    (hheld : (lines.map EntryKind.line ++ [s.intake.job.ending o given count flags'])[j]? = some held)
    (hfull : 6 ≤ s.queue.length + done.length + j) (hfirst : j = 0 ∨ s.queue.length + done.length + j = 6) :
    ∃ u, HeldAt s u (done ++ (lines.map EntryKind.line ++ [s.intake.job.ending o given count flags']).take j) held last
      ∧ StatusStands t u := by
  obtain ⟨hcases, hkinds⟩ := s.leftLines_cases t.composer.line (s.intake.progress done flags).job.linesSet
  rw [hlines] at hcases hkinds
  obtain ⟨u, hend, hstands, -⟩ := h.endLine hkinds
  rcases hcases with rfl | ⟨e, rfl⟩
  · match j, hheld with
    | 0, hheld =>
      cases hheld
      rw [List.append_nil] at hcount
      rw [List.take_zero, List.append_nil]
      obtain ⟨v, hclosing, hv⟩ := hend.closing_full (by omega) hcount hflags hfull
      exact ⟨v, hclosing, hstands.trans hv⟩
  · match j, hheld with
    | 0, hheld =>
      cases hheld
      rw [List.take_zero, List.append_nil]
      obtain ⟨v, hoffer, hv⟩ := hend.offer_full (by omega) hfull (last := last) rfl
      exact ⟨v, hoffer, hstands.trans hv⟩
    | 1, hheld =>
      cases hheld
      obtain ⟨v, hoffer, hv, -⟩ := hend.offer (by omega)
      obtain ⟨y, hclosing, hy⟩ := hoffer.closing_full (count := count) (by omega)
        (by rw [linesOf_concat]; exact hcount) hflags
        (by rw [List.length_append]; exact hfull)
      exact ⟨y, hclosing, hstands.trans (hv.trans hy)⟩

end

end

end Sys2Proof.Machine
end

section
/-! PROOFS. JOB and ENDJOB: how a job begins, and how one ends from SETTING and from LOOKAHEAD (R26, R87 to R89, R105). -/

namespace Sys2Proof.Machine

/-! ### A job begins, and a job is over -/

/-- The Composer when a job has begun (R88). -/
def Composer.jobBegun (c : Composer) (lenses : Vector Nat 8) : Composer :=
  { c with
    state := .setting, measure := 3600, lead := 240, sizeAsked := 20, lens := (chooseLens lenses 20).1,
    lensSize := lenses[(chooseLens lenses 20).1], sizeSub := (chooseLens lenses 20).2, current := none, fontSub := false,
    line := Line.empty, word := WordRun.none, noFont := false, ladder := 0, pendingMarks := [], todo := [] }

/-- The record of job `n` when it has begun after the job `j` (R88). -/
def JobState.begun (j : JobState) (n : Word) : JobState :=
  { inProgress := true, number := n, serial := j.serial + 1, linesSet := 0, sum := 0, flags := JobFlags.none }

section
variable {s : State}

theorem State.does_beginJob {n : Word} (hwaits : s.composerWaits = false) (htodo : s.composer.todo = [.beginJob n]) :
    ∃ t, Does 1 [] s t (s.composer.jobBegun s.font.lenses) { s.intake with job := s.intake.job.begun n } s.queue := by
  have hbegin : (s.given []).doTask (.beginJob n) =
      ((State.markIf { s with
          composer := { s.composer.jobBegun s.font.lenses with state := s.composer.state }
          intake.job := s.intake.job.begun n } (s.currentJob != n) [6]).markIf (s.intake.job.linesSet != 0) [7]).setComposer
        .setting := rfl
  have hframe : CopyFrame (s.given []) ({ s with
      composer := { s.composer.jobBegun s.font.lenses with state := s.composer.state }
      intake.job := s.intake.job.begun n } : State) :=
    CopyFrame.composer (s.given []) _ _ s.queue
  have hmark := (CopyFrame.markIf ({ s with
      composer := { s.composer.jobBegun s.font.lenses with state := s.composer.state }
      intake.job := s.intake.job.begun n } : State) (s.currentJob != n) [6]).trans
    (CopyFrame.markIf _ (s.intake.job.linesSet != 0) [7])
  have hall := (hframe.trans hmark).trans (State.setComposer_copyFrame _ .setting)
  refine ⟨_, Does.step hwaits htodo hbegin ⟨hall.1, ?_, ?_, ?_⟩ hall.2⟩
  · rw [State.setComposer_composer, State.markIf_frame, State.markIf_frame]
    rfl
  · rw [State.setComposer_intake, State.markIf_frame, State.markIf_frame]
  · rw [State.setComposer_queue, State.markIf_frame, State.markIf_frame]

theorem State.does_leaveJob (hwaits : s.composerWaits = false) (htodo : s.composer.todo = [.leaveJob]) :
    ∃ t, Does 1 [] s t { s.composer with state := .outsideJob, todo := [] }
      { s.intake with job := { s.intake.job with inProgress := false } } s.queue := by
  have hframe : CopyFrame (s.given []) ({ s.given [] with intake.job.inProgress := false } : State) :=
    CopyFrame.composer (s.given []) _ _ s.queue
  have hall := (hframe.trans (CopyFrame.mark _ [6])).trans (State.setComposer_copyFrame _ .outsideJob)
  have hleave : (s.given []).doTask .leaveJob =
      (State.mark { s.given [] with intake.job.inProgress := false } [6]).setComposer .outsideJob := rfl
  refine ⟨_, Does.step hwaits htodo hleave ⟨hall.1, ?_, ?_, ?_⟩ hall.2⟩
  · rw [State.setComposer_composer]
    rfl
  · rw [State.setComposer_intake]
    rfl
  · rw [State.setComposer_queue]
    rfl

theorem jobBegun_of {s t : State} {n : Word} (hjob : t.intake.job = s.intake.job.begun n)
    (hcomposer : t.composer = s.composer.jobBegun s.font.lenses) : JobBegun s t n := by
  refine ⟨hjob, ?_, ?_⟩
  · rw [hcomposer]
    exact chooseLens_serves _ _
  · have hlens : t.composer.lens = (chooseLens s.font.lenses 20).1 := (congrArg Composer.lens hcomposer :)
    have hsub : t.composer.sizeSub = (chooseLens s.font.lenses 20).2 := (congrArg Composer.sizeSub hcomposer :)
    simp only [hlens, hsub]
    exact hcomposer

end

/-! ### The entries that the end of a job queues -/

/-- What the work that ends a job comes to: it queues entries of these kinds, in turn, when the queue has room for all of
them, and else holds the first that finds it full. -/
structure EndsJob (s : State) (kinds : List EntryKind) (flags : JobFlags) (last : Task) (overset : Bool) (items : List Item) :
    Prop where
  room : s.queue.length + kinds.length ≤ 6 → ∃ u, ∃ m ≤ 62, Doing m s u kinds [last] flags ∧ BreakStatus s u overset items
    ∧ u.composer.line = Line.empty ∧ u.composer.word = WordRun.none ∧ u.composer.noFont = false
  full : ∀ (k : Nat) (held : EntryKind), kinds[k]? = some held → 6 ≤ s.queue.length + k →
    k = 0 ∨ s.queue.length + k = 6 → ∃ u, HeldAt s u (kinds.take k) held last ∧ BreakStatus s u overset items

section
variable {s : State} {o : JobOutcome} {given : Word} {last : Task} {lines : List LineEntry} {count : Nat} {flags : JobFlags}

/-- In SETTING the line under composition is ended LEFT. -/
theorem State.endsJob_setting (hwaits : s.composerWaits = false)
    (htodo : s.composer.todo = endingTasks o given last)
    (hlines : s.leftLines s.composer.line s.intake.job.linesSet = lines)
    (hcount : lines.foldl (fun n _ => nextCount n) s.intake.job.linesSet = count)
    (hflags : flags = { s.intake.job.flags with sumMismatch := decide (o = .complete ∧ given ≠ s.intake.job.sum) })
    (items : List Item) :
    EndsJob s (lines.map .line ++ [s.intake.job.ending o given count flags]) flags last false items := by
  have hstart : Doing 0 s s [] (endingTasks o given last) s.intake.job.flags := by
    refine ⟨.refl s, (CopyFrame.refl s).1, ?_, rfl, (List.append_nil _).symm, hwaits⟩
    rw [← htodo]
    rfl
  have hstatus {u : State} (h : StatusStands s u) : BreakStatus s u false items := ⟨fun _ => h, fun h => nomatch h⟩
  constructor
  · intro hroom
    rw [List.length_append, List.length_map, List.length_singleton] at hroom
    obtain ⟨u, m, hm, hdoing, hstands, hline, hword, hfont, -⟩ := hstart.ending hlines hcount hflags
      (by rw [List.length_nil]; omega)
    exact ⟨u, m, by omega, hdoing, hstatus hstands, hline, hword, hfont⟩
  · intro k held hheld hfull hfirst
    obtain ⟨u, hu, hstands⟩ := hstart.ending_full (Nat.zero_le _) hlines hcount hflags hheld hfull hfirst
    exact ⟨u, hu, hstatus hstands⟩

/-- In LOOKAHEAD the word is ended first, and then the line that the carried items begin. -/
theorem State.endsJob_lookahead (hwaits : s.composerWaits = false)
    (htodo : s.composer.todo = .breakLine false :: endingTasks o given last) {b : Break} (hchoice : s.BreakChoice false b)
    {next : Line} (hnext : s.carriedLine b.carried s.composer.line.gov = next)
    (hfits : next.sums.minWidth ≤ next.measure * 32)
    (hlines : s.leftLines next (nextCount s.intake.job.linesSet) = lines)
    (hcount : (b.entry :: lines).foldl (fun n _ => nextCount n) s.intake.job.linesSet = count)
    (hflags : flags = { s.intake.job.flags.afterBreak b with
      sumMismatch := decide (o = .complete ∧ given ≠ s.intake.job.sum) }) :
    EndsJob s ((b.entry :: lines).map .line ++ [s.intake.job.ending o given count flags]) flags last b.overset
      s.composer.line.items := by
  have hstart (hroom : s.queue.length < 6) : ∃ t, Doing 4 s t [.line b.entry] (endingTasks o given last)
      (s.intake.job.flags.afterBreak b) ∧ BreakStatus s t b.overset s.composer.line.items ∧ t.composer.line = next := by
    obtain ⟨t, hwork, hreach, hstatus⟩ := State.does_break hwaits htodo hchoice hroom hnext hfits
    refine ⟨t, ⟨hwork, hreach.frame, ?_, ?_, ?_, ?_⟩, hstatus, ?_⟩
    · rw [hreach.composer]
      rfl
    · rw [hreach.intake]
      rfl
    · rw [hreach.queue]
      rfl
    · exact State.composerWaits_false (.inl (by rw [hreach.composer]; rfl))
    · rw [hreach.composer]
      rfl
  constructor
  · intro hroom
    rw [List.length_append, List.length_map, List.length_singleton, List.length_cons] at hroom
    obtain ⟨t, hbroken, hstatus, hline⟩ := hstart (by omega)
    obtain ⟨u, m, hm, hdoing, hstands, hrest⟩ := hbroken.ending (by rw [hline]; exact hlines) hcount hflags
      (by rw [List.length_singleton]; omega)
    obtain ⟨hline', hword, hfont, -⟩ := hrest
    exact ⟨u, m, by omega, hdoing, hstatus.after hstands, hline', hword, hfont⟩
  · intro k held hheld hfull hfirst
    cases k with
    | zero =>
      cases hheld
      obtain ⟨t, hwork, hreach, hstatus⟩ := State.does_break_full hwaits htodo hchoice hfull
      refine ⟨t, ⟨⟨2, by omega, hwork⟩, hreach.frame, ?_, ?_, ?_, ?_, ?_, ?_, ?_, ?_, ?_⟩, hstatus⟩
      · exact hreach.queue.trans (List.append_nil _).symm
      case refine_7 | refine_8 | refine_9 => rw [hreach.intake]
      · exact (congrArg Composer.state hreach.composer :)
      · exact (congrArg Composer.held hreach.composer :)
      · rw [hreach.composer]
        rfl
      · exact (congrArg Composer.pendingMarks hreach.composer :)
      · exact (congrArg Composer.ladder hreach.composer :)
    | succ j =>
      have hroom : s.queue.length + (j + 1) = 6 := hfirst.resolve_left (Nat.succ_ne_zero j)
      obtain ⟨t, hbroken, hstatus, hline⟩ := hstart (by omega)
      obtain ⟨u, hu, hstands⟩ := hbroken.ending_full (by omega) (by rw [hline]; exact hlines) hcount hflags (j := j) hheld
        (by rw [List.length_singleton]; omega) (.inr (by rw [List.length_singleton]; omega))
      exact ⟨u, hu, hstatus.after hstands⟩

end

end Sys2Proof.Machine
end

section
/-! PROOFS. JOB and ENDJOB: the statement about them (R11, R26, R87 to R90, R99, R105). -/

namespace Sys2Proof.Machine

/-! ### The words of JOB and ENDJOB stay out of the galley sum (R90) -/

/-- A command that takes effect with its only word expects no operands (R85). -/
theorem operandCount_of_effect {w : Word} {c : Cmd} (h : classify w = .effect c) : c.operandCount (inlineByte w) = 0 := by
  unfold classify at h
  dsimp only at h
  split_ifs at h
  split at h
  next => cases h
  next d _ =>
    split_ifs at h with hcount
    cases h
    exact hcount

theorem CommandNext.endsSum {s : State} {c : Cmd} {w : Word} (h : CommandNext s c w) (hc : c = .job ∨ c = .endjob) :
    s.endsSum w = true := by
  obtain ⟨-, hrow, hhead⟩ := h
  obtain ⟨rest, hrun⟩ := run_of_head hhead
  unfold State.nextRow at hrow
  rw [hrun] at hrow
  unfold State.endsSum
  cases hdecoder : s.intake.decoder with
  | none =>
    rw [hdecoder] at hrow
    split at hrow
    next =>
      have hzero := operandCount_of_effect (Option.some.inj hrow)
      rcases hc with rfl | rfl <;> cases hzero
    next => cases hrow
  | some d =>
    rw [hdecoder] at hrow
    dsimp only at hrow ⊢
    split at hrow
    next =>
      split at hrow
      next =>
        cases hrow
        rcases hc with hc | hc <;> rw [hc] <;> rfl
      next => cases hrow
    next => cases hrow

/-- The job stands at the last word of JOB and of ENDJOB. -/
theorem CommandNext.decoded_job {s : State} {c : Cmd} {w : Word} (h : CommandNext s c w) (hc : c = .job ∨ c = .endjob) :
    (s.decoded w).intake.job = s.intake.job := by
  have hsum := h.endsSum hc
  have hconsume : (s.consume w).intake.job = { s.intake.job with
      sum :=
        if s.intake.job.inProgress ∧ s.endsSum w = false then s.intake.job.sum.rotateLeft 1 + w else s.intake.job.sum } :=
    (congrArg (fun t : State => t.intake.job) (State.consume_eq s w) :)
  rw [if_neg fun hroll => by simp [hsum] at hroll] at hconsume
  rw [State.decoded_eq, State.undecoded_job, hconsume]

/-! ### The work that ends a job, done -/

theorem State.entriesFor_take (s : State) (kinds : List EntryKind) (k : Nat) :
    s.entriesFor (kinds.take k) = (s.entriesFor kinds).take k := by
  unfold State.entriesFor
  refine List.ext_getElem? fun i => ?_
  rw [List.getElem?_mapIdx, List.getElem?_take, List.getElem?_take]
  by_cases hi : i < k
  · rw [if_pos hi, if_pos hi, List.getElem?_mapIdx]
  · rw [if_neg hi, if_neg hi]
    rfl

theorem LineFrame.lenses {s t : State} {lines : List LineEntry} (h : LineFrame lines s t) : t.font.lenses = s.font.lenses := by
  obtain ⟨-, -, -, -, -, -, -, -, hfont, -⟩ := h
  rw [hfont]

/-- The last piece of the work is done. -/
theorem Doing.runTasks {m : Nat} {s u v : State} {kinds : List EntryKind} {rest : List Task} {flags : JobFlags} {c : Composer}
    {i : Intake} (h : Doing m s u kinds rest flags) (hm : m ≤ 62) (hlast : Does 1 [] u v c i u.queue) (hc : c.todo = []) :
    Reaches (linesOf kinds) s s.runTasks c i (s.queue ++ s.entriesFor kinds) ∧ InUseUpToDate s.runTasks
      ∧ StatusStands u s.runTasks := by
  have hall := h.reaches.trans hlast.toReaches
  rw [List.append_nil, h.queue] at hall
  obtain ⟨hreach, huse, hstands⟩ := hall.runTasks (h.works.trans hlast.works) (by omega) (.inl hc)
  exact ⟨hreach, huse, hlast.stands.trans hstands⟩

section
variable {s t : State} {l : List Task} {kinds : List EntryKind} {flags : JobFlags} {last : Task} {overset : Bool}
  {items : List Item}

/-- The state in which the work begins stands for the state before the command. -/
theorem SameCopy.given (h : SameCopy s t) (htodo : s.composer.todo = []) (l : List Task) :
    t.work l = (t.given l).runTasks ∧ CopyFrame s (t.given l) ∧ (t.given l).queue = s.queue
      ∧ (∀ kinds, (t.given l).entriesFor kinds = s.entriesFor kinds)
      ∧ (∀ {u : State} {overset : Bool} {items : List Item}, BreakStatus (t.given l) u overset items →
        BreakStatus s u overset items) := by
  have hframe := h.frame.trans (t.given_copyFrame l)
  refine ⟨State.work_eq (by rw [h.composer]; exact htodo) l, hframe, h.queue, h.entriesFor, ?_⟩
  exact fun hstatus => .before hframe.2 h.number h.linesSet hstatus

/-- The queue has room for all the entries. -/
theorem SameCopy.endsJob_room (h : SameCopy s t) (hjob : t.intake.job = s.intake.job) (htodo : s.composer.todo = [])
    (he : EndsJob (t.given l) kinds flags last overset items) (hroom : s.queue.length + kinds.length ≤ 6)
    (hkinds : kinds ≠ []) (hlast : last = .leaveJob ∨ ∃ n, last = .beginJob n) :
    LineFrame (linesOf kinds) s (t.work l) ∧ BreakStatus s (t.work l) overset items ∧ InUseUpToDate (t.work l)
      ∧ (t.work l).queue = s.queue ++ s.entriesFor kinds
      ∧ (t.work l).intake = { t.intake with job := (t.work l).intake.job }
      ∧ (∀ n, last = .beginJob n → JobBegun s (t.work l) n)
      ∧ (last = .leaveJob →
        (t.work l).composer = { s.composer with
            state := .outsideJob, line := Line.empty, word := WordRun.none, noFont := false, pendingMarks := [],
            ladder := ladderAfter s.composer.ladder (linesOf kinds) }
          ∧ (t.work l).intake.job = { s.intake.job with
            inProgress := false, linesSet := (linesOf kinds).foldl (fun k _ => nextCount k) s.intake.job.linesSet,
            flags := flags }) := by
  obtain ⟨hwork, hframe, hqueue, hentries, hbefore⟩ := h.given htodo l
  rw [hwork]
  obtain ⟨u, m, hm, hdoing, hstatus, hline, hword, hfont⟩ := he.room (by rw [hqueue]; exact hroom)
  have htasks : u.composer.todo = [last] := by
    rw [hdoing.composer]
    rfl
  have hcomposer := hdoing.composer
  have hintake := hdoing.intake
  rw [hline, hword, hfont] at hcomposer
  unfold Composer.progress at hcomposer
  have hgiven : (t.given l).composer = { s.composer with todo := l } := by
    rw [← h.composer]
  rw [if_neg hkinds, hgiven] at hcomposer
  unfold Intake.progress at hintake
  dsimp only at hintake
  rcases hlast with rfl | ⟨n, rfl⟩
  · obtain ⟨v, hleave⟩ := State.does_leaveJob hdoing.working htasks
    obtain ⟨hreach, huse, hstands⟩ := hdoing.runTasks hm hleave rfl
    have hafter : ({ u.intake with job := { u.intake.job with inProgress := false } } : Intake) = { t.intake with
        job := { s.intake.job with
          inProgress := false, linesSet := (linesOf kinds).foldl (fun k _ => nextCount k) s.intake.job.linesSet,
          flags := flags } } := by
      rw [hintake, ← hjob]
    rw [hafter] at hreach
    refine ⟨hframe.lineFrame hreach.frame, hbefore (hstatus.after hstands), huse, ?_, ?_, fun _ h => (nomatch h),
      fun _ => ⟨?_, ?_⟩⟩
    · rw [hreach.queue, hqueue, hentries]
    · rw [hreach.intake]
    · rw [hreach.composer, ← htodo]
      generalize u.composer = d at hcomposer ⊢
      rw [hcomposer]
    · rw [hreach.intake]
  · obtain ⟨v, hbegin⟩ := State.does_beginJob hdoing.working htasks
    obtain ⟨hreach, huse, hstands⟩ := hdoing.runTasks hm hbegin rfl
    have hserial : u.intake.job.begun n = s.intake.job.begun n := by
      rw [hintake, ← hjob]
      rfl
    have hafter : ({ u.intake with job := u.intake.job.begun n } : Intake) = { t.intake with job := s.intake.job.begun n } := by
      rw [hserial, hintake]
    rw [hafter] at hreach
    refine ⟨hframe.lineFrame hreach.frame, hbefore (hstatus.after hstands), huse, ?_, ?_, ?_, fun h => (nomatch h)⟩
    · rw [hreach.queue, hqueue, hentries]
    · rw [hreach.intake]
    · intro _ hn
      cases hn
      refine jobBegun_of (by rw [hreach.intake]) ?_
      rw [hreach.composer, (hframe.lineFrame hdoing.frame).lenses, hcomposer]
      rfl

/-- Entry `k` of them finds the queue full. -/
theorem SameCopy.endsJob_full (h : SameCopy s t) (htodo : s.composer.todo = [])
    (he : EndsJob (t.given l) kinds flags last overset items) {k : Nat} {held : EntryKind} (hheld : kinds[k]? = some held)
    (hfull : 6 ≤ s.queue.length + k) (hfirst : k = 0 ∨ s.queue.length + k = 6) :
    LineFrame (linesOf (kinds.take k)) s (t.work l) ∧ BreakStatus s (t.work l) overset items ∧ InUseUpToDate (t.work l)
      ∧ (t.work l).queue = s.queue ++ (s.entriesFor kinds).take k ∧ (t.work l).composer.state = .queueWait
      ∧ (t.work l).composer.held = some (.entry held) ∧ (t.work l).composer.todo.getLast? = some last
      ∧ (t.work l).composer.pendingMarks = (if k = 0 then s.composer.pendingMarks else [])
      ∧ (t.work l).composer.ladder = ladderAfter s.composer.ladder (linesOf (kinds.take k))
      ∧ (t.work l).intake.job.inProgress = s.intake.job.inProgress
      ∧ (t.work l).intake.job.number = s.intake.job.number ∧ (t.work l).intake.job.serial = s.intake.job.serial := by
  obtain ⟨hwork, hframe, hqueue, hentries, hbefore⟩ := h.given htodo l
  obtain ⟨u, hu, hstatus⟩ := he.full k held hheld (by rw [hqueue]; exact hfull) (by rw [hqueue]; exact hfirst)
  obtain ⟨n, hn, hworks⟩ := hu.works
  have hrun : t.work l = u.refreshInUse :=
    hwork.trans (hworks.runTasks_of_waits hn (State.composerWaits_queueWait hu.state))
  have hnil : kinds.take k = [] ↔ k = 0 := by
    rw [List.take_eq_nil_iff]
    refine or_iff_left fun hkinds => ?_
    rw [hkinds] at hheld
    cases hheld
  have hcopy := u.refreshInUse_copyFrame
  have huse := u.refreshInUse_upToDate
  rw [hrun, u.refreshInUse_composer, u.refreshInUse_intake, u.refreshInUse_queue, hu.inProgress, hu.number, hu.serial,
    hu.queue, hu.pendingMarks, hu.ladder, hqueue, hentries, State.entriesFor_take]
  have hcomposer := h.composer
  refine ⟨hframe.lineFrame (hu.frame.copyFrame hcopy), hbefore (hstatus.after hcopy.2), huse, rfl, hu.state, hu.held,
    hu.last, ?_, ?_, h.inProgress, h.number, h.serial⟩
  · have hmarks : (t.given l).composer.pendingMarks = s.composer.pendingMarks := (congrArg Composer.pendingMarks hcomposer :)
    rw [hmarks]
    exact if_congr hnil rfl rfl
  · have hladder : (t.given l).composer.ladder = s.composer.ladder := (congrArg Composer.ladder hcomposer :)
    rw [hladder]

end

/-! ### What JOB and ENDJOB do -/

section
variable {t : State} {d : Command}

theorem State.rollSum_eq (t : State) (w : Word) : t.rollSum w =
    { t with intake.job.sum := if t.intake.job.inProgress then t.intake.job.sum.rotateLeft 1 + w else t.intake.job.sum } := by
  unfold State.rollSum
  cases t.intake.job.inProgress <;> rfl

theorem State.jobEffect_dropped (h : d.dropped = true) : t.jobEffect d = t := if_pos h

/-- JOB 0 is refused; inside a job its two words enter the galley sum (log 20). -/
theorem State.jobEffect_zero (h : d.dropped = false) (hzero : d.operand = 0) : t.jobEffect d =
    State.copyError { t with
      intake.job.sum := if t.intake.job.inProgress
        then (t.intake.job.sum.rotateLeft 1 + d.word).rotateLeft 1 + d.operand else t.intake.job.sum }
      .badOperand d.offset := by
  unfold State.jobEffect
  rw [if_neg (by simp [h]), if_pos hzero, State.rollSum_eq, State.rollSum_eq]
  unfold State.badOperand
  dsimp only
  cases t.intake.job.inProgress <;> rfl

theorem State.jobEffect_begins (h : d.dropped = false) (hd : d.operand ≠ 0)
    (hstate : t.composer.state = .outsideJob ∨ t.composer.state = .discarding) :
    t.jobEffect d = t.work [.beginJob d.operand] := by
  unfold State.jobEffect
  rw [if_neg (by simp [h]), if_neg hd]
  rcases hstate with hs | hs <;> rw [hs]

theorem State.jobEffect_ends (h : d.dropped = false) (hd : d.operand ≠ 0)
    (hstate : t.composer.state = .setting ∨ t.composer.state = .lookahead) :
    t.jobEffect d = t.work (t.endingWord (endingTasks .unterminated 0 (.beginJob d.operand))) := by
  unfold State.jobEffect
  rw [if_neg (by simp [h]), if_neg hd]
  rcases hstate with hs | hs <;> rw [hs]

end

section
variable {s t : State}

/-- Outside a job and in DISCARDING a job begins. -/
theorem SameCopy.beginJob (h : SameCopy s t) (hjob : t.intake.job = s.intake.job) (htodo : s.composer.todo = [])
    (hstate : s.composer.state = .outsideJob ∨ s.composer.state = .discarding) (n : Word) :
    CopyFrame s (t.work [.beginJob n]) ∧ InUseUpToDate (t.work [.beginJob n]) ∧ JobBegun s (t.work [.beginJob n]) n
      ∧ (t.work [.beginJob n]).queue = s.queue
      ∧ (t.work [.beginJob n]).intake = { t.intake with job := (t.work [.beginJob n]).intake.job } := by
  have hcomposer := h.composer
  rw [← hcomposer] at hstate
  obtain ⟨u, hbegin⟩ := State.does_beginJob (s := t.given [.beginJob n]) (n := n)
    (State.composerWaits_false (.inr (.inr hstate))) rfl
  have hgoes := (hbegin.work (by rw [hcomposer]; exact htodo) (by omega) (.inl rfl)).after h.frame
  refine ⟨⟨hgoes.frame, hgoes.stands⟩, hgoes.inUse, jobBegun_of ?_ ?_, ?_, ?_⟩
  · rw [hgoes.intake, ← hjob]
  · rw [hgoes.composer, ← h.frame.1.lenses, ← hcomposer]
    rfl
  · rw [hgoes.queue, ← h.queue]
  · rw [hgoes.intake]

theorem State.leftLines_eq (s : State) (l : Line) (count : Nat) : s.leftLines l count =
    if stripSpaces l.items = [] then []
    else [lineEntry s.intake.job.number (nextCount count) (l.over (stripSpaces l.items)) .left false false false] := by
  unfold State.leftLines State.endedLine
  by_cases h : stripSpaces l.items = []
  · rw [if_pos h, if_pos h]
  · rw [if_neg h, if_neg h, if_neg h]

/-- What ends a job in SETTING and in LOOKAHEAD. -/
theorem SameCopy.endsJob (h : SameCopy s t) (hjob : t.intake.job = s.intake.job) {o : JobOutcome} {given : Word}
    {last : Task} {lines : List LineEntry} {overset : Bool} {broken : JobFlags}
    (hcase : (s.composer.state = .setting ∧ overset = false ∧ broken = s.intake.job.flags
        ∧ lines = s.leftLines s.composer.line s.intake.job.linesSet)
      ∨ (s.composer.state = .lookahead ∧ ∃ b, s.BreakChoice false b ∧ overset = b.overset
        ∧ broken = s.intake.job.flags.afterBreak b
        ∧ (s.carriedLine b.carried s.composer.line.gov).sums.minWidth
          ≤ (s.carriedLine b.carried s.composer.line.gov).measure * 32
        ∧ lines = b.entry
          :: s.leftLines (s.carriedLine b.carried s.composer.line.gov) (nextCount s.intake.job.linesSet))) :
    EndsJob (t.given (t.endingWord (endingTasks o given last)))
      (lines.map .line ++ [s.intake.job.ending o given (lines.foldl (fun k _ => nextCount k) s.intake.job.linesSet)
        { broken with sumMismatch := decide (o = .complete ∧ given ≠ s.intake.job.sum) }])
      { broken with sumMismatch := decide (o = .complete ∧ given ≠ s.intake.job.sum) } last overset s.composer.line.items := by
  have hcomposer := h.composer
  have hline : t.composer.line = s.composer.line := by rw [hcomposer]
  have hleft (l : List Task) : (t.given l).leftLines = s.leftLines := by
    funext line count
    rw [State.leftLines_eq, State.leftLines_eq, ← hjob]
  rw [← hjob]
  rcases hcase with ⟨hstate, rfl, rfl, hlines⟩ | ⟨hstate, b, hchoice, rfl, rfl, hfits, hlines⟩
  · have hworking : t.composer.state = .setting := by rw [hcomposer, hstate]
    rw [State.endingWord_working (by rw [hworking]; decide)]
    refine State.endsJob_setting (s := t.given (endingTasks o given last))
      (State.composerWaits_false (.inl hworking)) rfl ?_ rfl ?_ s.composer.line.items
    · rw [hleft, hlines, ← hjob, ← hline]
    · rw [← hjob]
  · have hlookahead : t.composer.state = .lookahead := by rw [hcomposer, hstate]
    have hending : t.endingWord (endingTasks o given last) = .breakLine false :: endingTasks o given last :=
      if_pos hlookahead
    have hsame : SameForBreak t (t.given (.breakLine false :: endingTasks o given last)) :=
      ⟨rfl, rfl, rfl, rfl, rfl, rfl, rfl, rfl, rfl, rfl⟩
    have hnext : t.carriedLine b.carried t.composer.line.gov = s.carriedLine b.carried s.composer.line.gov := by
      rw [h.carriedLine, hline]
    rw [hending, hlines, ← hline]
    refine State.endsJob_lookahead (s := t.given (.breakLine false :: endingTasks o given last)) (b := b)
      (State.composerWaits_false (.inr (.inl hlookahead))) rfl
      ((hsame.breakChoice _ _).2 ((h.breakChoice _ _).2 hchoice)) hnext hfits ?_ rfl ?_
    · rw [hleft, ← hjob, hline]
    · rw [← hjob]

end

end Sys2Proof.Machine
end

section
/-! PROOFS. JOB and ENDJOB, put together (R86 to R90, R99, R105). -/

namespace Sys2Proof.Machine

section
variable {s : State} {w : Word}

theorem State.job_endsIn {u : State} (h : CommandNext s .job w) (hu : (s.decoded w).jobEffect (s.completedBy w) = u) :
    EndsIn (exec .job s) u := by
  have hexec : exec .job s = s.answer (s.onCommand .job State.jobEffect) := rfl
  rw [hexec]
  exact State.command_endsIn (f := State.jobEffect) h State.jobEffect_inner hu

/-- The copy's next word completes a command that ends the job in progress. -/
def EndingNext (s : State) (w n : Word) (c : Instr) (o : JobOutcome) (given : Word) (last : Task) : Prop :=
  (CommandNext s .job w ∧ c = .job ∧ (s.completedBy w).dropped = false ∧ n = (s.completedBy w).operand ∧ n ≠ 0
      ∧ o = .unterminated ∧ given = 0 ∧ last = .beginJob n)
    ∨ (CommandNext s .endjob w ∧ c = .endjob ∧ o = .complete ∧ given = (s.completedBy w).operand ∧ last = .leaveJob)

variable {n : Word} {c : Instr} {o : JobOutcome} {given : Word} {last : Task}

theorem EndingNext.endsIn (h : EndingNext s w n c o given last)
    (hstate : s.composer.state = .setting ∨ s.composer.state = .lookahead) :
    EndsIn (exec c s) ((s.decoded w).work ((s.decoded w).endingWord (endingTasks o given last))) := by
  rcases h with ⟨hnext, rfl, hdropped, rfl, hn, rfl, rfl, rfl⟩ | ⟨hnext, rfl, rfl, rfl, rfl⟩
  · exact State.job_endsIn hnext (State.jobEffect_ends hdropped hn (by rw [State.decoded_composer]; exact hstate))
  · have hexec : exec .endjob s = s.answer (s.onCommand .endjob (fun t d => t.jobCommand d (·.endjobEffect d))) := rfl
    rw [hexec]
    exact State.jobInside_endsIn (f := fun d t => t.endjobEffect d) hnext hstate
      (fun d t => State.endjobEffect_inner t d) rfl

theorem EndingNext.job (h : EndingNext s w n c o given last) : (s.decoded w).intake.job = s.intake.job := by
  rcases h with ⟨hnext, -⟩ | ⟨hnext, -⟩
  · exact hnext.decoded_job (.inl rfl)
  · exact hnext.decoded_job (.inr rfl)

/-- What follows the JOBEND. -/
theorem EndingNext.after (h : EndingNext s w n c o given last) :
    (c = .job → last = .beginJob n) ∧ (c = .endjob → last = .leaveJob)
      ∧ (last = .leaveJob ∨ ∃ n, last = .beginJob n) := by
  rcases h with ⟨-, rfl, -, -, -, -, -, rfl⟩ | ⟨-, rfl, -, -, rfl⟩
  · exact ⟨fun _ => rfl, fun h => (nomatch h), .inr ⟨n, rfl⟩⟩
  · exact ⟨fun h => (nomatch h), fun _ => rfl, .inl rfl⟩

theorem linesOf_kinds (lines : List LineEntry) (j : JobState) (o : JobOutcome) (given : Word) (count : Nat)
    (flags : JobFlags) : linesOf (lines.map .line ++ [j.ending o given count flags]) = lines := by
  rw [linesOf_append, linesOf_map]
  exact List.append_nil lines

theorem linesOf_kinds_take {lines : List LineEntry} {e : EntryKind} {k : Nat} {held : EntryKind}
    (hheld : (lines.map .line ++ [e])[k]? = some held) : linesOf ((lines.map EntryKind.line ++ [e]).take k) = lines.take k := by
  have hk : k ≤ lines.length := by
    have hlt := (List.getElem?_eq_some_iff.1 hheld).1
    rw [List.length_append, List.length_map, List.length_singleton] at hlt
    omega
  rw [List.take_append_of_le_length (by rw [List.length_map]; exact hk), ← List.map_take, linesOf_map]

end

/-- Settles O38: a job begins outside a job, and ends from SETTING and from LOOKAHEAD with its entries queued or held. -/
theorem jobsBeginAndEnd : Obligations.JobsBeginAndEnd := by
  refine ⟨fun s w hnext => ⟨fun hdropped => State.job_endsIn hnext (State.jobEffect_dropped hdropped), ?_⟩, ?_, ?_⟩
  · intro hdropped hzero
    refine State.job_endsIn hnext ((State.jobEffect_zero hdropped hzero).trans ?_)
    rw [hnext.decoded_job (.inl rfl)]
  · intro s w n hnext hdropped hn hn0 htodo hstate
    subst hn
    have hsame := s.decoded_sameCopy w
    have hjob := hnext.decoded_job (.inl rfl)
    have hbegins := State.jobEffect_begins (t := s.decoded w) hdropped hn0 (by rw [State.decoded_composer]; exact hstate)
    refine ⟨_, State.job_endsIn hnext hbegins, ?_⟩
    generalize s.decoded w = t at hsame hjob ⊢
    exact hsame.beginJob hjob htodo hstate _
  · intro s w n c o given last lines overset broken htodo hnext hcase flags count kinds
    have hnext : EndingNext s w n c o given last := hnext
    obtain ⟨hbegins, hleaves, hlast⟩ := hnext.after
    have hsame := s.decoded_sameCopy w
    have hjob := hnext.job
    have hstate : s.composer.state = .setting ∨ s.composer.state = .lookahead := by
      rcases hcase with ⟨h, -⟩ | ⟨h, -⟩
      · exact .inl h
      · exact .inr h
    have hends := hnext.endsIn hstate
    have hall : (∀ t : State, t.intake.job = s.intake.job → SameCopy s t → EndsJob
        (t.given (t.endingWord (endingTasks o given last))) kinds flags last overset s.composer.line.items) := by
      intro t hjob hsame
      refine hsame.endsJob hjob ?_
      rcases hcase with ⟨h, hover, hbroken, hlines⟩ | ⟨h, -, b, hchoice, hover, hbroken, hfits, hlines⟩
      · exact .inl ⟨h, hover, hbroken, hlines.trans (s.leftLines_eq _ _).symm⟩
      · exact .inr ⟨h, b, hchoice, hover, hbroken, hfits, hlines.trans (congrArg (b.entry :: ·) (s.leftLines_eq _ _).symm)⟩
    have hkinds : linesOf kinds = lines := linesOf_kinds _ _ _ _ _ _
    have hwork := hall _ hjob hsame
    generalize s.decoded w = t at hsame hjob hends hwork ⊢
    refine ⟨fun hroom => ?_, fun k held hheld hfull hfirst => ?_⟩
    · have hlength : s.queue.length + kinds.length ≤ 6 := by
        rw [List.length_append, List.length_map, List.length_singleton]
        omega
      obtain ⟨hframe, hstatus, huse, hqueue, hintake, hbegun, hleft⟩ :=
        hsame.endsJob_room hjob htodo hwork hlength (by simp [kinds]) hlast
      rw [hkinds] at hframe hleft
      exact ⟨_, hends, hframe, hstatus, huse, hqueue, hintake, fun hc => hbegun n (hbegins hc), fun hc => hleft (hleaves hc)⟩
    · have hfullQueue := hsame.endsJob_full htodo hwork hheld hfull hfirst
      rw [linesOf_kinds_take hheld] at hfullQueue
      exact ⟨_, hends, hfullQueue⟩

end Sys2Proof.Machine
end

section
/-! PROOFS. A letter in LOOKAHEAD, the points of a word, and the line that carried items begin (R10, R25, R34, R38). -/

namespace Sys2Proof.Machine

/-! ### A letter that does not fit (R23, R25) -/

/-- What an item of the current font at position `p` records (R4, R56). -/
def Composer.attrAt (c : Composer) (p : Fin 8) : Attr :=
  { pos := p, lens := c.lens, size := c.lensSize, fontSub := c.fontSub, sizeSub := c.sizeSub }

section
variable {t : State} {p : Fin 8} {r : WidthRecord} {n u : Nat}

theorem State.attrFor_current {f : CurrentFont} (hcurrent : t.composer.current = some f) (p : Fin 8) :
    t.attrFor p = t.composer.attrAt p := by
  unfold State.attrFor Composer.attrAt
  rw [hcurrent, Option.isNone_some, Bool.or_false]

theorem State.charItem_char {f : CurrentFont} (hcurrent : t.composer.current = some f) (hwidths : t.font.widths[p] = some r)
    (hu : u = r.widths.getD (n - 0x20) 0) (hu0 : u ≠ 0) :
    t.charItem p n = .char n (t.composer.attrAt p) (u * t.composer.lensSize * 5) := by
  have hunits : t.unitsOf p n = u := by
    unfold State.unitsOf
    rw [hwidths, hu]
  unfold State.charItem
  dsimp only
  rw [hunits, if_neg hu0, State.attrFor_current hcurrent]
  rfl

theorem Line.overflows_of_lt {l : Line} {w : Nat} (h : l.measure * 32 < l.sums.minWidth + w) : l.overflows w = true := by
  unfold Line.overflows measureFine
  rw [decide_eq_true h, Bool.true_or]

/-- A letter in LOOKAHEAD, or one that overflows the line. -/
def State.PastMeasure (s : State) (w : Nat) : Prop :=
  s.composer.state = .lookahead
    ∨ (s.composer.state = .setting ∧ s.composer.line.measure * 32 < s.composer.line.sums.minWidth + w)

theorem State.PastMeasure.state {w : Nat} (h : t.PastMeasure w) :
    t.composer.state = .setting ∨ t.composer.state = .lookahead := by
  rcases h with h | ⟨h, -⟩
  · exact .inr h
  · exact .inl h

theorem State.addLetter_past {i : Item} {tok : Token} (hk : t.composer.line.sums.k < 160) (hpast : t.PastMeasure i.minAdded) :
    t.addLetter tok i = t.lookaheadLetter i := by
  unfold State.addLetter
  rw [if_neg (by rw [itemLimit]; omega)]
  refine if_pos ?_
  rcases hpast with hlook | ⟨-, hover⟩
  · rw [decide_eq_true hlook, Bool.true_or]
  · rw [Line.overflows_of_lt hover, Bool.or_true]

/-- A letter past the measure is looked ahead at. -/
theorem State.takeToken_past {f : CurrentFont} (hletter : isLetter n = true) (hcurrent : t.composer.current = some f)
    (hready : t.currentReady f = true) (hwidths : t.font.widths[f.pos] = some r) (hitems : t.composer.line.items ≠ [])
    (hgov : t.composer.line.gov ≠ none) (hu : u = r.widths.getD (n - 0x20) 0) (hu0 : u ≠ 0)
    (hpast : t.PastMeasure (u * t.composer.lensSize * 5)) (hk : t.composer.line.sums.k < 160) (off : Nat) :
    t.takeToken (.char n off)
      = t.lookaheadLetter (.char n (t.composer.attrAt f.pos) (u * t.composer.lensSize * 5)) := by
  have htaken : t.composer.state = .setting ∨ t.composer.state = .lookahead ∧ isLetter n = true
      ∧ t.composer.line.sums.k < 160 := hpast.state.imp_right fun h => ⟨h, hletter, hk⟩
  rw [State.takeToken_char htaken, State.setChar_current hcurrent, if_pos hready]
  unfold State.setCharIn
  dsimp only
  rw [State.prepareLine_eq hitems hgov, State.charItem_char hcurrent hwidths hu hu0, if_pos hletter]
  exact State.addLetter_past hk hpast

/-- The Composer with letter `i` at the end of its line. -/
def Composer.withLetter (c : Composer) (i : Item) : Composer :=
  { c with
    line := { c.line with items := c.line.items ++ [i], sums := c.line.sums.add c.line.items.getLast? i }
    word := { c.word with letters := c.word.letters + 1 } }

theorem Composer.join_letter {c : Composer} {i : Item} (h : i.isLetterItem = true) : c.join i = c.withLetter i := by
  have hword : c.word.after i = { c.word with letters := c.word.letters + 1 } := if_pos h
  unfold Composer.withLetter
  rw [← hword]
  rfl

theorem State.joinItem_letter {i : Item} (h : i.isLetterItem = true) :
    Reaches [] t (t.joinItem i) (t.composer.withLetter i) (t.intake.withItem (i.attr?.any (·.fontSub)) t.composer.sizeSub)
      t.queue ∧ StatusStands t (t.joinItem i) := by
  obtain ⟨hreach, hstands⟩ := t.joinItem_reaches i
  rw [Composer.join_letter h] at hreach
  exact ⟨hreach, hstands⟩

/-- The letter joins the line, and the Composer is in LOOKAHEAD. -/
theorem State.lookaheadLetter_enters {i : Item} (hi : i.isLetterItem = true) (hletters : t.composer.word.letters ≠ 24) :
    Reaches [] t (t.lookaheadLetter i) { t.composer.withLetter i with state := .lookahead }
      (t.intake.withItem (i.attr?.any (·.fontSub)) t.composer.sizeSub) t.queue
      ∧ StatusStands t (t.lookaheadLetter i) := by
  obtain ⟨hreach, hstands⟩ := State.joinItem_letter (t := t) hi
  have hword : (t.joinItem i).composer.word.letters ≠ 25 := by
    rw [hreach.composer]
    show t.composer.word.letters + 1 ≠ 25
    omega
  unfold State.lookaheadLetter
  dsimp only
  rw [if_neg hword]
  exact ⟨hreach.setComposer .lookahead, hstands.trans (State.setComposer_copyFrame _ _).2⟩

/-- The 25th letter of the word ends the lookahead. -/
theorem State.lookaheadLetter_breaks {i : Item} (hi : i.isLetterItem = true) (hletters : t.composer.word.letters = 24)
    (htodo : t.composer.todo = []) :
    Reaches [] t (t.lookaheadLetter i)
      { t.composer.withLetter i with
        word := { t.composer.word with letters := 25, ineligible := true }, todo := [.breakLine false] }
      (t.intake.withItem (i.attr?.any (·.fontSub)) t.composer.sizeSub) t.queue
      ∧ StatusStands t (t.lookaheadLetter i) := by
  obtain ⟨hreach, hstands⟩ := State.joinItem_letter (t := t) hi
  have hlast : t.composer.word.letters + 1 = 25 := by omega
  have hword : (t.joinItem i).composer.word.letters = 25 := by
    rw [hreach.composer]
    exact hlast
  unfold State.lookaheadLetter
  dsimp only
  rw [if_pos hword]
  generalize t.joinItem i = v at hreach hstands
  have hframe := CopyFrame.composer v (v.ineligible.push [.breakLine false]).composer v.intake.job v.queue
  have hcomposer : (v.ineligible.push [.breakLine false]).composer =
      { v.composer with word.ineligible := true, todo := .breakLine false :: v.composer.todo } := rfl
  refine ⟨⟨hreach.frame.copyFrame hframe, ?_, hreach.intake, hreach.queue⟩, hstands.trans hframe.2⟩
  rw [hcomposer, hreach.composer, ← hlast, ← htodo]
  rfl

end

theorem State.letter_endsIn {s : State} {w : Word} (hnext : WordNext s w) (hletter : isLetter w.toNat = true)
    (hstate : s.composer.state = .setting ∨ s.composer.state = .lookahead) :
    EndsIn (exec .character s) ((s.consume w).work [.token (.char w.toNat s.intake.consumeOffset)]) := by
  obtain ⟨hlow, hhigh⟩ := isLetter_range hletter
  exact State.character_endsIn hnext hlow hhigh hstate rfl

/-! ### The points of a word (R38) -/

theorem State.recordPoint_eq (t : State) : t.recordPoint = { t with
    composer.word.points := if 0 < t.composer.word.letters then t.composer.word.points ++ [t.composer.word.letters]
      else t.composer.word.points } := by
  unfold State.recordPoint
  by_cases h : 0 < t.composer.word.letters
  · rw [if_pos h, if_pos h]
  · rw [if_neg h, if_neg h]

/-! ### The line that carried items begin (R10) -/

section
variable {s : State} {carried : List Item} {previous : Option GovFont}

/-- The band of the line that `carried` begins. -/
def State.carriedGov (s : State) (carried : List Item) (previous : Option GovFont) : Option GovFont :=
  match carried.findSome? Item.pos? with
  | some p => s.govOf p
  | none => s.settingGov.orElse (fun _ => previous)

theorem State.carriedGov_some {p : Fin 8} (h : carried.findSome? Item.pos? = some p) :
    s.carriedGov carried previous = s.govOf p := by
  unfold State.carriedGov
  rw [h]

theorem State.carriedGov_none (h : ∀ i ∈ carried, i.pos? = none) :
    s.carriedGov carried previous = if s.settingGov = none then previous else s.settingGov := by
  have hnone : carried.findSome? Item.pos? = none := List.findSome?_eq_none_iff.2 h
  unfold State.carriedGov
  rw [hnone]
  cases s.settingGov <;> rfl

/-- The items of the line, with the widths its band gives. -/
def refigured (gov : Option GovFont) (items : List Item) : List Item :=
  match gov with
  | some g => items.map (Item.refigure g)
  | none => items

theorem refigured_eq_nil_iff (gov : Option GovFont) (items : List Item) : refigured gov items = [] ↔ items = [] := by
  cases gov with
  | none => rfl
  | some g => exact List.map_eq_nil_iff

theorem State.carriedLine_cons (first : Item) (rest : List Item) :
    s.carriedLine (first :: rest) previous =
      if refigured (s.carriedGov (first :: rest) previous) ((first :: rest).dropWhile Item.isSpace) = [] then Line.empty
      else
        { items := refigured (s.carriedGov (first :: rest) previous) ((first :: rest).dropWhile Item.isSpace)
          sums := sumsOf (refigured (s.carriedGov (first :: rest) previous) ((first :: rest).dropWhile Item.isSpace))
          gov := s.carriedGov (first :: rest) previous
          govSize := first.size
          measure := s.composer.measure
          lead := s.composer.lead } := by
  simp only [← List.isEmpty_iff]
  rfl

theorem State.carriedLine_nil (h : carried.dropWhile Item.isSpace = []) : s.carriedLine carried previous = Line.empty := by
  cases carried with
  | nil => rfl
  | cons first rest =>
    rw [State.carriedLine_cons, if_pos ((refigured_eq_nil_iff _ _).2 h)]

end

end Sys2Proof.Machine
end

section
/-! PROOFS. A break made and completed, at the 25th letter of a word, at an interword space, and over one character wider
than the measure (R25, R27, R32, R33). -/

namespace Sys2Proof.Machine

/-! ### A break completed in a step of the copy -/

/-- The Composer once a break that settles `b` is completed over a line with `word` at its end, and `next` is the line the
carried items begin. -/
def Composer.afterBreaking (c : Composer) (word : WordRun) (b : Break) (next : Line) (rest : List Task) : Composer :=
  { c with
    line := next
    word := if b.inWord then { word with points := [], ineligible := true } else word
    state := .setting
    noFont := false
    pendingMarks := []
    ladder := ladderAfter c.ladder [b.entry]
    todo := rest }

/-- The copy's record when the word is consumed with `n` lines set and the report flags `flags`. -/
def Intake.reported (i : Intake) (n : Nat) (flags : JobFlags) : Intake :=
  { i with job.linesSet := n, job.flags := flags }

section
variable {s t u : State} {line next : Line} {word : WordRun} {rest : List Task} {flags : JobFlags} {b : Break}

theorem SameCopy.breaks (h : SameCopy s t) (hframe : CopyFrame t u)
    (hcomposer : u.composer = { s.composer with line := line, word := word, todo := .breakLine false :: rest })
    (hintake : u.intake = { t.intake with job.flags := flags }) (hqueue : u.queue = s.queue)
    (hstate : s.composer.state = .setting ∨ s.composer.state = .lookahead)
    (hchoice : State.BreakChoice { s with composer.line := line, composer.word := word } false b)
    (hroom : s.queue.length < 6) (hnext : s.carriedLine b.carried line.gov = next)
    (hfits : next.sums.minWidth ≤ next.measure * 32) :
    ∃ x, State.Works 4 u x
      ∧ Reaches [b.entry] s x (s.composer.afterBreaking word b next rest)
        (t.intake.reported (nextCount s.intake.job.linesSet) (flags.afterBreak b)) (s.queue ++ [s.entryFor (.line b.entry)])
      ∧ BreakStatus s x b.overset line.items := by
  have hstart := h.frame.trans hframe
  have hreach : Reaches [] s u u.composer { t.intake with job.flags := flags } s.queue := ⟨hstart.1, rfl, hintake, hqueue⟩
  have hentry : u.entryFor (.line b.entry) = s.entryFor (.line b.entry) := by
    rw [hreach.entryFor h.inProgress h.number h.serial, hcomposer]
    rfl
  have hnumber : u.intake.job.number = s.intake.job.number := by
    rw [hintake]
    exact h.number
  have hlines : u.intake.job.linesSet = s.intake.job.linesSet := by
    rw [hintake]
    exact h.linesSet
  have hwaits : u.composerWaits = false := by
    refine State.composerWaits_false ?_
    rw [hcomposer]
    exact hstate.imp_right .inl
  obtain ⟨-, -, -, hhyph, -, -, -, -, hfont, -⟩ := hstart.1
  have hsame : SameForBreak { s with composer.line := line, composer.word := word } u := by
    refine ⟨?_, ?_, ?_, ?_, ?_, ?_, hnumber, hlines, hhyph, ?_⟩
    case refine_7 => rw [hfont]
    all_goals rw [hcomposer]
  have hcarried : u.carriedLine b.carried u.composer.line.gov = next := by
    have hgov : u.composer.line.gov = line.gov := by rw [hcomposer]
    rw [hgov, ← hnext]
    exact hstart.1.carriedLine (by rw [hcomposer]) (by rw [hcomposer]) (by rw [hcomposer]) _ _
  obtain ⟨x, hwork, hdone, hstatus⟩ := State.does_break (rest := rest) hwaits (by rw [hcomposer])
    ((hsame.breakChoice _ _).2 hchoice) (by rw [hqueue]; exact hroom) hcarried hfits
  refine ⟨x, hwork, ⟨hstart.lineFrame hdone.frame, ?_, ?_, ?_⟩, ?_⟩
  · rw [hdone.composer, hcomposer]
    rfl
  · rw [hdone.intake, ← hlines, hintake]
    rfl
  · rw [hdone.queue, hqueue, hentry]
  · have hitems : u.composer.line.items = line.items := by rw [hcomposer]
    rw [hitems] at hstatus
    exact .before hstart.2 hnumber hlines hstatus

end

/-! ### The step of the copy that breaks the line -/

/-- What a step of the copy that breaks the line `items`, with the entry `b` settles, comes to. -/
structure Breaks (s t : State) (b : Break) (items : List Item) (c : Composer) (i : Intake) : Prop
    extends Reaches [b.entry] s t c i (s.queue ++ [s.entryFor (.line b.entry)]) where
  inUse : InUseUpToDate t
  status : BreakStatus s t b.overset items

theorem Breaks.refreshInUse {s t : State} {b : Break} {items : List Item} {c : Composer} {i : Intake}
    (h : Reaches [b.entry] s t c i (s.queue ++ [s.entryFor (.line b.entry)]))
    (hstatus : BreakStatus s t b.overset items) : Breaks s t.refreshInUse b items c i :=
  { h.refreshInUse with inUse := t.refreshInUse_upToDate, status := hstatus.after t.refreshInUse_copyFrame.2 }

section
variable {s t : State} {b : Break} {next : Line} {n u : Nat} {f : CurrentFont} {r : WidthRecord} {i : Item}

/-- A token that only leaves the break to do. -/
theorem SameCopy.token_breaks (h : SameCopy s t) {v : State} {tok : Token} {line : Line} {word : WordRun} {flags : JobFlags}
    (htodo : s.composer.todo = []) (htake : t.takeToken tok = v) (hframe : CopyFrame t v)
    (hcomposer : v.composer = { s.composer with line := line, word := word, todo := [.breakLine false] })
    (hintake : v.intake = { t.intake with job.flags := flags }) (hqueue : v.queue = s.queue)
    (hstate : s.composer.state = .setting ∨ s.composer.state = .lookahead)
    (hchoice : State.BreakChoice { s with composer.line := line, composer.word := word } false b)
    (hroom : s.queue.length < 6) (hnext : s.carriedLine b.carried line.gov = next)
    (hfits : next.sums.minWidth ≤ next.measure * 32) :
    Breaks s (t.work [.token tok]) b line.items (s.composer.afterBreaking word b next [])
      (t.intake.reported (nextCount s.intake.job.linesSet) (flags.afterBreak b)) := by
  obtain ⟨x, hwork, hreach, hstatus⟩ := h.breaks hframe hcomposer hintake hqueue hstate hchoice hroom hnext hfits
  have htodo' : t.composer.todo = [] := by rw [h.composer, htodo]
  have hwaits : t.composerWaits = false := by
    refine State.composerWaits_false ?_
    rw [h.composer]
    exact hstate.imp_right .inl
  have htoken := State.works_token (tok := tok) hwaits htodo'
  rw [htake] at htoken
  have hrun : t.work [.token tok] = x.refreshInUse := by
    rw [State.work_eq htodo']
    exact (htoken.trans hwork).runTasks_of_nil (by omega) (by rw [hreach.composer]; rfl)
  rw [hrun]
  exact .refreshInUse hreach hstatus

/-- What makes a letter past the measure stands when the word of the copy is consumed. -/
theorem SameCopy.takeToken_past (h : SameCopy s t) (hfont : t.font = s.font) (hletter : isLetter n = true)
    (hcurrent : s.composer.current = some f) (hready : s.currentReady f = true) (hwidths : s.font.widths[f.pos] = some r)
    (hitems : s.composer.line.items ≠ []) (hgov : s.composer.line.gov ≠ none) (hu : u = r.widths.getD (n - 0x20) 0)
    (hu0 : u ≠ 0) (hpast : s.PastMeasure (u * s.composer.lensSize * 5)) (hk : s.composer.line.sums.k < 160) (off : Nat)
    (hi : i = .char n (s.composer.attrAt f.pos) (u * s.composer.lensSize * 5)) :
    t.takeToken (.char n off) = t.lookaheadLetter i := by
  have hcomposer := h.composer
  have hready' : t.currentReady f = true := by
    unfold State.currentReady at hready ⊢
    rw [hfont]
    exact hready
  unfold State.PastMeasure at hpast
  rw [← hfont] at hwidths
  rw [← hcomposer] at hcurrent hitems hgov hpast hk hi
  rw [hi]
  exact State.takeToken_past hletter hcurrent hready' hwidths hitems hgov hu hu0 hpast hk off

/-- A letter past the measure joins the line, and the Composer is in LOOKAHEAD. -/
theorem SameCopy.letter_enters (h : SameCopy s t) (htodo : s.composer.todo = []) {off : Nat}
    (htake : t.takeToken (.char n off) = t.lookaheadLetter i)
    (hstate : s.composer.state = .setting ∨ s.composer.state = .lookahead) (hletter : i.isLetterItem = true)
    (hletters : s.composer.word.letters ≠ 24) :
    ∃ j, Goes [] s (t.work [.token (.char n off)]) { s.composer.withLetter i with state := .lookahead } j s.queue := by
  have hcomposer := h.composer
  rw [← hcomposer] at hletters htodo hstate
  obtain ⟨hreach, hstands⟩ := State.lookaheadLetter_enters (t := t) hletter hletters
  have hgoes := State.token_goes (State.composerWaits_false (hstate.imp_right .inl)) htodo htake hreach hstands (.inl htodo)
  rw [hcomposer, h.queue] at hgoes
  exact ⟨_, hgoes.after h.frame⟩

/-- At the word's 25th letter the break is made and completed. -/
theorem SameCopy.letter_breaks (h : SameCopy s t) (htodo : s.composer.todo = []) {off : Nat}
    (htake : t.takeToken (.char n off) = t.lookaheadLetter i)
    (hstate : s.composer.state = .setting ∨ s.composer.state = .lookahead) (hletter : i.isLetterItem = true)
    (hletters : s.composer.word.letters = 24)
    (hchoice : State.BreakChoice { s with
      composer.line := (s.composer.withLetter i).line
      composer.word := { s.composer.word with letters := 25, ineligible := true } } false b)
    (hroom : s.queue.length < 6) (hnext : s.carriedLine b.carried s.composer.line.gov = next)
    (hfits : next.sums.minWidth ≤ next.measure * 32) :
    Breaks s (t.work [.token (.char n off)]) b (s.composer.line.items ++ [i])
      (s.composer.afterBreaking { s.composer.word with letters := 25, ineligible := true } b next [])
      (t.intake.reported (nextCount s.intake.job.linesSet)
        ((s.intake.job.flags.withItem (i.attr?.any (·.fontSub)) s.composer.sizeSub).afterBreak b)) := by
  have hcomposer := h.composer
  obtain ⟨hreach, hstands⟩ := State.lookaheadLetter_breaks (t := t) (i := i) hletter (by rw [hcomposer]; exact hletters)
    (by rw [hcomposer]; exact htodo)
  rw [hcomposer] at hreach
  refine h.token_breaks htodo htake ⟨hreach.frame, hstands⟩ hreach.composer ?_ (hreach.queue.trans h.queue) hstate hchoice
    hroom hnext hfits
  rw [hreach.intake, ← h.flags]
  rfl

/-- At an interword space in LOOKAHEAD the break is made and completed, and the space joins the line that the carried
items begin. -/
theorem SameCopy.space_breaks (h : SameCopy s t) (htodo : s.composer.todo = []) (hstate : s.composer.state = .lookahead)
    (hchoice : s.BreakChoice false b) (hroom : s.queue.length < 6)
    (hnext : s.carriedLine b.carried s.composer.line.gov = next) (hfits : next.sums.minWidth ≤ next.measure * 32)
    (hitems : next.items ≠ []) (hk : next.sums.k < 160) {g : GovFont} (hgov : next.gov = some g)
    (hspace : next.sums.minWidth + g.min * s.composer.lensSize * 5 ≤ next.measure * 32)
    (hi : i = .space s.composer.lensSize (g.min * s.composer.lensSize * 5) (g.normal * s.composer.lensSize * 5)
      (g.max * s.composer.lensSize * 5)) :
    Breaks s (t.work [.token .space]) b s.composer.line.items
      { s.composer.afterBreaking s.composer.word b next [] with
        line := { next with items := next.items ++ [i], sums := next.sums.add next.items.getLast? i }
        word := WordRun.none }
      (t.intake.reported (nextCount s.intake.job.linesSet)
        ((s.intake.job.flags.afterBreak b).withItem false s.composer.sizeSub)) := by
  have hcomposer := h.composer
  have htodo' : t.composer.todo = [] := by rw [hcomposer, htodo]
  have hlook : t.composer.state = .lookahead := by rw [hcomposer, hstate]
  have htake : t.takeToken .space = t.given [.breakLine false, .token .space] := by
    rw [← State.push_given htodo']
    exact if_pos (by rw [decide_eq_true hlook]; rfl)
  have hgiven : (t.given [.breakLine false, .token .space]).composer =
      { s.composer with
        line := s.composer.line, word := s.composer.word, todo := [.breakLine false, .token .space] } := by
    rw [← hcomposer]
  obtain ⟨x, hwork, hreach, hstatus⟩ := h.breaks (t.given_copyFrame _) hgiven (flags := s.intake.job.flags)
    (by rw [← h.flags]) h.queue (.inr hstate) hchoice hroom hnext hfits
  have hx : x.composer.state = .setting := by
    rw [hreach.composer]
    rfl
  have hxtodo : x.composer.todo = [.token .space] := by
    rw [hreach.composer]
    rfl
  have hxline : x.composer.line = next := by
    rw [hreach.composer]
    rfl
  have hxsize : x.composer.lensSize = s.composer.lensSize := by
    rw [hreach.composer]
    rfl
  have hjoins : (x.given []).doTask (.token .space) = (x.given []).joinItem i := by
    rw [hi, ← hxsize]
    refine ((State.takeToken_setting (s := x.given []) hx).1).trans (State.setSpace_joins (s := x.given []) ?_ ?_ ?_ ?_)
    · rw [hxline]
      exact hitems
    · rw [hxline]
      exact hgov
    · rw [hxline]
      exact hk
    · rw [hxline, hxsize]
      exact hspace
  obtain ⟨hjoined, hstands⟩ := (x.given []).joinItem_reaches i
  have hstep := Does.step (State.composerWaits_false (.inl hx)) hxtodo hjoins hjoined hstands
  have htoken := State.works_token (tok := .space) (State.composerWaits_false (.inr (.inl hlook))) htodo'
  rw [htake] at htoken
  have hrun : t.work [.token .space] = ((x.given []).joinItem i).refreshInUse := by
    rw [State.work_eq htodo']
    exact ((htoken.trans hwork).trans hstep.works).runTasks_of_nil (by omega) (by rw [hjoined.composer]; rfl)
  rw [hrun]
  have hall := hreach.trans hstep.toReaches
  have hletter : i.isLetterItem = false := by rw [hi]; rfl
  have hword : x.composer.word.after i = WordRun.none := if_neg (by rw [hletter]; decide)
  have hattr : i.attr?.any (·.fontSub) = false := by rw [hi]; rfl
  refine Breaks.refreshInUse ⟨hall.frame, hall.composer.trans ?_, hall.intake.trans ?_, hall.queue.trans hreach.queue⟩
    (hstatus.after hstep.stands)
  · show ({ x.composer with todo := [], line := x.composer.line.join i, word := x.composer.word.after i } : Composer) = _
    rw [hword, hreach.composer]
    rfl
  · rw [hattr]
    show Intake.withItem x.intake false x.composer.sizeSub = _
    rw [hreach.intake, hreach.composer]
    rfl

end

end Sys2Proof.Machine
end

section
/-! PROOFS. A character wider than the measure on an empty line; and LOOKAHEAD and the break choice, put together (R10,
R25 to R36, R38). -/

namespace Sys2Proof.Machine

/-! ### A character wider than the measure, on an empty line (R27, R32) -/

/-- The line that an item made now begins (R6, R7). -/
def State.freshLine (s : State) : Line :=
  { Line.empty with
    gov := s.settingGov, govSize := s.composer.lensSize, measure := s.composer.measure, lead := s.composer.lead }

theorem State.prepareLine_empty {s : State} (hitems : s.composer.line.items = []) :
    s.prepareLine = { s with composer.line := s.freshLine } := if_pos (List.isEmpty_iff.2 hitems)

/-- What choice 4 settles of a line of one character wider than the measure. -/
def discarding (e : LineEntry) : Break := { entry := e, carried := [], glyph := none, inWord := false, overset := true }

section
variable {s t : State} {n u : Nat} {f : CurrentFont} {r : WidthRecord} {a : Attr} {i : Item} {e : LineEntry}

/-- Choice 4 discards the one character of the line. -/
theorem State.breakChoice_wide {line : Line} {word : WordRun} {width : Nat} (hitems : line.items = [.char n a width])
    (hletter : isLetter n = false) (hwide : line.measure * 32 < width)
    (he : e = emptyLineEntry s.intake.job.number (nextCount s.intake.job.linesSet) .left line.lead s.composer.lensSize true) :
    State.BreakChoice { s with composer.line := line, composer.word := word } false (discarding e) := by
  have hword : EndWord line.items [.char n a width] [] :=
    ⟨hitems, fun _ h => (nomatch h), fun i hi => Option.some.inj hi ▸ hletter⟩
  refine ⟨[.char n a width], [], hword, .inr (.inr (.inr ⟨?nospace, ?nopoint, 0, Nat.zero_le _, ?fits, ?longest, ?settles⟩))⟩
  case nospace =>
    rintro head x rest ⟨tail, last, hbefore, -, hlast, hx, -⟩
    cases head with
    | nil =>
      rw [List.nil_append, List.cons_append, List.cons.injEq] at hbefore
      obtain ⟨rfl, -⟩ := hbefore
      rcases hx with hx | ⟨-, hx⟩
      · cases hx
      · exact hx rfl
    | cons y head =>
      have hlength := congrArg List.length hbefore
      simp at hlength
  case nopoint =>
    rintro p g ⟨-, -, htwo, -⟩
    exact absurd htwo (by decide)
  case fits => exact Nat.zero_le _
  case longest =>
    intro m hm hle
    dsimp only at hle ⊢
    rw [hitems, List.length_singleton] at hle
    have hm : m = 1 := by omega
    rw [hm, hitems, sumsOf_natural]
    exact hwide
  case settles =>
    dsimp only
    rw [hitems, he]
    rfl

theorem State.takeToken_wide (hstate : t.composer.state = .setting) (hletter : isLetter n = false)
    (hcurrent : t.composer.current = some f) (hready : t.currentReady f = true) (hwidths : t.font.widths[f.pos] = some r)
    (hitems : t.composer.line.items = []) (hu : u = r.widths.getD (n - 0x20) 0) (hu0 : u ≠ 0)
    (hwide : t.composer.measure * 32 < u * t.composer.lensSize * 5) (off : Nat)
    (hi : i = .char n (t.composer.attrAt f.pos) (u * t.composer.lensSize * 5)) :
    t.takeToken (.char n off) = (State.joinItem { t with composer.line := t.freshLine } i).push [.breakLine false] := by
  have hitem : State.charItem { t with composer.line := t.freshLine } f.pos n = i :=
    (State.charItem_char (t := { t with composer.line := t.freshLine }) hcurrent hwidths hu hu0).trans hi.symm
  have hover : t.freshLine.overflows i.minAdded = true := by
    refine Line.overflows_of_lt ?_
    rw [hi]
    show t.composer.measure * 32 < 0 + u * t.composer.lensSize * 5
    omega
  rw [State.takeToken_char (.inl hstate), State.setChar_current hcurrent, if_pos hready]
  unfold State.setCharIn
  dsimp only
  rw [State.prepareLine_empty hitems, hitem, if_neg (by rw [hletter]; decide)]
  unfold State.addOther
  exact (if_pos hover).trans (if_pos rfl)

/-- The character is discarded in an empty OVERSET entry. -/
theorem SameCopy.wide_breaks (h : SameCopy s t) (hfont : t.font = s.font) (htodo : s.composer.todo = [])
    (hstate : s.composer.state = .setting) (hletter : isLetter n = false)
    (hcurrent : s.composer.current = some f) (hready : s.currentReady f = true) (hwidths : s.font.widths[f.pos] = some r)
    (hitems : s.composer.line.items = []) (hu : u = r.widths.getD (n - 0x20) 0) (hu0 : u ≠ 0)
    (hwide : s.composer.measure * 32 < u * s.composer.lensSize * 5) (hroom : s.queue.length < 6) (off : Nat)
    (ha : a = s.composer.attrAt f.pos)
    (he : e = emptyLineEntry s.intake.job.number (nextCount s.intake.job.linesSet) .left s.composer.lead
      s.composer.lensSize true) :
    Breaks s (t.work [.token (.char n off)]) (discarding e) [.char n a (u * s.composer.lensSize * 5)]
      (s.composer.afterBreaking WordRun.none (discarding e) Line.empty [])
      (t.intake.reported (nextCount s.intake.job.linesSet)
        ((s.intake.job.flags.withItem a.fontSub a.sizeSub).afterBreak (discarding e))) := by
  have hcomposer := h.composer
  have hready' : t.currentReady f = true := by
    unfold State.currentReady at hready ⊢
    rw [hfont]
    exact hready
  have htake := State.takeToken_wide (t := t) (i := .char n a (u * s.composer.lensSize * 5)) (by rw [hcomposer]; exact hstate)
    hletter (by rw [hcomposer]; exact hcurrent) hready' (by rw [hfont]; exact hwidths) (by rw [hcomposer]; exact hitems) hu hu0
    (by rw [hcomposer]; exact hwide) off (by rw [hcomposer, ha])
  have hline : t.freshLine = s.freshLine := by
    obtain ⟨-, hgov⟩ := h.frame.1.settingGov (by rw [hcomposer])
    unfold State.freshLine
    rw [hgov, hcomposer]
  rw [hline] at htake
  obtain ⟨hreach, hstands⟩ := State.joinItem_reaches { t with composer.line := s.freshLine }
    (.char n a (u * s.composer.lensSize * 5))
  have hfresh := CopyFrame.composer t { t.composer with line := s.freshLine } t.intake.job t.queue
  generalize State.joinItem { t with composer.line := s.freshLine } (.char n a (u * s.composer.lensSize * 5)) = v
    at htake hreach hstands
  have hframe : CopyFrame t (v.push [.breakLine false]) :=
    (hfresh.trans ⟨hreach.frame, hstands⟩).trans (CopyFrame.composer v _ v.intake.job v.queue)
  have hword : s.composer.word.after (.char n a (u * s.composer.lensSize * 5)) = WordRun.none := if_neg (by
    show ¬ isLetter n = true
    rw [hletter]
    decide)
  refine h.token_breaks (line := s.freshLine.join (.char n a (u * s.composer.lensSize * 5))) (word := WordRun.none)
    (next := Line.empty) htodo htake hframe ?_ ?_ (hreach.queue.trans h.queue) (.inl hstate)
    (State.breakChoice_wide (width := u * s.composer.lensSize * 5) rfl hletter hwide he) hroom rfl (Nat.le_refl _)
  · have hpush : (v.push [.breakLine false]).composer = { v.composer with todo := .breakLine false :: v.composer.todo } := rfl
    rw [hpush, hreach.composer, ← hword, hcomposer]
    rw [← htodo]
    rfl
  · have hpush : (v.push [.breakLine false]).intake = v.intake := rfl
    have hsub : t.composer.sizeSub = a.sizeSub := by
      rw [hcomposer, ha]
      rfl
    rw [hpush, hreach.intake, ← h.flags, ← hsub]
    rfl

end

end Sys2Proof.Machine
end

section
/-! PROOFS. LOOKAHEAD and the break choice, put together (R10, R25 to R36, R38). -/

namespace Sys2Proof.Machine

/-- The Composer that has no work in hand has none after the break. -/
theorem Composer.afterBreaking_eq {c : Composer} (htodo : c.todo = []) (word : WordRun) (b : Break) (next : Line) :
    c.afterBreaking word b next [] = { c with
      line := next, word := if b.inWord then { word with points := [], ineligible := true } else word, state := .setting,
      noFont := false, pendingMarks := [], ladder := ladderAfter c.ladder [b.entry] } := by
  rw [← htodo]
  rfl

/-- The marks of an item that joined before the break, or after it, are in the report either way. -/
theorem JobFlags.withItem_afterBreak (f : JobFlags) (b : Break) (fontSub sizeSub : Bool) :
    (f.withItem fontSub sizeSub).afterBreak b = (f.afterBreak b).withItem fontSub sizeSub := by
  unfold JobFlags.withItem JobFlags.afterBreak
  dsimp only
  rw [Bool.or_right_comm f.fontSub, Bool.or_right_comm f.sizeSub]

/-- Settles O36: a letter past the measure, the points of a word, the four choices, the line that carried items begin, and
the break completed. -/
theorem lookaheadAndBreakChoice : Obligations.LookaheadAndBreakChoice := by
  refine ⟨?letter, ?hyphen, ?choices, ?newLine, ?breaks, ?wide⟩
  case letter =>
    intro s w f r u hnext htodo hletter hcurrent hready hwidths hitems hgov hu hu0 hpast hk hletters
    have hpast : s.PastMeasure (u * s.composer.lensSize * 5) := hpast
    have hsame := s.consume_sameCopy w
    have htake := hsame.takeToken_past (s.consume_font w) hletter hcurrent hready hwidths hitems hgov hu hu0 hpast hk
      s.intake.consumeOffset rfl
    obtain ⟨j, hgoes⟩ := hsame.letter_enters htodo htake hpast.state hletter hletters
    refine ⟨_, State.letter_endsIn hnext hletter hpast.state, ⟨hgoes.frame, hgoes.stands⟩, hgoes.queue, ?_, ?_, ?_⟩
    · exact (congrArg Composer.state hgoes.composer :)
    · exact (congrArg (fun c : Composer => c.line.items) hgoes.composer :)
    · exact (congrArg (fun c : Composer => c.word.letters) hgoes.composer :)
  case hyphen =>
    intro s hnext hstate
    refine State.textInside_endsIn (f := fun _ _ t => t.recordPoint) hnext (by decide) hstate (fun t => t.recordPoint_inner) ?_
    have hcomposer := s.consume_composer 0x1E
    generalize s.consume 0x1E = t at hcomposer ⊢
    rw [← hcomposer]
    exact State.recordPoint_eq t
  case choices =>
    intro s again _
    exact ⟨s.breakChoice_exists again, fun b hchoice => State.breakLine_broken hchoice⟩
  case newLine =>
    intro s carried previous
    refine ⟨fun hnil => congrArg (fun l => ({ s with composer.line := l } : State)) (State.carriedLine_nil hnil), ?_, ?_⟩
    · rintro first rest rfl hne
      refine ⟨s.carriedGov (first :: rest) previous,
        refigured (s.carriedGov (first :: rest) previous) ((first :: rest).dropWhile Item.isSpace),
        fun p hp => State.carriedGov_some hp, State.carriedGov_none, fun hnone => ?_, fun g hg => ?_, ?_⟩
      · rw [hnone]
        rfl
      · rw [hg]
        refine List.map_congr_left fun i _ => ?_
        cases i <;> rfl
      · have hline := State.carriedLine_cons (s := s) (previous := previous) first rest
        rw [if_neg (mt (refigured_eq_nil_iff _ _).1 hne)] at hline
        exact congrArg (fun l => ({ s with composer.line := l } : State)) hline
    · rfl
  case breaks =>
    intro s w c b line word hnext htodo hitems hroom hcase hchoice next h hfits hspace
    have hsame := s.consume_sameCopy w
    suffices hbreaks : ∃ t line' word' fontSub, EndsIn (exec c s) t
        ∧ Breaks s t b line.items { s.composer.afterBreaking word b next [] with line := line', word := word' }
          ((s.consume w).intake.reported (nextCount s.intake.job.linesSet)
            ((s.intake.job.flags.afterBreak b).withItem fontSub s.composer.sizeSub))
        ∧ fontSub = (decide (c = .character) && s.composer.fontSub)
        ∧ (c = .character → line' = next
          ∧ word' = if b.inWord then { word with points := [], ineligible := true } else word)
        ∧ ∀ g, c = .interwordSpace → next.gov = some g → word' = WordRun.none ∧ line' = { next with
          items := next.items ++ [.space h (g.min * h * 5) (g.normal * h * 5) (g.max * h * 5)]
          sums := next.sums.add next.items.getLast? (.space h (g.min * h * 5) (g.normal * h * 5) (g.max * h * 5)) } by
      obtain ⟨t, line', word', fontSub, hends, hbreaks, hfontSub, hcharacter, hinterword⟩ := hbreaks
      have hcomposer := hbreaks.composer
      rw [Composer.afterBreaking_eq htodo] at hcomposer
      have hline : t.composer.line = line' := by rw [hcomposer]
      have hword : t.composer.word = word' := by rw [hcomposer]
      subst hfontSub
      refine ⟨t, hends, hbreaks.frame, hbreaks.inUse, hbreaks.status, hbreaks.queue, hbreaks.intake, ?_, ?_, ?_⟩
      · rw [hline, hword]
        exact hcomposer
      · rw [hline, hword]
        exact hcharacter
      · rw [hline, hword]
        exact hinterword
    rcases hcase with ⟨rfl, hletter, hgov, hk, hletters, rfl, f, r, u, i, hcurrent, hready, hwidths, hu, hu0, hpast, hi, rfl⟩
      | ⟨rfl, rfl, hstate, rfl, rfl⟩
    · have hpast : s.PastMeasure (u * s.composer.lensSize * 5) := hpast
      have htake := hsame.takeToken_past (s.consume_font w) hletter hcurrent hready hwidths hitems hgov hu hu0 hpast hk
        s.intake.consumeOffset hi
      have hbreaks := hsame.letter_breaks htodo htake hpast.state (by rw [hi]; exact hletter) hletters hchoice hroom rfl hfits
      have hfontSub : i.attr?.any (·.fontSub) = s.composer.fontSub := by
        rw [hi]
        rfl
      rw [JobFlags.withItem_afterBreak, hfontSub] at hbreaks
      exact ⟨_, _, _, _, State.letter_endsIn hnext hletter hpast.state, hbreaks, rfl, fun _ => ⟨rfl, rfl⟩,
        fun _ h => (nomatch h)⟩
    · obtain ⟨hnextItems, hnextK, g, hgov, hfit⟩ := hspace rfl
      have hbreaks := hsame.space_breaks htodo hstate hchoice hroom rfl hfits hnextItems hnextK hgov hfit rfl
      refine ⟨_, _, _, _, State.space_endsIn hnext (.inr hstate) rfl, hbreaks, rfl, fun h => (nomatch h), fun g' _ hg' => ?_⟩
      cases hgov.symm.trans hg'
      exact ⟨rfl, rfl⟩
  case wide =>
    intro s w f r u a e hnext ⟨hstate, htodo⟩ hlow hhigh hletter hcurrent hready hwidths hitems hu hu0 hwide hroom ha he
    have hbreaks := (s.consume_sameCopy w).wide_breaks (s.consume_font w) htodo hstate hletter hcurrent hready hwidths hitems
      hu hu0 hwide hroom s.intake.consumeOffset ha he
    refine ⟨_, State.character_endsIn hnext hlow hhigh (.inl hstate) rfl, hbreaks.frame, hbreaks.inUse, hbreaks.status,
      hbreaks.queue, hbreaks.intake.trans ?_, hbreaks.composer.trans ?_⟩
    · rw [JobFlags.withItem_afterBreak]
      unfold JobFlags.afterBreak discarding
      simp only [Bool.or_true, Option.any_none, Bool.or_false]
      rfl
    · have hladder : ladderAfter s.composer.ladder [e] = 0 := by
        rw [he]
        rfl
      rw [Composer.afterBreaking_eq htodo]
      show ({ s.composer with
        line := Line.empty, word := WordRun.none, state := .setting, noFont := false, pendingMarks := []
        ladder := ladderAfter s.composer.ladder [e] } : Composer) = _
      rw [hladder, ← hstate]

end Sys2Proof.Machine
end
